-- ==== Sys2Proof/Word.lean ====
section
/-! DEFINITION. The byte, and a table of a fixed number of like things. -/

namespace Sys2Proof

/-- One byte of a frame (spec 12.1). -/
abbrev Byte := BitVec 8

/-- A table of `n` places that are all present: the depositor slots, the bins, the denominations.
The list carries its length, so that no place can be missing. -/
structure Tab (α : Type) (n : Nat) where
  cells : List α
  size : cells.length = n
  deriving DecidableEq, Repr

namespace Tab

variable {α β γ : Type} {n : Nat}

/-- The table whose every place holds `a`. -/
def fill (n : Nat) (a : α) : Tab α n := ⟨List.replicate n a, List.length_replicate⟩

/-- What place `i` holds. -/
def get (t : Tab α n) (i : Fin n) : α := t.cells[i.val]'(by rw [t.size]; exact i.isLt)

/-- The table with place `i` holding `a`. -/
def put (t : Tab α n) (i : Fin n) (a : α) : Tab α n := ⟨t.cells.set i.val a, by simp [t.size]⟩

/-- The table with `f` applied at every place. -/
def map (f : α → β) (t : Tab α n) : Tab β n := ⟨t.cells.map f, by simp [t.size]⟩

/-- Two tables of one size, joined place by place. -/
def zipWith (f : α → β → γ) (t : Tab α n) (u : Tab β n) : Tab γ n :=
  ⟨List.zipWith f t.cells u.cells, by simp [t.size, u.size]⟩

end Tab

end Sys2Proof
end

