-- ==== Sys2Proof/Syntax.lean ====
section
/-! DEFINITION. The commands of the block, one constructor per row of spec/opcode_table.json, and what
their operands are made of. -/

namespace Sys2Proof

/-- The four hatches, numbered 1 to 4 (00 §0.6). -/
inductive Hatch | h1 | h2 | h3 | h4
  deriving DecidableEq, Repr

/-- A hatch's number. -/
def Hatch.num : Hatch → Nat
  | .h1 => 1
  | .h2 => 2
  | .h3 => 3
  | .h4 => 4

/-- The hatches in order. -/
def Hatch.all : List Hatch := [.h1, .h2, .h3, .h4]

/-- Bins are numbered 0 to 29 (00 §0.6). -/
abbrev BinNo := Fin 30

/-- A weekday, 0 for Monday, and a second of the day (R137). -/
structure ClockTime where
  day : Fin 7
  sec : Fin 86400
  deriving DecidableEq, Repr, Inhabited

/-! ## What a hatch head sends -/

/-- The flap field of a REPORT (R158). -/
inductive Flap | shutLocked | shutUnlocked | opened
  deriving DecidableEq, Repr

/-- One line of a declaration (Table 2-1). -/
structure Line where
  denom : Nat
  count : Nat
  deriving DecidableEq, Repr

/-- A declaration as the head latches it; its values are not range-checked by the port (R149). -/
structure Declaration where
  serial : Nat
  bagClass : Nat
  lines : List Line
  total : Nat
  deriving DecidableEq, Repr

/-- The content of a REPORT (R158, Table 12-7). -/
structure HeadReport where
  flap : Flap
  bag : Bool
  stable : Bool
  raw : Int
  arrival : BitVec 8
  release : BitVec 8
  trayCount : Nat
  tamper : Bool
  chuteBlocked : Bool
  printerFault : Bool
  token : Option Nat
  declaration : Option Declaration
  deriving DecidableEq, Repr

/-- A set of head capabilities (R154). -/
structure Caps where
  weigh : Bool
  scan : Bool
  print : Bool
  flapDrive : Bool
  deriving DecidableEq, Repr

/-- The content of an ANSWER (R154). -/
structure HeadAnswer where
  caps : Caps
  depth : Nat
  trayCount : Nat
  deriving DecidableEq, Repr

/-- A valid frame of a head. -/
inductive HeadFrame
  | report (r : HeadReport)
  | answer (a : HeadAnswer)
  deriving DecidableEq, Repr

/-! ## Parameters of the office requests (Table 12-1)

Every number is the unsigned value of its field, but Z, which is signed. -/

/-- The parameters of a request: they fit the command's layout, or they do not, and then the bytes
are kept as they came (R170, step 3). -/
inductive Params (α : Type) where
  | fits (a : α)
  | misfit (bytes : List Byte)
  deriving DecidableEq, Repr

structure NoticeArgs where
  count : Nat
  time : Nat
  deriving DecidableEq, Repr

structure ClockArgs where
  weekday : Nat
  seconds : Nat
  deriving DecidableEq, Repr

structure ScheduleArgs where
  window : Nat
  start : Nat
  stop : Nat
  mask : Nat
  deriving DecidableEq, Repr

structure DepositorArgs where
  token : Nat
  reference : Nat
  state : Nat
  windowClass : Nat
  homeBin : Nat
  maxBags : Nat
  maxValue : Nat
  deriving DecidableEq, Repr

structure DepositorStateArgs where
  token : Nat
  state : Nat
  deriving DecidableEq, Repr

structure DenomArgs where
  index : Nat
  kind : Nat
  face : Nat
  mass : Nat
  deriving DecidableEq, Repr

structure TareArgs where
  bagClass : Nat
  tare : Nat
  deriving DecidableEq, Repr

structure ToleranceArgs where
  fixedPart : Nat
  perMille : Nat
  deriving DecidableEq, Repr

/-- A first and a last: a range of serials, or the map's access window. -/
structure RangeArgs where
  first : Nat
  last : Nat
  deriving DecidableEq, Repr

structure MapWriteArgs where
  count : Nat
  bits : List Byte
  deriving DecidableEq, Repr

structure JournalReadArgs where
  start : Nat
  count : Nat
  deriving DecidableEq, Repr

structure HatchConfigArgs where
  hatch : Nat
  enable : Nat
  printOffered : Nat
  depth : Nat
  divider : Nat
  aux : Nat
  autoPolarity : Nat
  deriving DecidableEq, Repr

structure CalibrateArgs where
  hatch : Nat
  zero : Int
  span : Nat
  band : Nat
  deriving DecidableEq, Repr

structure ShowArgs where
  hatch : Nat
  code : Nat
  deriving DecidableEq, Repr

/-! ## Other operands -/

/-- Why an office frame is discarded (R168). -/
inductive OfficeFrameFault | badLength | badCheck | notRequest
  deriving DecidableEq, Repr

/-- The office link rate that the RATE strap selects (R168, R186). -/
inductive Rate | baud19200 | baud38400 | baud57600 | baud115200
  deriving DecidableEq, Repr

/-- How far a start-up comes before a power fail or the reset input ends it (R187, R188).
`cutAfter n` abandons it at the end of phase `n`; the two others fall inside phase 2, after the
retained store has been set afresh: before the epoch write, and within it. -/
inductive StartUpEnd
  | completes
  | cutAfter (phase : Nat)
  | cutBeforeEpochWrite
  | cutInEpochWrite
  deriving DecidableEq, Repr

/-- An event that falls between two phases of a start-up: an advance of the clock, taken throughout; a
change of a store line input and the homing deadline, taken from phase 5 on; a change of an aux contact
(R163, R188, R190). -/
inductive StartEvent
  | clockAdvance
  | atPosition (b : BinNo)
  | home
  | dropPulse
  | doorOpens
  | doorCloses
  | homingTimeout
  | contact (h : Hatch) (contactOpen : Bool)
  deriving DecidableEq, Repr

/-- What a start-up finds outside itself: the straps, whether the retained store's content and check
value agree, whether the power lasts, and the events that fall between its phases, in order, each with the
phase after whose end it falls. -/
structure StartUpArgs where
  hatches : Nat
  rate : Rate
  retainedIntact : Bool
  ending : StartUpEnd
  during : List (Nat × StartEvent)
  deriving DecidableEq, Repr

/-- The commands. Each docstring of a meaning in Sys2Proof/Machine names its rule. -/
inductive Instr
  | statusRead (p : Params Unit)
  | hatchRead (p : Params Nat)
  | countersRead (p : Params Unit)
  | countersClear (p : Params Unit)
  | alertClear (p : Params Nat)
  | alertMask (p : Params Nat)
  | noticeSet (p : Params NoticeArgs)
  | reset (p : Params Unit)
  | setClock (p : Params ClockArgs)
  | schedulePut (p : Params ScheduleArgs)
  | scheduleRead (p : Params Unit)
  | intakeStart (p : Params Unit)
  | intakeStop (p : Params Unit)
  | depositorPut (p : Params DepositorArgs)
  | depositorDrop (p : Params Nat)
  | depositorState (p : Params DepositorStateArgs)
  | depositorRead (p : Params Nat)
  | denomPut (p : Params DenomArgs)
  | tarePut (p : Params TareArgs)
  | toleranceSet (p : Params ToleranceArgs)
  | massTablesRead (p : Params Unit)
  | screenMode (p : Params Nat)
  | screenRangeAdd (p : Params RangeArgs)
  | screenRangeClear (p : Params Unit)
  | screenRead (p : Params Nat)
  | mapWindow (p : Params RangeArgs)
  | mapWrite (p : Params MapWriteArgs)
  | mapRead (p : Params Nat)
  | mapClear (p : Params Unit)
  | coverSet (p : Params Nat)
  | coverRead (p : Params Unit)
  | journalRead (p : Params JournalReadArgs)
  | journalResolve (p : Params Nat)
  | journalRelease (p : Params Unit)
  | binClear (p : Params Nat)
  | binWithdraw (p : Params Nat)
  | binRestore (p : Params Nat)
  | binRead (p : Params Nat)
  | carouselHome (p : Params Unit)
  | hatchConfig (p : Params HatchConfigArgs)
  | hatchCalibrate (p : Params CalibrateArgs)
  | hatchRelink (p : Params Nat)
  | hatchShow (p : Params ShowArgs)
  | hatchClear (p : Params Nat)
  | storeTables (p : Params Unit)
  | storeTablesDone
  | loadTables (p : Params Unit)
  | unknownCommand (body : List Byte)
  | officeBadFrame (why : OfficeFrameFault)
  | officeGapTimeout
  | transmitEnd
  | mitigationTimer
  /-- `inReception`: a frame was still in reception as the port began to send (R149). -/
  | poll (h : Hatch) (inReception : Bool)
  | miss (h : Hatch)
  /-- `inReception` as above; unless said, none was. -/
  | holdOffExpiry (h : Hatch) (inReception : Bool := false)
  | offer (h : Hatch) (inReception : Bool)
  /-- `complemented`: every byte came complemented in the port's present sense (R151). -/
  | answer (h : Hatch) (complemented : Bool) (a : HeadAnswer)
  | report (h : Hatch) (complemented : Bool) (r : HeadReport)
  | hatchBadFrame (h : Hatch)
  | complementedFrame (h : Hatch) (f : HeadFrame)
  | jabber (h : Hatch)
  /-- `contactOpen`: the contact's new level; `true` is the opening of the row, `false` the closing. -/
  | surroundOpening (h : Hatch) (contactOpen : Bool)
  | declTimeout (h : Hatch)
  | openTimeout (h : Hatch)
  | weighingTimeout (h : Hatch)
  | tippingTimeout (h : Hatch)
  | clockAdvance
  | atPosition (b : BinNo)
  | home
  | dropPulse
  | doorOpens
  | doorCloses
  | homingTimeout
  | moveTimeout
  | deliveryTimeout
  /-- `inEpochWrite`: the event falls before an epoch write under way has ended (R183, R187); unless said, it
  does not. -/
  | powerFail (inEpochWrite : Bool := false)
  | resetInput (inEpochWrite : Bool := false)
  | startUp (a : StartUpArgs)
  deriving DecidableEq, Repr

end Sys2Proof
end

