-- ==== Sys2Proof/Decode.lean ====
section
/-! DEFINITION. The bytes of an office request body and the command they spell (R170, Table 12-1), the
body of a request, and the answer to a word of the opcode table, which gives no row any bits. -/

namespace Sys2Proof

/-! ## Numbers as bytes, most significant byte first (spec 12.2) -/

/-- The low `n` bytes of `v`, most significant first. -/
def bytesOf : Nat → Nat → List Byte
  | 0, _ => []
  | n + 1, v => BitVec.ofNat 8 (v / 256 ^ n) :: bytesOf n v

/-- The unsigned number that bytes spell, most significant first. -/
def natOf (bs : List Byte) : Nat := bs.foldl (fun a b => a * 256 + b.toNat) 0

/-- The 24-bit two's complement field of a raw count or of Z. -/
def signed24 (n : Nat) : Int := (BitVec.ofNat 24 n).toInt

/-- A raw count or Z as an unsigned 24-bit field. -/
def unsigned24 (z : Int) : Nat := (BitVec.ofInt 24 z).toNat

/-- The fields of a layout: `none` where the bytes are fewer or more than the widths ask. -/
def splitFields : List Nat → List Byte → Option (List Nat)
  | [], [] => some []
  | [], _ :: _ => none
  | w :: ws, bs =>
    if bs.length < w then none
    else
      match splitFields ws (bs.drop w) with
      | some vs => some (natOf (bs.take w) :: vs)
      | none => none

/-! ## Reading the parameters of a request -/

/-- Parameters by their layout; what does not fit is kept as it came (R170, step 3). -/
def readParams {α : Type} (widths : List Nat) (make : List Nat → Option α) (ps : List Byte) : Params α :=
  match splitFields widths ps with
  | some vs =>
    match make vs with
    | some a => .fits a
    | none => .misfit ps
  | none => .misfit ps

/-- A command without parameters. -/
def readNone (ps : List Byte) : Params Unit :=
  readParams [] (fun | [] => some () | _ => none) ps

/-- A command with one unsigned parameter. -/
def readOne (w : Nat) (ps : List Byte) : Params Nat :=
  readParams [w] (fun | [a] => some a | _ => none) ps

def readNotice (ps : List Byte) : Params NoticeArgs :=
  readParams [1, 2] (fun | [n, t] => some ⟨n, t⟩ | _ => none) ps

def readClock (ps : List Byte) : Params ClockArgs :=
  readParams [1, 3] (fun | [d, t] => some ⟨d, t⟩ | _ => none) ps

def readSchedule (ps : List Byte) : Params ScheduleArgs :=
  readParams [1, 2, 2, 1] (fun | [w, a, b, m] => some ⟨w, a, b, m⟩ | _ => none) ps

def readDepositor (ps : List Byte) : Params DepositorArgs :=
  readParams [4, 4, 1, 1, 1, 1, 4]
    (fun | [t, r, s, w, h, b, v] => some ⟨t, r, s, w, h, b, v⟩ | _ => none) ps

def readDepositorState (ps : List Byte) : Params DepositorStateArgs :=
  readParams [4, 1] (fun | [t, s] => some ⟨t, s⟩ | _ => none) ps

def readDenom (ps : List Byte) : Params DenomArgs :=
  readParams [1, 1, 2, 2] (fun | [i, k, f, m] => some ⟨i, k, f, m⟩ | _ => none) ps

def readTare (ps : List Byte) : Params TareArgs :=
  readParams [1, 2] (fun | [c, t] => some ⟨c, t⟩ | _ => none) ps

def readTolerance (ps : List Byte) : Params ToleranceArgs :=
  readParams [2, 1] (fun | [f, p] => some ⟨f, p⟩ | _ => none) ps

/-- A first and a last of `w` bytes each. -/
def readRange (w : Nat) (ps : List Byte) : Params RangeArgs :=
  readParams [w, w] (fun | [a, b] => some ⟨a, b⟩ | _ => none) ps

/-- MAP_WRITE is tested here only for its fixed parameter, the count (R170, step 3). -/
def readMapWrite : List Byte → Params MapWriteArgs
  | a :: b :: bits => .fits ⟨natOf [a, b], bits⟩
  | ps => .misfit ps

def readJournal (ps : List Byte) : Params JournalReadArgs :=
  readParams [4, 1] (fun | [f, c] => some ⟨f, c⟩ | _ => none) ps

def readHatchConfig (ps : List Byte) : Params HatchConfigArgs :=
  readParams [1, 1, 1, 1, 1, 1, 1]
    (fun | [h, e, p, d, v, a, y] => some ⟨h, e, p, d, v, a, y⟩ | _ => none) ps

def readCalibrate (ps : List Byte) : Params CalibrateArgs :=
  readParams [1, 3, 2, 2] (fun | [h, z, k, b] => some ⟨h, signed24 z, k, b⟩ | _ => none) ps

def readShow (ps : List Byte) : Params ShowArgs :=
  readParams [1, 1] (fun | [h, c] => some ⟨h, c⟩ | _ => none) ps

/-! ## Command codes (Table 12-1) -/

/-- Every code that names a command. -/
def commandCodes : List Nat :=
  [0x01, 0x02, 0x03, 0x04, 0x05, 0x06, 0x07, 0x08, 0x10, 0x11, 0x12, 0x13, 0x14, 0x20, 0x21, 0x22, 0x23,
   0x28, 0x29, 0x2A, 0x2B, 0x30, 0x31, 0x32, 0x33, 0x34, 0x35, 0x36, 0x37, 0x40, 0x41, 0x48, 0x49, 0x4A,
   0x50, 0x51, 0x52, 0x53, 0x54, 0x60, 0x61, 0x62, 0x63, 0x64, 0x70, 0x71]

/-- The command that a request body spells (R170). -/
def decodeRequest : List Byte → Instr
  | [] => .unknownCommand []
  | c :: ps =>
    match c.toNat with
    | 0x01 => .statusRead (readNone ps)
    | 0x02 => .hatchRead (readOne 1 ps)
    | 0x03 => .countersRead (readNone ps)
    | 0x04 => .countersClear (readNone ps)
    | 0x05 => .alertClear (readOne 4 ps)
    | 0x06 => .alertMask (readOne 4 ps)
    | 0x07 => .noticeSet (readNotice ps)
    | 0x08 => .reset (readNone ps)
    | 0x10 => .setClock (readClock ps)
    | 0x11 => .schedulePut (readSchedule ps)
    | 0x12 => .scheduleRead (readNone ps)
    | 0x13 => .intakeStart (readNone ps)
    | 0x14 => .intakeStop (readNone ps)
    | 0x20 => .depositorPut (readDepositor ps)
    | 0x21 => .depositorDrop (readOne 4 ps)
    | 0x22 => .depositorState (readDepositorState ps)
    | 0x23 => .depositorRead (readOne 4 ps)
    | 0x28 => .denomPut (readDenom ps)
    | 0x29 => .tarePut (readTare ps)
    | 0x2A => .toleranceSet (readTolerance ps)
    | 0x2B => .massTablesRead (readNone ps)
    | 0x30 => .screenMode (readOne 1 ps)
    | 0x31 => .screenRangeAdd (readRange 5 ps)
    | 0x32 => .screenRangeClear (readNone ps)
    | 0x33 => .screenRead (readOne 1 ps)
    | 0x34 => .mapWindow (readRange 2 ps)
    | 0x35 => .mapWrite (readMapWrite ps)
    | 0x36 => .mapRead (readOne 2 ps)
    | 0x37 => .mapClear (readNone ps)
    | 0x40 => .coverSet (readOne 4 ps)
    | 0x41 => .coverRead (readNone ps)
    | 0x48 => .journalRead (readJournal ps)
    | 0x49 => .journalResolve (readOne 4 ps)
    | 0x4A => .journalRelease (readNone ps)
    | 0x50 => .binClear (readOne 1 ps)
    | 0x51 => .binWithdraw (readOne 1 ps)
    | 0x52 => .binRestore (readOne 1 ps)
    | 0x53 => .binRead (readOne 1 ps)
    | 0x54 => .carouselHome (readNone ps)
    | 0x60 => .hatchConfig (readHatchConfig ps)
    | 0x61 => .hatchCalibrate (readCalibrate ps)
    | 0x62 => .hatchRelink (readOne 1 ps)
    | 0x63 => .hatchShow (readShow ps)
    | 0x64 => .hatchClear (readOne 1 ps)
    | 0x70 => .storeTables (readNone ps)
    | 0x71 => .loadTables (readNone ps)
    | _ => .unknownCommand (c :: ps)

/-! ## The body of a request -/

/-- The bytes of parameters: a layout's fields, or the bytes that fitted none. -/
def Params.bytes {α : Type} (write : α → List Byte) : Params α → List Byte
  | .fits a => write a
  | .misfit bs => bs

/-- The body of a command with its code. -/
def requestBytes {α : Type} (code : Nat) (p : Params α) (write : α → List Byte) : Option (List Byte) :=
  some (BitVec.ofNat 8 code :: p.bytes write)

/-- The request body that carries a command: none for a command that is no office request. -/
def encodeRequest : Instr → Option (List Byte)
  | .statusRead p => requestBytes 0x01 p fun _ => []
  | .hatchRead p => requestBytes 0x02 p (bytesOf 1)
  | .countersRead p => requestBytes 0x03 p fun _ => []
  | .countersClear p => requestBytes 0x04 p fun _ => []
  | .alertClear p => requestBytes 0x05 p (bytesOf 4)
  | .alertMask p => requestBytes 0x06 p (bytesOf 4)
  | .noticeSet p => requestBytes 0x07 p fun a => bytesOf 1 a.count ++ bytesOf 2 a.time
  | .reset p => requestBytes 0x08 p fun _ => []
  | .setClock p => requestBytes 0x10 p fun a => bytesOf 1 a.weekday ++ bytesOf 3 a.seconds
  | .schedulePut p => requestBytes 0x11 p fun a =>
      bytesOf 1 a.window ++ (bytesOf 2 a.start ++ (bytesOf 2 a.stop ++ bytesOf 1 a.mask))
  | .scheduleRead p => requestBytes 0x12 p fun _ => []
  | .intakeStart p => requestBytes 0x13 p fun _ => []
  | .intakeStop p => requestBytes 0x14 p fun _ => []
  | .depositorPut p => requestBytes 0x20 p fun a =>
      bytesOf 4 a.token ++ (bytesOf 4 a.reference ++ (bytesOf 1 a.state ++ (bytesOf 1 a.windowClass
        ++ (bytesOf 1 a.homeBin ++ (bytesOf 1 a.maxBags ++ bytesOf 4 a.maxValue)))))
  | .depositorDrop p => requestBytes 0x21 p (bytesOf 4)
  | .depositorState p => requestBytes 0x22 p fun a => bytesOf 4 a.token ++ bytesOf 1 a.state
  | .depositorRead p => requestBytes 0x23 p (bytesOf 4)
  | .denomPut p => requestBytes 0x28 p fun a =>
      bytesOf 1 a.index ++ (bytesOf 1 a.kind ++ (bytesOf 2 a.face ++ bytesOf 2 a.mass))
  | .tarePut p => requestBytes 0x29 p fun a => bytesOf 1 a.bagClass ++ bytesOf 2 a.tare
  | .toleranceSet p => requestBytes 0x2A p fun a => bytesOf 2 a.fixedPart ++ bytesOf 1 a.perMille
  | .massTablesRead p => requestBytes 0x2B p fun _ => []
  | .screenMode p => requestBytes 0x30 p (bytesOf 1)
  | .screenRangeAdd p => requestBytes 0x31 p fun a => bytesOf 5 a.first ++ bytesOf 5 a.last
  | .screenRangeClear p => requestBytes 0x32 p fun _ => []
  | .screenRead p => requestBytes 0x33 p (bytesOf 1)
  | .mapWindow p => requestBytes 0x34 p fun a => bytesOf 2 a.first ++ bytesOf 2 a.last
  | .mapWrite p => requestBytes 0x35 p fun a => bytesOf 2 a.count ++ a.bits
  | .mapRead p => requestBytes 0x36 p (bytesOf 2)
  | .mapClear p => requestBytes 0x37 p fun _ => []
  | .coverSet p => requestBytes 0x40 p (bytesOf 4)
  | .coverRead p => requestBytes 0x41 p fun _ => []
  | .journalRead p => requestBytes 0x48 p fun a => bytesOf 4 a.start ++ bytesOf 1 a.count
  | .journalResolve p => requestBytes 0x49 p (bytesOf 4)
  | .journalRelease p => requestBytes 0x4A p fun _ => []
  | .binClear p => requestBytes 0x50 p (bytesOf 1)
  | .binWithdraw p => requestBytes 0x51 p (bytesOf 1)
  | .binRestore p => requestBytes 0x52 p (bytesOf 1)
  | .binRead p => requestBytes 0x53 p (bytesOf 1)
  | .carouselHome p => requestBytes 0x54 p fun _ => []
  | .hatchConfig p => requestBytes 0x60 p fun a =>
      bytesOf 1 a.hatch ++ (bytesOf 1 a.enable ++ (bytesOf 1 a.printOffered ++ (bytesOf 1 a.depth
        ++ (bytesOf 1 a.divider ++ (bytesOf 1 a.aux ++ bytesOf 1 a.autoPolarity)))))
  | .hatchCalibrate p => requestBytes 0x61 p fun a =>
      bytesOf 1 a.hatch ++ (bytesOf 3 (unsigned24 a.zero) ++ (bytesOf 2 a.span ++ bytesOf 2 a.band))
  | .hatchRelink p => requestBytes 0x62 p (bytesOf 1)
  | .hatchShow p => requestBytes 0x63 p fun a => bytesOf 1 a.hatch ++ bytesOf 1 a.code
  | .hatchClear p => requestBytes 0x64 p (bytesOf 1)
  | .storeTables p => requestBytes 0x70 p fun _ => []
  | .loadTables p => requestBytes 0x71 p fun _ => []
  | .unknownCommand body => some body
  | .storeTablesDone => none
  | .officeBadFrame _ => none
  | .officeGapTimeout => none
  | .transmitEnd => none
  | .mitigationTimer => none
  | .poll _ _ => none
  | .miss _ => none
  | .holdOffExpiry _ _ => none
  | .offer _ _ => none
  | .answer _ _ _ => none
  | .report _ _ _ => none
  | .hatchBadFrame _ => none
  | .complementedFrame _ _ => none
  | .jabber _ => none
  | .surroundOpening _ _ => none
  | .declTimeout _ => none
  | .openTimeout _ => none
  | .weighingTimeout _ => none
  | .tippingTimeout _ => none
  | .clockAdvance => none
  | .atPosition _ => none
  | .home => none
  | .dropPulse => none
  | .doorOpens => none
  | .doorCloses => none
  | .homingTimeout => none
  | .moveTimeout => none
  | .deliveryTimeout => none
  | .powerFail _ => none
  | .resetInput _ => none
  | .startUp _ => none

/-- The command that a word of the opcode table spells: the table gives no row any bits, so no word
spells one (log entry 1). -/
def decodeTableWord (_nbits _w : Nat) : Option Instr := none

end Sys2Proof
end

