-- ==== Sys2Proof/Config.lean ====
section
/-! DEFINITION. What the manual fixes as numbers, and the free values it leaves open. -/

namespace Sys2Proof.Config

/-! ## Timeouts and intervals, in milliseconds -/

/-- AWAIT_DECL, 30 s (R4). -/
def declTime : Nat := 30000
/-- OPEN, 60 s (R4). -/
def openTime : Nat := 60000
/-- WEIGHING, 4 s (R4). -/
def weighTime : Nat := 4000
/-- TIPPING, 5 s (R4). -/
def tipTime : Nat := 5000
/-- HOMING, 40 s (R121). -/
def homingTime : Nat := 40000
/-- MOVING, 25 s (R121). -/
def moveTime : Nat := 25000
/-- DELIVERING, 8 s (R121). -/
def deliveryTime : Nat := 8000
/-- HOLD_OFF, 1.5 s (R152). -/
def holdOffTime : Nat := 1500
/-- Between two OFFERs, 100 ms (R152). -/
def offerTime : Nat := 100
/-- The reply window of a POLL, 15 ms (R156). -/
def windowTime : Nat := 15
/-- One second of the clock (R137). -/
def second : Nat := 1000

/-- The poll interval of a divider, 10 ms × (divider + 1) (R156). -/
def pollInterval (divider : Nat) : Nat := 10 * (divider + 1)

/-! ## Sizes and limits -/

/-- The largest cover limit (R90). -/
def maxLimit : Nat := 4000000000
/-- The largest bag serial (R49). -/
def maxSerial : Nat := 9999999999
/-- The largest declared total (R31). -/
def maxTotal : Nat := 99999999
/-- The largest token and journal number (R66, R94). -/
def maxWord : Nat := 4294967295
/-- The heaviest declaration and the saturated measured mass, in grams (R39, R44). -/
def maxMass : Nat := 20000
/-- The places of the journal (R94). -/
def journalSize : Nat := 512
/-- The near-full condition of the journal (R109). -/
def journalNear : Nat := 448
/-- The near condition of the store (R114). -/
def storeNear : Nat := 6
/-- The most ranges of the screen (R50). -/
def maxRanges : Nat := 32
/-- The positions of the suspect map (R57). -/
def mapSize : Nat := 1021
/-- The most bits of one map request (R59, R60). -/
def maxMapBits : Nat := 1600
/-- Where a counter saturates (00 §0.6). -/
def maxCount : Nat := 65535
/-- The mass at which a regular bin is no longer light, in grams (R115). -/
def lightLimit : Nat := 15000

/-- A bin's capacity in bags (R111). -/
def binCapacity (b : BinNo) : Nat := if b.val = 0 then 24 else 12

/-- A bin's mass preference limit as BIN_READ sends it, 0 for bin 0 (R111, Table 12-6). -/
def massPreference (b : BinNo) : Nat := if b.val = 0 then 0 else lightLimit

/-! ## Free values

What the manual leaves open after an event that goes on. None has a body, so nothing can be proved
of its value. -/

/-- The release target of a delivery that begins while the store controller holds no release counts
for the hatch, by the entry's journal number. R125 forms the target from the allowed count and R130
holds none before the baseline (log entry 5). -/
opaque freeReleaseTarget : Nat → BitVec 8

/-- The bin of a bag for which no bin has room, by its journal number. R115 says that the assignment
always finds a bin, so no rule says what happens here (log entry 6). -/
opaque freeBin : Nat → BinNo

/-- The weekday and second of an entry's creation while the clock is UNSET, by the journal number. R95
says that the clock is SET at every creation (log entry 7). -/
opaque freeCreation : Nat → ClockTime

/-- The weekday and second of an entry's filing while the clock is UNSET, by the journal number. R95 says
that the clock is SET at every filing (log entry 7). -/
opaque freeFiling : Nat → ClockTime

/-- The arrival counter from which the target of a weighing timeout is formed, while no report is held, by
the journal number. A machine in WEIGHING has always received one (R18; log entry 20). -/
opaque freeArrival : Nat → BitVec 8

end Sys2Proof.Config
end

