-- ==== Sys2Proof/Machine/State.lean ====
section
/-! DEFINITION. Everything the spec gives the machine to hold, as plain data, and its value after reset.
INVENTORY.md lists every field with its rule. -/

namespace Sys2Proof.Machine

open Sys2Proof

/-- One value for each hatch. -/
structure PerHatch (α : Type) where
  h1 : α
  h2 : α
  h3 : α
  h4 : α
  deriving DecidableEq, Repr

/-- The same value for every hatch. -/
def PerHatch.all {α : Type} (a : α) : PerHatch α := ⟨a, a, a, a⟩

/-- A hatch's value. -/
def PerHatch.get {α : Type} (p : PerHatch α) : Hatch → α
  | .h1 => p.h1
  | .h2 => p.h2
  | .h3 => p.h3
  | .h4 => p.h4

/-- The values with hatch `h`'s replaced. -/
def PerHatch.set {α : Type} (p : PerHatch α) (h : Hatch) (a : α) : PerHatch α :=
  match h with
  | .h1 => { p with h1 := a }
  | .h2 => { p with h2 := a }
  | .h3 => { p with h3 := a }
  | .h4 => { p with h4 := a }

/-! ## Table memory (11, R183) -/

inductive DepositorState | active | suspended
  deriving DecidableEq, Repr

/-- A depositor entry, Table 4-1 (R66). -/
structure DepositorEntry where
  token : Nat
  reference : Nat
  state : DepositorState
  windowClass : Nat
  homeBin : Nat
  maxBags : Nat
  maxValue : Nat
  deriving DecidableEq, Repr

/-- A slot of the depositor table: bucket × 4 + way (R64, spec 12.2). -/
abbrev Slot := Fin 512

/-- A denomination entry (R32). -/
inductive Denom
  | note (face mass : Nat)
  | coin (face mass : Nat)
  | void
  deriving DecidableEq, Repr

/-- A schedule window: start and end in minutes, weekday mask with bit d for weekday d (R139). -/
structure Window where
  start : Nat
  stop : Nat
  mask : BitVec 7
  deriving DecidableEq, Repr

inductive ScreenMode | off | revoke | issue
  deriving DecidableEq, Repr

/-- A range of serials, both ends included (R50). -/
structure SerialRange where
  first : Nat
  last : Nat
  deriving DecidableEq, Repr

inductive AuxFunction | none | surround | lamp
  deriving DecidableEq, Repr

/-- A hatch configuration (R165). -/
structure HatchConfig where
  enable : Bool
  printOffered : Bool
  depth : Nat
  divider : Nat
  aux : AuxFunction
  autoPolarity : Bool
  deriving DecidableEq, Repr

/-- A hatch calibration: Z, K and B (R42). -/
structure Calibration where
  zero : Int
  span : Nat
  band : Nat
  deriving DecidableEq, Repr

/-- A set of alert flags, bit n for the flag at position n of Table 12-8 (R175, R196). -/
abbrev FlagSet := BitVec 21

/-- Every item that the table store keeps, but the epoch (R183). -/
structure Tables where
  depositors : Tab (Option DepositorEntry) 512
  denoms : Tab Denom 16
  tares : Tab Nat 4
  windows : Tab Window 8
  screenMode : ScreenMode
  ranges : List SerialRange
  suspectMap : Tab Bool 1021
  fixedPart : Nat
  perMille : Nat
  limit : Nat
  noticeCount : Nat
  noticeTime : Nat
  alertMask : FlagSet
  configs : PerHatch HatchConfig
  calibrations : PerHatch Calibration
  deriving DecidableEq, Repr

/-- The defaults of table memory (R189). -/
def Tables.defaults : Tables where
  depositors := Tab.fill 512 none
  denoms := Tab.fill 16 .void
  tares := Tab.fill 4 0
  windows := Tab.fill 8 ⟨0, 0, 0⟩
  screenMode := .off
  ranges := []
  suspectMap := Tab.fill 1021 false
  fixedPart := 20
  perMille := 25
  limit := 0
  noticeCount := 4
  noticeTime := 30
  alertMask := 0
  configs := PerHatch.all ⟨true, true, 3, 4, .none, true⟩
  calibrations := PerHatch.all ⟨0, 1000, 200⟩

/-- The nonvolatile table store: whether its check value agrees, what it holds, and whether the epoch write
of a journal wrap is under way (R183, R187; log entry 21). -/
structure TableStore where
  good : Bool
  tables : Tables
  epoch : Nat
  writing : Bool
  deriving DecidableEq, Repr

/-- The night counters of a slot, with the token they belong to (R73). -/
structure NightCount where
  bags : Nat
  value : Nat
  token : Option Nat
  deriving DecidableEq, Repr

/-- The suspect map's access window and pointer (R57). -/
structure MapAccess where
  first : Nat
  last : Nat
  pointer : Nat
  deriving DecidableEq, Repr

/-- The window and pointer after every reset (R57). -/
def MapAccess.whole : MapAccess := ⟨0, 1020, 0⟩

/-- The straps as latched (R186). -/
structure Straps where
  hatches : Nat
  rate : Rate
  deriving DecidableEq, Repr

/-! ## Cover account and journal (05, 06) -/

/-- S, H and the near mark; C is in the tables (R81). -/
structure Cover where
  committed : Nat
  held : Nat
  near : Bool
  deriving DecidableEq, Repr

inductive EntryState | inChute | inTray | binned | stranded | reconciled
  deriving DecidableEq, Repr

inductive Verdict | accepted | quarantined
  deriving DecidableEq, Repr

/-- The reason set of a verdict (R45). -/
structure Reasons where
  tagSuspect : Bool
  overrange : Bool
  low : Bool
  high : Bool
  unstable : Bool
  deriving DecidableEq, Repr

def Reasons.empty : Reasons := ⟨false, false, false, false, false⟩

/-- The route flags of an assignment (R95, R115). -/
structure Route where
  diverted : Bool
  heavyBin : Bool
  deriving DecidableEq, Repr

def Route.empty : Route := ⟨false, false⟩

/-- A journal entry, Table 6-1 (R95). -/
structure Entry where
  number : Nat
  epoch : Nat
  created : ClockTime
  hatch : Hatch
  slot : Slot
  token : Nat
  reference : Nat
  serial : Nat
  bagClass : Nat
  lines : List Line
  total : Nat
  expected : Nat
  mass : Option Nat
  verdict : Option Verdict
  reasons : Reasons
  route : Route
  bin : Option BinNo
  state : EntryState
  binned : Option ClockTime
  deriving DecidableEq, Repr

/-- The journal: the entry ring, oldest first, and its counters (R94). -/
structure Journal where
  entries : List Entry
  next : Nat
  last : Nat
  epoch : Nat
  slotHolds : Nat
  near : Bool
  deriving DecidableEq, Repr

/-! ## Store controller (07) -/

inductive BinState | opened | full | withdrawn | unknown
  deriving DecidableEq, Repr

/-- A bin record (R111). -/
structure Bin where
  state : BinState
  arrived : List Nat
  pending : Nat
  mass : Nat
  value : Nat
  deriving DecidableEq, Repr

/-- A bin of which nothing is known (R112, R188). -/
def Bin.lost : Bin := ⟨.unknown, [], 0, 0, 0⟩

/-- The arbiter's grant: the hatch and the entry at the head of its queue (R120). -/
structure Grant where
  hatch : Hatch
  entry : Nat
  deriving DecidableEq, Repr

/-- The carousel state with what it carries (R121). A move whose grant was withdrawn carries none
(R119, R124). -/
inductive Carousel
  | unhomed
  | homing (deadline : Nat)
  | idle
  | moving (target : BinNo) (grant : Option Grant) (deadline : Nat)
  | haltedHoming
  | haltedMove (target : BinNo) (grant : Option Grant)
  | delivering (grant : Grant) (bin : BinNo) (release : BitVec 8) (deadline : Nat)
  | fault
  deriving DecidableEq, Repr

structure Store where
  bins : Tab Bin 30
  queues : PerHatch (List Nat)
  holds : Nat
  near : Bool
  lastGranted : Hatch
  carousel : Carousel
  position : Option BinNo
  doorOpen : Bool
  deriving DecidableEq, Repr

/-! ## Intake control (08) -/

inductive IntakeState | stopped | stopping | closed | suspended | running
  deriving DecidableEq, Repr

/-- The clock (none while UNSET), the moment of its next advance, the window-0 mark, the enable and
the state (R137, R141, R146). -/
structure Intake where
  clock : Option ClockTime
  nextSecond : Nat
  windowMark : Bool
  enable : Bool
  state : IntakeState
  deriving DecidableEq, Repr

/-! ## Office port (10) -/

inductive Result
  | ok | clamped | busy | unknownCommand | badLength | range | state | full | notFound
  deriving DecidableEq, Repr

/-- A reply: command code, result and data bytes (R170). -/
structure Reply where
  command : Nat
  result : Result
  data : List Byte
  deriving DecidableEq, Repr

/-- A set of notice causes, bits as Table 12-4 (R172). -/
abbrev Causes := BitVec 6

/-- The content of a notice, taken as its transmission begins (R172, Table 12-4). -/
structure Notice where
  causes : Causes
  last : Nat
  epoch : Nat
  present : Nat
  committed : Nat
  held : Nat
  limit : Nat
  intake : IntakeState
  carousel : Carousel
  flags : FlagSet
  clock : Option ClockTime
  deriving DecidableEq, Repr

/-- What occupies the hand (R169): a request whose reply waits for the transmitter, a STORE_TABLES
write in flight with the copy it took (R184), and a RESET before and after its reply has begun
(R191). -/
inductive Hand
  | replying
  | storing (copy : Tables)
  | resetWaiting
  | resetSending
  deriving DecidableEq, Repr

/-- A formed reply that waits for the transmitter: the hand's own, or a BUSY reply (R171). -/
inductive WaitingReply
  | own (r : Reply)
  | busy (r : Reply)
  deriving DecidableEq, Repr

/-- The frame in transmission (R171). -/
inductive OfficeFrame
  | reply (r : Reply)
  | notice (n : Notice)
  deriving DecidableEq, Repr

/-- A RUNNING mitigation timer: the commit that started it and its deadline (R173). -/
structure Timer where
  started : Nat
  deadline : Nat
  deriving DecidableEq, Repr

structure Office where
  hand : Option Hand
  replies : List WaitingReply
  transmitter : Option OfficeFrame
  notice : Option Causes
  count : Nat
  timer : Option Timer
  flags : FlagSet
  refusals : Tab Nat 18
  cancels : Tab Nat 5
  badFrames : Nat
  unexpectedDrops : Nat
  deriving DecidableEq, Repr

/-! ## Hatch ports and drop machines (01, 09) -/

/-- A link state; HOLD_OFF carries its end and EXCHANGE the moment of the next OFFER (R152). -/
inductive LinkState
  | disabled
  | holdOff (ending : Nat)
  | exchange (nextOffer : Nat)
  | up
  deriving DecidableEq, Repr

inductive ReceiptMode | display | printed
  deriving DecidableEq, Repr

/-- The last seen and the allowed release count (R130). -/
structure ReleaseCounts where
  seen : BitVec 8
  allowed : BitVec 8
  deriving DecidableEq, Repr

/-- The snapshot of the depositor entry taken at the token check: it gives the transaction its token
and slot (R1, R72). -/
structure Snapshot where
  slot : Slot
  entry : DepositorEntry
  bags : Nat
  value : Nat
  deriving DecidableEq, Repr

/-- What a transaction records once its declaration has passed (R1, R11). -/
structure Declared where
  serial : Nat
  bagClass : Nat
  lines : List Line
  total : Nat
  expected : Nat
  tolerance : Nat
  suspect : Bool
  deriving DecidableEq, Repr

/-- The drop state with the transaction record and the timeout in force (R1, R3, R4). -/
inductive Drop
  | offline
  | idle
  | awaitDecl (snap : Snapshot) (deadline : Nat)
  | opened (snap : Snapshot) (decl : Declared) (flapOpened pastTimeout : Bool) (deadline : Option Nat)
  | weighing (snap : Snapshot) (decl : Declared) (number : Nat) (deadline : Nat)
  | tipping (snap : Snapshot) (decl : Declared) (number : Nat) (target : BitVec 8) (deadline : Nat)
  | fault
  deriving DecidableEq, Repr

/-- What a RECEIPT carries, but the receipt mode, which is read when it is sent (R28, R162). -/
structure Receipt where
  number : Nat
  epoch : Nat
  created : ClockTime
  total : Nat
  hatch : Hatch
  deriving DecidableEq, Repr

/-- A command in a POLL (Table 12-7). -/
inductive PollCommand
  | unlock
  | lock
  | closeFlap
  | tip (target : BitVec 8)
  | trayRelease (target : BitVec 8)
  | consume (token declaration alarms : Bool)
  | showCode (code : Nat)
  | receipt (r : Receipt) (mode : ReceiptMode)
  deriving DecidableEq, Repr

/-- A frame that a port sends (R149). -/
inductive PortFrame
  | poll (commands : List PollCommand)
  | offer (caps : Caps) (depth : Nat)
  deriving DecidableEq, Repr

/-- A hatch port and its drop machine. -/
structure Port where
  link : LinkState
  inverted : Bool
  streak : Nat
  caps : Caps
  depth : Nat
  receiptMode : ReceiptMode
  misses : Nat
  window : Option Nat
  pollStart : Nat
  snapshot : Option HeadReport
  takenToken : Option Nat
  takenDecl : Option Declaration
  showDue : Option Nat
  receiptDue : Option Receipt
  surroundLatch : Bool
  contactOpen : Bool
  badFrames : Nat
  missCount : Nat
  lineOut : Option PortFrame
  drop : Drop
  faultFlag : Bool
  zeroArmed : Bool
  release : Option ReleaseCounts
  deriving DecidableEq, Repr

/-- No capability resolved (R152). -/
def noCaps : Caps := ⟨false, false, false, false⟩

/-- A port at the end of start-up's phase 6: silent, sense normal, nothing resolved, counters 0, its
drop machine OFFLINE and its fault flag clear (R152, R164, R190), its consecutive miss count 0 (log entry
30). `contactOpen` is the level of its aux contact. -/
def Port.fresh (link : LinkState) (depth : Nat) (contactOpen : Bool) : Port where
  link := link
  inverted := false
  streak := 0
  caps := noCaps
  depth := depth
  receiptMode := .display
  misses := 0
  window := none
  pollStart := 0
  snapshot := none
  takenToken := none
  takenDecl := none
  showDue := none
  receiptDue := none
  surroundLatch := false
  contactOpen := contactOpen
  badFrames := 0
  missCount := 0
  lineOut := none
  drop := .offline
  faultFlag := false
  zeroArmed := false
  release := none

/-! ## The whole state -/

structure State where
  now : Nat
  mainsGood : Bool
  resetReleased : Bool
  straps : Straps
  tables : Tables
  tableStore : TableStore
  counts : Tab NightCount 512
  mapAccess : MapAccess
  cover : Cover
  journal : Journal
  store : Store
  intake : Intake
  office : Office
  ports : PerHatch Port
  pending : List Instr
  deriving DecidableEq, Repr

/-- No command stops the machine with a fault: every command of the table has an effect, or none, in
every state, and what the manual calls a fault is a state of a hatch or of the carousel. -/
inductive Fault
  deriving DecidableEq, Repr

/-- Why a command has no meaning. -/
inductive Refusal
  /-- Raised by an arm of exec whose command has no meaning yet; safe, since nothing follows. No arm
  raises it. -/
  | notModelled (mnemonic : String)
  deriving DecidableEq, Repr

namespace State

/-- Power is present and the reset input is released, so that the controller runs (R187). -/
def running (s : State) : Bool := s.mainsGood && s.resetReleased

/-- The port of a hatch. -/
def port (s : State) (h : Hatch) : Port := s.ports.get h

/-- The tray queue of a hatch (R118). -/
def queue (s : State) (h : Hatch) : List Nat := s.store.queues.get h

/-! One update per part of the state; Laws/State.lean says what each leaves. -/

def setNow (s : State) (x : Nat) : State := { s with now := x }
def setMainsGood (s : State) (x : Bool) : State := { s with mainsGood := x }
def setResetReleased (s : State) (x : Bool) : State := { s with resetReleased := x }
def setStraps (s : State) (x : Straps) : State := { s with straps := x }
def setTables (s : State) (x : Tables) : State := { s with tables := x }
def setTableStore (s : State) (x : TableStore) : State := { s with tableStore := x }
def setCounts (s : State) (x : Tab NightCount 512) : State := { s with counts := x }
def setMapAccess (s : State) (x : MapAccess) : State := { s with mapAccess := x }
def setCover (s : State) (x : Cover) : State := { s with cover := x }
def setJournal (s : State) (x : Journal) : State := { s with journal := x }
def setStore (s : State) (x : Store) : State := { s with store := x }
def setIntake (s : State) (x : Intake) : State := { s with intake := x }
def setOffice (s : State) (x : Office) : State := { s with office := x }
def setPorts (s : State) (x : PerHatch Port) : State := { s with ports := x }
def setPending (s : State) (x : List Instr) : State := { s with pending := x }

/-- The state with hatch `h`'s port replaced. -/
def setPort (s : State) (h : Hatch) (p : Port) : State := s.setPorts (s.ports.set h p)

/-- The state with hatch `h`'s tray queue replaced. -/
def setQueue (s : State) (h : Hatch) (q : List Nat) : State :=
  s.setStore { s.store with queues := s.store.queues.set h q }

/-- The alert flags latched at the end of the first start-up: COVER_NEAR, STORE_NEAR_FULL,
POWER_RESTART, RETAINED_LOST and TABLE_STORE_BAD (R82, R114, R188, R189, R190). -/
def resetFlags : FlagSet := 0x1C0006#21

/-- The causes of the notice that the first start-up sends: INTAKE, ATTENTION and ALARM (R190). -/
def resetCauses : Causes := 0x38#6

/-- The machine after reset: the end of a start-up at which both stores fail their checks, with all
four ports fitted, 115,200 baud and the inner door closed (R188 to R190; log entry 2). The start-up
notice is in transmission. -/
def reset : State where
  now := 0
  mainsGood := true
  resetReleased := true
  straps := ⟨4, .baud115200⟩
  tables := Tables.defaults
  tableStore := ⟨false, Tables.defaults, 0, false⟩
  counts := Tab.fill 512 ⟨0, 0, none⟩
  mapAccess := MapAccess.whole
  cover := ⟨0, 0, true⟩
  journal := ⟨[], 1, 0, 1, 0, false⟩
  store :=
    { bins := Tab.fill 30 Bin.lost
      queues := PerHatch.all []
      holds := 0
      near := true
      lastGranted := .h4
      carousel := .homing Config.homingTime
      position := none
      doorOpen := false }
  intake := ⟨none, Config.second, false, false, .stopped⟩
  office :=
    { hand := none
      replies := []
      transmitter := some (.notice
        { causes := resetCauses
          last := 0
          epoch := 1
          present := 0
          committed := 0
          held := 0
          limit := 0
          intake := .stopped
          carousel := .homing Config.homingTime
          flags := resetFlags
          clock := none })
      notice := none
      count := 0
      timer := none
      flags := resetFlags
      refusals := Tab.fill 18 0
      cancels := Tab.fill 5 0
      badFrames := 0
      unexpectedDrops := 0 }
  ports := PerHatch.all (Port.fresh (.holdOff Config.holdOffTime) 3 false)
  pending := []

end State

end Sys2Proof.Machine
end

