-- ==== Sys2Proof/Machine/Flags.lean ====
section
/-! DEFINITION. Alert flags, notice triggers, the notice mitigation and the counters of the office port
(10, R172 to R180). -/

namespace Sys2Proof.Machine

open Sys2Proof

/-! ## Alert flags -/

/-- The 21 alert flags of Table 10-1. -/
inductive Flag
  | journalNearFull | storeNearFull | coverNear | quarantine | polarity | zeroDrift | flapLeftOpen | printer
  | jam | stranded | carouselFault | doorOpenInIntake | linkLost | jabber | headAlarm | flapForced
  | trayFault | unexpectedDrop | powerRestart | retainedLost | tableStoreBad
  deriving DecidableEq, Repr

/-- A flag's position in a flag set (Table 12-8). -/
def Flag.position : Flag → Nat
  | .journalNearFull => 0
  | .storeNearFull => 1
  | .coverNear => 2
  | .quarantine => 3
  | .polarity => 4
  | .zeroDrift => 5
  | .flapLeftOpen => 6
  | .printer => 7
  | .jam => 8
  | .stranded => 9
  | .carouselFault => 10
  | .doorOpenInIntake => 11
  | .linkLost => 12
  | .jabber => 13
  | .headAlarm => 14
  | .flapForced => 15
  | .trayFault => 16
  | .unexpectedDrop => 17
  | .powerRestart => 18
  | .retainedLost => 19
  | .tableStoreBad => 20

/-- The set of one flag. -/
def Flag.bit (f : Flag) : FlagSet := BitVec.ofNat 21 (2 ^ f.position)

/-- Bits 0 to 7 are attention flags, bits 8 to 20 alarms (Table 12-8). -/
def Flag.isAlarm (f : Flag) : Bool := decide (8 ≤ f.position)

/-- Whether a set names a flag. -/
def hasFlag (set : FlagSet) (f : Flag) : Bool := set.getLsbD f.position

/-- The set of the alarms. -/
def alarmSet : FlagSet := 0x1FFF00#21

/-- The set of the attention flags. -/
def attentionSet : FlagSet := 0x0000FF#21

/-! ## Notice causes -/

inductive Cause | commits | timer | every | intake | attention | alarm
  deriving DecidableEq, Repr

/-- The set of one cause (Table 12-4). -/
def Cause.bit : Cause → Causes
  | .commits => 1
  | .timer => 2
  | .every => 4
  | .intake => 8
  | .attention => 16
  | .alarm => 32

namespace State

/-- A notice trigger: a notice becomes pending if none is, and the cause joins its set (R172). -/
def trigger (s : State) (c : Cause) : State :=
  s.setOffice { s.office with notice := some (s.office.notice.getD 0 ||| c.bit) }

/-- Whether a flag is latched. -/
def latched (s : State) (f : Flag) : Bool := hasFlag s.office.flags f

/-- The flag becomes latched, and nothing is triggered. -/
def latch (s : State) (f : Flag) : State :=
  s.setOffice { s.office with flags := s.office.flags ||| f.bit }

/-- A block raises a flag (R175): a clear flag becomes latched and, unless masked, triggers a notice
after its class; a latched one stays. -/
def raise (s : State) (f : Flag) : State :=
  if s.latched f then s
  else if hasFlag s.tables.alertMask f then s.latch f
  else (s.latch f).trigger (if f.isAlarm then .alarm else .attention)

end State

/-! ## Counters -/

/-- A 16-bit counter that saturates, raised by one (00 §0.6). -/
def bump (n : Nat) : Nat := min (n + 1) Config.maxCount

/-- The five cancellation counters, in the order of COUNTERS_READ (R180). -/
inductive Cancel | declTimeout | openTimeout | emptyClose | linkLost | stopped
  deriving DecidableEq, Repr

def Cancel.index : Cancel → Fin 5
  | .declTimeout => 0
  | .openTimeout => 1
  | .emptyClose => 2
  | .linkLost => 3
  | .stopped => 4

/-- The refusals of the token and declaration checks (Chapter 12.6). The two rooms are refused at
either check, with a display code for each. -/
inductive Refuse
  | notOpen | journalFullToken | storeFullToken | outOfService | trayFull | unknownToken
  | depositorSuspended | outsideHours | tokenBusy | bagLimit | declFormat | declTotal | declMass
  | tagRevoked | tagNotIssued | tagRepeat | valueLimit | cover | journalFullDecl | storeFullDecl
  deriving DecidableEq, Repr

/-- The refusal code, which is the display code of its SHOW (12.6). -/
def Refuse.code : Refuse → Nat
  | .notOpen => 1
  | .journalFullToken => 2
  | .storeFullToken => 3
  | .outOfService => 4
  | .trayFull => 5
  | .unknownToken => 6
  | .depositorSuspended => 7
  | .outsideHours => 8
  | .tokenBusy => 9
  | .bagLimit => 10
  | .declFormat => 11
  | .declTotal => 12
  | .declMass => 13
  | .tagRevoked => 14
  | .tagNotIssued => 15
  | .tagRepeat => 16
  | .valueLimit => 17
  | .cover => 18
  | .journalFullDecl => 19
  | .storeFullDecl => 20

/-- The refusal counter, counted from 0: that of code c is the c-th, and codes 19 and 20 count in the
counters of codes 2 and 3 (R180). -/
def Refuse.counter : Refuse → Fin 18
  | .notOpen => 0
  | .journalFullToken => 1
  | .storeFullToken => 2
  | .outOfService => 3
  | .trayFull => 4
  | .unknownToken => 5
  | .depositorSuspended => 6
  | .outsideHours => 7
  | .tokenBusy => 8
  | .bagLimit => 9
  | .declFormat => 10
  | .declTotal => 11
  | .declMass => 12
  | .tagRevoked => 13
  | .tagNotIssued => 14
  | .tagRepeat => 15
  | .valueLimit => 16
  | .cover => 17
  | .journalFullDecl => 1
  | .storeFullDecl => 2

namespace State

/-- A refusal counter rises (R8, R180). -/
def countRefusal (s : State) (r : Refuse) : State :=
  s.setOffice { s.office with refusals := s.office.refusals.put r.counter (bump (s.office.refusals.get r.counter)) }

/-- A cancellation counter rises (R16). -/
def countCancel (s : State) (c : Cancel) : State :=
  s.setOffice { s.office with cancels := s.office.cancels.put c.index (bump (s.office.cancels.get c.index)) }

/-! ## Mitigation -/

/-- The timer starts at a commit, if it is STOPPED and T_n is not 0 (R173). -/
def startTimer (s : State) : State :=
  if s.office.timer.isNone && decide (s.tables.noticeTime ≠ 0) then
    s.setOffice { s.office with timer := some ⟨s.now, s.now + s.tables.noticeTime * Config.second⟩ }
  else s

/-- The triggers that a commit count makes: COMMITS at N, EVERY while N and T_n are both 0 (R173). -/
def countTriggers (s : State) : State :=
  if s.tables.noticeCount ≠ 0 then
    if s.tables.noticeCount ≤ s.office.count then s.trigger .commits else s
  else if s.tables.noticeTime = 0 then s.trigger .every
  else s

/-- A commit is counted toward the mitigation (R13 step 4, R173). -/
def noteCommit (s : State) : State :=
  (s.setOffice { s.office with count := bump s.office.count }).startTimer.countTriggers

/-- A RUNNING timer takes the present T_n from the commit that started it; a deadline already passed
triggers TIMER, and a T_n of 0 stops it without a trigger (R174). -/
def retimeMitigation (s : State) : State :=
  match s.office.timer with
  | none => s
  | some t =>
    if s.tables.noticeTime = 0 then s.setOffice { s.office with timer := none }
    else if t.started + s.tables.noticeTime * Config.second ≤ s.now then
      (s.setOffice { s.office with timer := none }).trigger .timer
    else
      s.setOffice { s.office with timer := some ⟨t.started, t.started + s.tables.noticeTime * Config.second⟩ }

/-- The mitigation takes the settings N and T_n in force (R174). -/
def applyNoticeSettings (s : State) : State :=
  let s1 := s.retimeMitigation
  if s1.tables.noticeCount ≠ 0 && decide (s1.tables.noticeCount ≤ s1.office.count) then s1.trigger .commits
  else s1

end State

end Sys2Proof.Machine
end

