-- ==== Sys2Proof/Machine/Operands.lean ====
section
/-! DEFINITION. The operands of requests as values in range (R193), and the bytes of reply data, notices
and hatch frame bodies (12.2 to 12.5). -/

namespace Sys2Proof.Machine

open Sys2Proof

/-! ## Parameters in range -/

/-- A hatch number 1 to 4. -/
def hatchOf? : Nat → Option Hatch
  | 1 => some .h1
  | 2 => some .h2
  | 3 => some .h3
  | 4 => some .h4
  | _ => none

/-- A bin number 0 to 29. -/
def binOf? (b : Nat) : Option BinNo := if h : b < 30 then some ⟨b, h⟩ else none

/-- A yes/no byte (R193). -/
def yesNo? : Nat → Option Bool
  | 0 => some false
  | 1 => some true
  | _ => none

/-- Table 12-3. -/
def depositorState? : Nat → Option DepositorState
  | 0 => some .active
  | 1 => some .suspended
  | _ => none

/-- Table 12-3. -/
def screenMode? : Nat → Option ScreenMode
  | 0 => some .off
  | 1 => some .revoke
  | 2 => some .issue
  | _ => none

/-- Table 12-3. -/
def auxFunction? : Nat → Option AuxFunction
  | 0 => some .none
  | 1 => some .surround
  | 2 => some .lamp
  | _ => none

/-- `a` to `b`, both ends included (00 §0.6). -/
def within (a b v : Nat) : Bool := decide (a ≤ v ∧ v ≤ b)

/-- A denomination entry in range; the values of a VOID entry are disregarded (R33). -/
def denomOf? (a : DenomArgs) : Option Denom :=
  match a.kind with
  | 0 => if within 1 50000 a.face && within 1 20000 a.mass then some (.note a.face a.mass) else none
  | 1 => if within 1 50000 a.face && within 1 20000 a.mass then some (.coin a.face a.mass) else none
  | 2 => some .void
  | _ => none

/-- A depositor entry in range (Table 4-1, R67). -/
def depositorOf? (a : DepositorArgs) : Option DepositorEntry :=
  match depositorState? a.state with
  | none => none
  | some st =>
    if within 1 Config.maxWord a.token && within 0 99999999 a.reference && within 0 7 a.windowClass
        && within 0 29 a.homeBin && within 1 15 a.maxBags && within 1 Config.maxTotal a.maxValue then
      some ⟨a.token, a.reference, st, a.windowClass, a.homeBin, a.maxBags, a.maxValue⟩
    else none

/-- A schedule window in range; bit 7 of the mask names no weekday (R147, R193). -/
def windowOf? (a : ScheduleArgs) : Option Window :=
  if within 0 1439 a.start && within 0 1439 a.stop && within 0 127 a.mask then
    some ⟨a.start, a.stop, BitVec.ofNat 7 a.mask⟩
  else none

/-- A clock in range (R138). -/
def clockOf? (a : ClockArgs) : Option ClockTime :=
  if h : a.weekday < 7 ∧ a.seconds < 86400 then some ⟨⟨a.weekday, h.1⟩, ⟨a.seconds, h.2⟩⟩ else none

/-- A hatch configuration in range (R165). -/
def configOf? (a : HatchConfigArgs) : Option HatchConfig :=
  match yesNo? a.enable, yesNo? a.printOffered, auxFunction? a.aux, yesNo? a.autoPolarity with
  | some e, some p, some x, some y =>
    if within 1 3 a.depth && within 0 31 a.divider then some ⟨e, p, a.depth, a.divider, x, y⟩ else none
  | _, _, _, _ => none

/-- A calibration in range (R43). -/
def calibrationOf? (a : CalibrateArgs) : Option Calibration :=
  if decide (-8388608 ≤ a.zero ∧ a.zero ≤ 8388607) && within 1 65535 a.span && within 0 4095 a.band then
    some ⟨a.zero, a.span, a.band⟩
  else none

/-- A flag set: bits 21 to 31 name no flag (R196). -/
def flagSetOf? (v : Nat) : Option FlagSet := if v < 2 ^ 21 then some (BitVec.ofNat 21 v) else none

/-! ## Packed bits (R195) -/

/-- The bits of bytes, the first in bit 7 of the first byte. -/
def unpackBits : List Byte → List Bool
  | [] => []
  | b :: bs =>
    b.getLsbD 7 :: b.getLsbD 6 :: b.getLsbD 5 :: b.getLsbD 4 :: b.getLsbD 3 :: b.getLsbD 2
      :: b.getLsbD 1 :: b.getLsbD 0 :: unpackBits bs

/-- One bit's weight. -/
def bitValue (b : Bool) (w : Nat) : Nat := if b then w else 0

/-- Bits as bytes, the unused bits of the last sent as 0; `n` bounds the bytes. -/
def packBits : Nat → List Bool → List Byte
  | 0, _ => []
  | _ + 1, [] => []
  | n + 1, b :: bs =>
    let at' (i : Nat) : Bool := (b :: bs).getD i false
    BitVec.ofNat 8 (bitValue (at' 0) 128 + bitValue (at' 1) 64 + bitValue (at' 2) 32 + bitValue (at' 3) 16
      + bitValue (at' 4) 8 + bitValue (at' 5) 4 + bitValue (at' 6) 2 + bitValue (at' 7) 1)
      :: packBits n ((b :: bs).drop 8)

/-- The bytes that `count` bits need (R195). -/
def bytesFor (count : Nat) : Nat := (count + 7) / 8

/-! ## Field types of reply data (12.2) -/

namespace Out

def u8 (v : Nat) : List Byte := bytesOf 1 v
def u16 (v : Nat) : List Byte := bytesOf 2 v
def u24 (v : Nat) : List Byte := bytesOf 3 v
def u32 (v : Nat) : List Byte := bytesOf 4 v
def u40 (v : Nat) : List Byte := bytesOf 5 v

/-- A mark, a flag, a yes/no item: 0 or 1. -/
def mark (b : Bool) : List Byte := u8 (if b then 1 else 0)

/-- A weekday and second: weekday × 86,400 + second. -/
def time (t : ClockTime) : List Byte := u24 (t.day.val * 86400 + t.sec.val)

/-- A clock field, 0 when UNSET (Table 12-4; log entry 10). -/
def clock : Option ClockTime → List Byte
  | some t => time t
  | none => u24 0

/-- An optional value: a presence byte, then the value's bytes, `zero` when absent. -/
def optional {α : Type} (zero : List Byte) (f : α → List Byte) : Option α → List Byte
  | some a => mark true ++ f a
  | none => mark false ++ zero

/-- A list whose length varies: its length, then its items (R194). -/
def list {α : Type} (f : α → List Byte) (xs : List α) : List Byte := u8 xs.length ++ xs.flatMap f

/-- A position, 0xFF when unknown. -/
def position : Option BinNo → List Byte
  | some b => u8 b.val
  | none => u8 255

def flags (f : FlagSet) : List Byte := u32 f.toNat

def hatch (h : Hatch) : List Byte := u8 h.num

end Out

/-! ## Codes (Tables 12-2 and 12-3) -/

def Result.code : Result → Nat
  | .ok => 0
  | .clamped => 1
  | .busy => 2
  | .unknownCommand => 3
  | .badLength => 4
  | .range => 5
  | .state => 6
  | .full => 7
  | .notFound => 8

def DepositorState.code : DepositorState → Nat
  | .active => 0
  | .suspended => 1

def ScreenMode.code : ScreenMode → Nat
  | .off => 0
  | .revoke => 1
  | .issue => 2

def AuxFunction.code : AuxFunction → Nat
  | .none => 0
  | .surround => 1
  | .lamp => 2

def Drop.code : Drop → Nat
  | .offline => 0
  | .idle => 1
  | .awaitDecl _ _ => 2
  | .opened _ _ _ _ _ => 3
  | .weighing _ _ _ _ => 4
  | .tipping _ _ _ _ _ => 5
  | .fault => 6

def LinkState.code : LinkState → Nat
  | .disabled => 0
  | .holdOff _ => 1
  | .exchange _ => 2
  | .up => 3

def IntakeState.code : IntakeState → Nat
  | .stopped => 0
  | .stopping => 1
  | .closed => 2
  | .suspended => 3
  | .running => 4

def Carousel.code : Carousel → Nat
  | .unhomed => 0
  | .homing _ => 1
  | .idle => 2
  | .moving _ _ _ => 3
  | .haltedHoming => 4
  | .haltedMove _ _ => 4
  | .delivering _ _ _ _ => 5
  | .fault => 6

def EntryState.code : EntryState → Nat
  | .inChute => 0
  | .inTray => 1
  | .binned => 2
  | .stranded => 3
  | .reconciled => 4

def BinState.code : BinState → Nat
  | .opened => 0
  | .full => 1
  | .withdrawn => 2
  | .unknown => 3

def ReceiptMode.code : ReceiptMode → Nat
  | .display => 0
  | .printed => 1

def flapCode : Flap → Nat
  | .shutLocked => 0
  | .shutUnlocked => 1
  | .opened => 2

/-- The grant that a carousel state carries. -/
def Carousel.grant : Carousel → Option Grant
  | .moving _ g _ => g
  | .haltedMove _ g => g
  | .delivering g _ _ _ => some g
  | .unhomed => none
  | .homing _ => none
  | .idle => none
  | .haltedHoming => none
  | .fault => none

/-! ## Records in the layout of their request's parameters (R194, Table 12-1) -/

namespace Out

def depositor (e : DepositorEntry) : List Byte :=
  u32 e.token ++ u32 e.reference ++ u8 e.state.code ++ u8 e.windowClass ++ u8 e.homeBin ++ u8 e.maxBags
    ++ u32 e.maxValue

/-- A denomination entry: kind, face value, unit mass, 0 and 0 for VOID (R36), without its index (R194; log
entry 34). -/
def denom : Denom → List Byte
  | .note f m => u8 0 ++ u16 f ++ u16 m
  | .coin f m => u8 1 ++ u16 f ++ u16 m
  | .void => u8 2 ++ u16 0 ++ u16 0

/-- A schedule window: start, end and mask (R139), without its number (R194; log entry 34). -/
def window (w : Window) : List Byte := u16 w.start ++ u16 w.stop ++ u8 w.mask.toNat

def range (r : SerialRange) : List Byte := u40 r.first ++ u40 r.last

/-- A hatch configuration: its six fields (R165), without the hatch (R194; log entry 34). -/
def config (c : HatchConfig) : List Byte :=
  mark c.enable ++ mark c.printOffered ++ u8 c.depth ++ u8 c.divider ++ u8 c.aux.code ++ mark c.autoPolarity

/-- A calibration: Z, K and B (R42), without the hatch (R194; log entry 34). -/
def calibration (c : Calibration) : List Byte := u24 (unsigned24 c.zero) ++ u16 c.span ++ u16 c.band

/-- A set of capabilities, bits as the OFFER (Table 12-7). -/
def caps (c : Caps) : List Byte :=
  u8 (bitValue c.weigh 1 + bitValue c.scan 2 + bitValue c.print 4 + bitValue c.flapDrive 8)

def line (l : Line) : List Byte := u8 l.denom ++ u16 l.count

/-- The reason and route byte (Table 12-5). -/
def reasons (r : Reasons) (t : Route) : List Byte :=
  u8 (bitValue r.tagSuspect 1 + bitValue r.overrange 2 + bitValue r.low 4 + bitValue r.high 8
    + bitValue r.unstable 16 + bitValue t.diverted 32 + bitValue t.heavyBin 64)

/-- The status byte of an entry (Table 12-5). -/
def entryStatus (e : Entry) : List Byte :=
  u8 (e.state.code + bitValue e.mass.isSome 8 + bitValue e.verdict.isSome 16
    + bitValue (decide (e.verdict = some .quarantined)) 32 + bitValue e.bin.isSome 64
    + bitValue e.binned.isSome 128)

/-- A journal entry record (Table 12-5). -/
def entry (e : Entry) : List Byte :=
  u32 e.number ++ u16 e.epoch ++ time e.created ++ u8 (e.hatch.num * 16 + e.bagClass) ++ u16 e.slot.val
    ++ u32 e.token ++ u32 e.reference ++ u40 e.serial ++ list line e.lines ++ u32 e.total ++ u16 e.expected
    ++ u16 (e.mass.getD 0) ++ reasons e.reasons e.route
    ++ u8 (match e.bin with | some b => b.val | none => 0) ++ entryStatus e ++ clock e.binned

/-- The body of a REPORT (Table 12-7). -/
def report (r : HeadReport) : List Byte :=
  u8 (flapCode r.flap * 64 + bitValue r.bag 32 + bitValue r.stable 16 + bitValue r.token.isSome 8
      + bitValue r.declaration.isSome 4)
    ++ (u24 (unsigned24 r.raw) ++ (u8 r.arrival.toNat ++ (u8 r.release.toNat ++ (u8 r.trayCount
    ++ (u8 (bitValue r.tamper 1 + bitValue r.chuteBlocked 2 + bitValue r.printerFault 4)
    ++ ((match r.token with | some t => u32 t | none => [])
    ++ (match r.declaration with
        | some d => u40 d.serial ++ (u8 d.bagClass ++ (u8 d.lines.length ++ (d.lines.flatMap line ++ u32 d.total)))
        | none => [])))))))

/-- A report snapshot: its length and body, or a length of 0 alone (R194). -/
def snapshot : Option HeadReport → List Byte
  | some r => u8 (report r).length ++ report r
  | none => u8 0

/-- The body of an ANSWER (Table 12-7). -/
def answer (a : HeadAnswer) : List Byte := caps a.caps ++ u8 a.depth ++ u8 a.trayCount

/-- A command of a POLL (Table 12-7). -/
def pollCommand : PollCommand → List Byte
  | .unlock => u8 1
  | .lock => u8 2
  | .closeFlap => u8 3
  | .tip t => u8 4 ++ u8 t.toNat
  | .trayRelease t => u8 5 ++ u8 t.toNat
  | .consume t d a => u8 6 ++ u8 (bitValue t 1 + bitValue d 2 + bitValue a 4)
  | .showCode c => u8 7 ++ u8 c
  | .receipt r m =>
    u8 8 ++ u32 r.number ++ u16 r.epoch ++ time r.created ++ u32 r.total ++ hatch r.hatch ++ u8 m.code

/-- The body of a POLL or an OFFER (Table 12-7). -/
def portBody : PortFrame → List Byte
  | .poll cs => list pollCommand cs
  | .offer c d => caps c ++ u8 d

/-- The body of a NOTICE (Table 12-4). -/
def notice (n : Notice) : List Byte :=
  u8 n.causes.toNat ++ u32 n.last ++ u16 n.epoch ++ u16 n.present ++ u32 n.committed ++ u32 n.held
    ++ u32 n.limit ++ u8 n.intake.code ++ u8 n.carousel.code ++ flags n.flags ++ mark n.clock.isSome
    ++ clock n.clock

/-- The body of a REPLY: command code, result code, data (R170). -/
def reply (r : Reply) : List Byte := u8 r.command ++ u8 r.result.code ++ r.data

end Out

/-! ## Bodies that a head sends (R149, R197) -/

/-- `n` declaration lines, and the bytes after them. -/
def readLines : Nat → List Byte → Option (List Line × List Byte)
  | 0, bs => some ([], bs)
  | n + 1, d :: c1 :: c0 :: bs =>
    match readLines n bs with
    | some (ls, rest) => some (⟨d.toNat, natOf [c1, c0]⟩ :: ls, rest)
    | none => none
  | _ + 1, _ => none

/-- A latched declaration that ends its body: the line count is read only to find the length (R197). -/
def readDeclaration : List Byte → Option Declaration
  | s4 :: s3 :: s2 :: s1 :: s0 :: cls :: n :: bs =>
    match readLines n.toNat bs with
    | some (ls, [d3, d2, d1, d0]) => some ⟨natOf [s4, s3, s2, s1, s0], cls.toNat, ls, natOf [d3, d2, d1, d0]⟩
    | _ => none
  | _ => none

/-- The flap field, bits 6 and 7 (Table 12-7). -/
def flapOf? : Nat → Option Flap
  | 0 => some .shutLocked
  | 1 => some .shutUnlocked
  | 2 => some .opened
  | _ => none

/-- The latched token and declaration at the end of a REPORT body. -/
def readLatched (tokenPresent declPresent : Bool) (bs : List Byte) : Option (Option Nat × Option Declaration) :=
  match tokenPresent, declPresent, bs with
  | false, false, [] => some (none, none)
  | true, false, [t3, t2, t1, t0] => some (some (natOf [t3, t2, t1, t0]), none)
  | false, true, ds => (readDeclaration ds).map fun d => (none, some d)
  | true, true, t3 :: t2 :: t1 :: t0 :: ds =>
    (readDeclaration ds).map fun d => (some (natOf [t3, t2, t1, t0]), some d)
  | _, _, _ => none

/-- The report that a REPORT body holds; none where the body does not fit its layout or a field is
out of range (R149, R197). -/
def readReport : List Byte → Option HeadReport
  | f :: r2 :: r1 :: r0 :: arr :: rel :: tray :: alarms :: bs =>
    match flapOf? (f.toNat / 64), readLatched (f.getLsbD 3) (f.getLsbD 2) bs with
    | some flap, some (tok, decl) =>
      if tray.toNat ≤ 3 then
        some ⟨flap, f.getLsbD 5, f.getLsbD 4, signed24 (natOf [r2, r1, r0]), arr, rel, tray.toNat,
          alarms.getLsbD 0, alarms.getLsbD 1, alarms.getLsbD 2, tok, decl⟩
      else none
    | _, _ => none
  | _ => none

/-- The answer that an ANSWER body holds (R197). -/
def readAnswer : List Byte → Option HeadAnswer
  | [c, d, t] =>
    if within 1 3 d.toNat && within 0 3 t.toNat then
      some ⟨⟨c.getLsbD 0, c.getLsbD 1, c.getLsbD 2, c.getLsbD 3⟩, d.toNat, t.toNat⟩
    else none
  | _ => none

end Sys2Proof.Machine
end

