-- ==== Sys2Proof/Machine/Ops.lean ====
section
/-! DEFINITION. The named operations that the commands share: time, rooms and marks, intake, the cover
account, the journal, the bin table, the ending of a transaction, and the office port's hand and
transmitter. Each is one block's change, with the evaluations that its rule asks in the same whole. -/

namespace Sys2Proof.Machine

open Sys2Proof

/-- What a command answers. -/
abbrev Meaning := Host.Outcome State Fault Refusal

namespace State

/-! ## Small accessors -/

/-- The time base stands at `t` at the least: an expiry at `t` is taken then or later (log entry 3). -/
def reach (s : State) (t : Nat) : State := s.setNow (max s.now t)

/-- What a step on an empty queue does: the time base goes on (log entry 3). -/
def tick (s : State) : State := s.setNow (s.now + 1)

/-- The state with a change made at hatch `h`'s port. -/
def modPort (s : State) (h : Hatch) (f : Port → Port) : State := s.setPort h (f (s.port h))

def drop (s : State) (h : Hatch) : Drop := (s.port h).drop

def setDrop (s : State) (h : Hatch) (d : Drop) : State := s.modPort h fun p => { p with drop := d }

def config (s : State) (h : Hatch) : HatchConfig := s.tables.configs.get h

def calibration (s : State) (h : Hatch) : Calibration := s.tables.calibrations.get h

def setCalibration (s : State) (h : Hatch) (c : Calibration) : State :=
  s.setTables { s.tables with calibrations := s.tables.calibrations.set h c }

def bin (s : State) (b : BinNo) : Bin := s.store.bins.get b

def setBin (s : State) (b : BinNo) (r : Bin) : State :=
  s.setStore { s.store with bins := s.store.bins.put b r }

def setCarousel (s : State) (c : Carousel) : State := s.setStore { s.store with carousel := c }

def setPosition (s : State) (p : Option BinNo) : State := s.setStore { s.store with position := p }

/-- Whether a port is fitted by the HATCHES strap (R186). -/
def fitted (s : State) (h : Hatch) : Bool := decide (h.num ≤ s.straps.hatches)

/-- A SHOW falls due, replacing any still due (R162). -/
def showAt (s : State) (h : Hatch) (code : Nat) : State := s.modPort h fun p => { p with showDue := some code }

end State

/-- Whether a drop state is OPEN, WEIGHING or TIPPING (R141). -/
def Drop.inFlight : Drop → Bool
  | .opened _ _ _ _ _ => true
  | .weighing _ _ _ _ => true
  | .tipping _ _ _ _ _ => true
  | .offline => false
  | .idle => false
  | .awaitDecl _ _ => false
  | .fault => false

/-- The transaction's snapshot, if a transaction exists. -/
def Drop.snapshot : Drop → Option Snapshot
  | .awaitDecl t _ => some t
  | .opened t _ _ _ _ => some t
  | .weighing t _ _ _ => some t
  | .tipping t _ _ _ _ => some t
  | .offline => none
  | .idle => none
  | .fault => none

/-- The timeout in force (R4). -/
def Drop.deadline : Drop → Option Nat
  | .awaitDecl _ d => some d
  | .opened _ _ _ _ d => d
  | .weighing _ _ _ d => some d
  | .tipping _ _ _ _ d => some d
  | .offline => none
  | .idle => none
  | .fault => none

/-- What a transaction owns: cover hold, journal slot holds, store holds, tray places (Table 1-1). -/
structure Holds where
  cover : Nat
  slots : Nat
  store : Nat
  tray : Nat
  deriving DecidableEq, Repr

/-- The set of holds of the transaction in a drop state (R1, Table 1-1). -/
def Drop.holds : Drop → Holds
  | .opened _ d _ _ _ => ⟨d.total, 1, 1, 1⟩
  | .weighing _ _ _ _ => ⟨0, 0, 1, 1⟩
  | .tipping _ _ _ _ _ => ⟨0, 0, 0, 1⟩
  | .offline => ⟨0, 0, 0, 0⟩
  | .idle => ⟨0, 0, 0, 0⟩
  | .awaitDecl _ _ => ⟨0, 0, 0, 0⟩
  | .fault => ⟨0, 0, 0, 0⟩

/-- The room that a bin counts: only an OPEN bin counts any (R112, R113). -/
def Bin.room (r : Bin) (b : BinNo) : Nat :=
  if r.state = .opened then Config.binCapacity b - r.arrived.length - r.pending else 0

/-- The bins in order. -/
def allBins : List BinNo := List.finRange 30

namespace State

/-! ## Rooms -/

/-- Journal room (R103). -/
def journalRoom (s : State) : Nat := Config.journalSize - s.journal.entries.length - s.journal.slotHolds

/-- Free places (R113). -/
def freePlaces (s : State) : Nat := (allBins.map fun b => (s.bin b).room b).sum

/-- Store room (R113). -/
def storeRoom (s : State) : Nat := s.freePlaces - s.store.holds

/-! ## Near marks -/

/-- The cover-near condition (R92). -/
def coverNear (s : State) : Bool := decide (9 * s.tables.limit ≤ 10 * (s.cover.committed + s.cover.held))

/-- The cover account evaluates its near mark (R92). -/
def evalCover (s : State) : State :=
  let s1 := s.setCover { s.cover with near := s.coverNear }
  if s.coverNear && !s.cover.near then s1.raise .coverNear else s1

/-- The near-full condition of the journal (R109). -/
def journalNear (s : State) : Bool := decide (Config.journalNear ≤ s.journal.entries.length)

/-- The journal evaluates its near mark (R109). -/
def evalJournal (s : State) : State :=
  let s1 := s.setJournal { s.journal with near := s.journalNear }
  if s.journalNear && !s.journal.near then s1.raise .journalNearFull else s1

/-- The near condition of the store (R114). -/
def storeNear (s : State) : Bool := decide (s.storeRoom ≤ Config.storeNear)

/-- The store controller evaluates its near mark (R114). -/
def evalStore (s : State) : State :=
  let s1 := s.setStore { s.store with near := s.storeNear }
  if s.storeNear && !s.store.near then s1.raise .storeNearFull else s1

/-! ## Clock, windows and intake (08) -/

end State

/-- Whether a window contains an instant (R140). -/
def Window.contains (w : Window) (t : ClockTime) : Bool :=
  if w.start < w.stop then
    w.mask.getLsbD t.day.val && decide (w.start * 60 ≤ t.sec.val ∧ t.sec.val < w.stop * 60)
  else
    (w.mask.getLsbD t.day.val && decide (w.start * 60 ≤ t.sec.val))
      || (w.mask.getLsbD ((t.day.val + 6) % 7) && decide (t.sec.val < w.stop * 60))

/-- The clock one second on (R137). -/
def nextTime (t : ClockTime) : ClockTime :=
  if h : t.sec.val + 1 < 86400 then { t with sec := ⟨t.sec.val + 1, h⟩ }
  else ⟨t.day + 1, 0⟩

namespace State

/-- Whether schedule window `w` contains the present instant; none does while the clock is UNSET (R140). -/
def inWindow (s : State) (w : Fin 8) : Bool :=
  match s.intake.clock with
  | some t => (s.tables.windows.get w).contains t
  | none => false

/-- Some drop machine is in OPEN, WEIGHING or TIPPING (R141). -/
def anyInFlight (s : State) : Bool := Hatch.all.any fun h => (s.drop h).inFlight

/-- The intake state that the inputs give (R141). -/
def intakeTarget (s : State) : IntakeState :=
  if s.intake.enable then
    if s.inWindow 0 then
      if s.journalRoom = 0 ∨ s.storeRoom = 0 then .suspended else .running
    else .closed
  else if s.anyInFlight then .stopping
  else .stopped

/-- Intake leaving RUNNING or SUSPENDED cancels a transaction in AWAIT_DECL, counted as STOPPED (R16,
R27). -/
def cancelAwaiting (s : State) (h : Hatch) : State :=
  match s.drop h with
  | .awaitDecl _ _ => ((s.setDrop h .idle).countCancel .stopped).showAt h 28
  | _ => s

/-- Whether the change leaves intake: from RUNNING or SUSPENDED to CLOSED, STOPPING or STOPPED (R142). -/
def leavesIntake (a b : IntakeState) : Bool :=
  decide (a = .running ∨ a = .suspended) && decide (b = .closed ∨ b = .stopping ∨ b = .stopped)

/-- Intake control evaluates its state; a change triggers a notice and cancels what waits (R141, R142). -/
def evalIntake (s : State) : State :=
  if s.intakeTarget = s.intake.state then s
  else
    let s1 := (s.setIntake { s.intake with state := s.intakeTarget }).trigger .intake
    if leavesIntake s.intake.state s.intakeTarget then Hatch.all.foldl cancelAwaiting s1 else s1

/-- A new night: every slot's counters are 0, and the tokens kept stay (R78). -/
def rollover (s : State) : State := s.setCounts (s.counts.map fun c => { c with bags := 0, value := 0 })

/-- Intake control evaluates the window-0 mark; a rise rolls the night over (R146). -/
def evalWindow (s : State) : State :=
  let s1 := s.setIntake { s.intake with windowMark := s.inWindow 0 }
  if s.inWindow 0 && !s.intake.windowMark then s1.rollover else s1

/-! ## Cover account (05) -/

/-- A hold of `d` is placed (R85). -/
def holdCover (s : State) (d : Nat) : State :=
  (s.setCover { s.cover with held := s.cover.held + d }).evalCover

/-- A hold of `d` is released (R87). -/
def releaseCover (s : State) (d : Nat) : State :=
  (s.setCover { s.cover with held := s.cover.held - d }).evalCover

/-- A commit moves `d` from H to S (R86). -/
def commitCover (s : State) (d : Nat) : State :=
  (s.setCover { s.cover with held := s.cover.held - d, committed := s.cover.committed + d }).evalCover

/-- A reconciliation takes `d` from S (R88). -/
def reconcileCover (s : State) (d : Nat) : State :=
  (s.setCover { s.cover with committed := s.cover.committed - d }).evalCover

/-! ## Journal (06) -/

/-- The entry with a number (R99). -/
def findEntry (s : State) (n : Nat) : Option Entry := s.journal.entries.find? fun e => e.number == n

/-- A change to the entry with a number. -/
def modEntry (s : State) (n : Nat) (f : Entry → Entry) : State :=
  s.setJournal { s.journal with entries := s.journal.entries.map fun e => if e.number = n then f e else e }

/-- The entry becomes STRANDED and keeps its fields, and the alarm is raised (R102). -/
def strandEntry (s : State) (n : Nat) : State :=
  (s.modEntry n fun e => { e with state := .stranded }).raise .stranded

/-- A slot hold is placed (R103). -/
def placeSlot (s : State) : State := s.setJournal { s.journal with slotHolds := s.journal.slotHolds + 1 }

/-- A slot hold is removed (R103). -/
def removeSlot (s : State) : State := s.setJournal { s.journal with slotHolds := s.journal.slotHolds - 1 }

/-- A STORE_TABLES write is in flight (R184). -/
def storing (s : State) : Bool :=
  match s.office.hand with
  | some (.storing _) => true
  | _ => false

/-- The epoch write: the epoch copy becomes the stored epoch, while the table store is good and no
STORE_TABLES is in flight (R183). -/
def epochWrite (s : State) : State :=
  if s.tableStore.good && !s.storing then s.setTableStore { s.tableStore with epoch := s.journal.epoch } else s

/-- The epoch write of a journal wrap, which may still be under way when a power fail comes (R183, R187;
log entry 21). -/
def wrapWrite (s : State) : State :=
  if s.tableStore.good && !s.storing then
    s.setTableStore { s.tableStore with epoch := s.journal.epoch, writing := true }
  else s

/-- The next number advances; from 4,294,967,295 it wraps to 1 and the epoch copy advances with it, and
the new epoch is written (R99). -/
def advanceNumber (s : State) : State :=
  if s.journal.next = Config.maxWord then
    (s.setJournal { s.journal with next := 1, epoch := (s.journal.epoch + 1) % 65536 }).wrapWrite
  else s.setJournal { s.journal with next := s.journal.next + 1 }

/-- A slot hold becomes a new entry at the newest end (R98). -/
def appendEntry (s : State) (e : Entry) : State :=
  ((s.removeSlot).setJournal
    { s.removeSlot.journal with entries := s.journal.entries ++ [e], last := e.number }).advanceNumber.evalJournal

/-- The time written into an entry: the clock, or the free value given while it is UNSET (R95; log entry 7). -/
def stampTime (s : State) (free : ClockTime) : ClockTime := s.intake.clock.getD free

/-! ## Store holds, assignment and pending places (07) -/

/-- A store hold is placed (R113). -/
def placeStoreHold (s : State) : State := (s.setStore { s.store with holds := s.store.holds + 1 }).evalStore

/-- A store hold is released (R113). -/
def removeStoreHold (s : State) : State := (s.setStore { s.store with holds := s.store.holds - 1 }).evalStore

/-- An OPEN bin with count room (R115). -/
def takesBags (s : State) (b : BinNo) : Bool := decide ((s.bin b).state = .opened ∧ 0 < (s.bin b).room b)

/-- A regular bin below 15,000 g (R115). -/
def isLight (s : State) (b : BinNo) : Bool := decide ((s.bin b).mass < Config.lightLimit)

/-- The lowest-numbered regular bin that takes bags and passes `p` (R115). -/
def firstRegular (s : State) (p : BinNo → Bool) : Option BinNo :=
  allBins.find? fun b => decide (b ≠ 0) && s.takesBags b && p b

/-- Step 1 of an accepted bag: its home bin, if it is a regular bin that fits and is light (R115). -/
def homeCandidate (s : State) (home : Nat) : Option BinNo :=
  match binOf? home with
  | some b => if b ≠ 0 ∧ s.takesBags b = true ∧ s.isLight b = true then some b else none
  | none => none

/-- Bin 0, if it takes bags. -/
def quarantineCandidate (s : State) : Option BinNo := if s.takesBags 0 then some 0 else none

/-- The order for an accepted bag (R115). -/
def chooseAccepted (s : State) (home : Nat) : Option (BinNo × Route) :=
  match s.homeCandidate home, s.firstRegular s.isLight, s.firstRegular fun _ => true, s.quarantineCandidate with
  | some b, _, _, _ => some (b, ⟨false, false⟩)
  | none, some b, _, _ => some (b, ⟨false, false⟩)
  | none, none, some b, _ => some (b, ⟨false, true⟩)
  | none, none, none, some b => some (b, ⟨true, false⟩)
  | none, none, none, none => none

/-- The order for a quarantined bag (R115). -/
def chooseQuarantined (s : State) : Option (BinNo × Route) :=
  match s.quarantineCandidate, s.firstRegular s.isLight, s.firstRegular fun _ => true with
  | some b, _, _ => some (b, ⟨false, false⟩)
  | none, some b, _ => some (b, ⟨true, false⟩)
  | none, none, some b => some (b, ⟨true, true⟩)
  | none, none, none => none

/-- The bin and route flags of the bag with journal number `n`. R115 says that a bin is always found;
where none is, the bin is a free value (log entry 6). -/
def chooseBin (s : State) (v : Verdict) (home n : Nat) : BinNo × Route :=
  let found := match v with
    | .accepted => s.chooseAccepted home
    | .quarantined => s.chooseQuarantined
  found.getD (Config.freeBin n, Route.empty)

/-- The store hold becomes a pending place of the bin, which may fill it (R116). -/
def placePending (s : State) (b : BinNo) (mass total : Nat) : State :=
  let r := s.bin b
  let fills := decide (r.arrived.length + (r.pending + 1) = Config.binCapacity b)
  let s1 := s.setStore { s.store with holds := s.store.holds - 1 }
  (s1.setBin b
    { r with
      state := if fills then .full else r.state
      pending := r.pending + 1
      mass := r.mass + mass
      value := r.value + total }).evalStore.evalIntake

end State

/-- The mass assigned for a bag: W, or E when W is absent (R111). -/
def Entry.assigned (e : Entry) : Nat := e.mass.getD e.expected

namespace State

/-- The pending place of the bag with journal number `n` leaves its bin's record, with its totals, read from
the bag's entry (R117). -/
def releasePlace (s : State) (n : Nat) : State :=
  match s.findEntry n with
  | none => s
  | some e =>
    match e.bin with
    | none => s
    | some b =>
      let r := s.bin b
      s.setBin b { r with pending := r.pending - 1, mass := r.mass - e.assigned, value := r.value - e.total }

/-- A pending place is released, and the near mark follows the room (R114, R117). -/
def releasePending (s : State) (n : Nat) : State := (s.releasePlace n).evalStore

/-- The bin of the bag with journal number `n` (log entry 6 where it has none). -/
def binOfEntry (s : State) (n : Nat) : BinNo :=
  match s.findEntry n with
  | some e => e.bin.getD (Config.freeBin n)
  | none => Config.freeBin n

/-! ## The ending of a transaction (01) -/

/-- The transaction at hatch `h` ends and its machine enters `next`: an uncommitted one is cancelled and
its holds released, a committed one is stranded and what its bag held is released (R16, R22, R25). No
counter, prompt or flag is touched but the alarm of R102 and the evaluations of the blocks. -/
def endTransaction (s : State) (h : Hatch) (next : Drop) : State :=
  match s.drop h with
  | .opened _ d _ _ _ =>
    ((((s.setDrop h next).releaseCover d.total).removeSlot).removeStoreHold).evalIntake
  | .weighing _ _ n _ => (((s.setDrop h next).strandEntry n).removeStoreHold).evalIntake
  | .tipping _ _ n _ _ => (((s.setDrop h next).strandEntry n).releasePending n).evalIntake
  | .awaitDecl _ _ => s.setDrop h next
  | .offline => s.setDrop h next
  | .idle => s.setDrop h next
  | .fault => s.setDrop h next

/-- The fault flag of hatch `h` is set, and its machine enters FAULT unless it is OFFLINE or in FAULT
(R22). -/
def faultHatch (s : State) (h : Hatch) : State :=
  let s1 := s.modPort h fun p => { p with faultFlag := true }
  match s1.drop h with
  | .offline => s1
  | .fault => s1
  | .idle => s1.endTransaction h .fault
  | .awaitDecl _ _ => s1.endTransaction h .fault
  | .opened _ _ _ _ _ => s1.endTransaction h .fault
  | .weighing _ _ _ _ => s1.endTransaction h .fault
  | .tipping _ _ _ _ _ => s1.endTransaction h .fault

/-- A cancellation that counts and prompts DROP_CANCELLED, into IDLE (R16). -/
def cancelDrop (s : State) (h : Hatch) (c : Cancel) : State :=
  ((s.endTransaction h .idle).countCancel c).showAt h 28

/-! ## Depositor table (04) -/

end State

/-- The slot of a token's bucket and a way (R64). -/
def slotAt (token : Nat) (way : Fin 4) : Slot :=
  ⟨token % 128 * 4 + way.val, by have := Nat.mod_lt token (by decide : 0 < 128); omega⟩

/-- The ways in order. -/
def ways : List (Fin 4) := [0, 1, 2, 3]

namespace State

/-- The lookup: the first way of the token's bucket whose entry carries it (R65). -/
def lookup (s : State) (token : Nat) : Option (Slot × DepositorEntry) :=
  ways.findSome? fun w =>
    match s.tables.depositors.get (slotAt token w) with
    | some e => if e.token = token then some (slotAt token w, e) else none
    | none => none

/-- Whether a slot holds a token (R75, R76). -/
def slotHolds (s : State) (slot : Slot) (token : Nat) : Bool :=
  match s.tables.depositors.get slot with
  | some e => decide (e.token = token)
  | none => false

/-! ## Service (R2) -/

/-- A hatch is in service (R2). -/
def inService (s : State) (h : Hatch) : Bool :=
  let p := s.port h
  decide (p.link = .up) && p.caps.weigh && p.caps.scan && (s.config h).enable && decide (p.drop ≠ .fault)

/-! ## Outputs that follow the state (R131, R163; log entry 4) -/

/-- The aux lamp is lit (R163). -/
def lampLit (s : State) (h : Hatch) : Bool :=
  s.running && decide ((s.config h).aux = .lamp) && decide (s.drop h = .idle) && s.inService h
    && decide (s.intake.state = .running)

/-- MOTOR_INHIBIT is driven while the inner door is open (R128). -/
def motorInhibit (s : State) : Bool := s.running && s.store.doorOpen

end State

/-- What the MOVE lines carry (R131). -/
inductive MoveLine | released | seekHome | target (b : BinNo)
  deriving DecidableEq, Repr

namespace State

/-- The MOVE lines: the target in MOVING, the seek-home request in HOMING, released otherwise (R131). -/
def moveLine (s : State) : MoveLine :=
  if s.running then
    match s.store.carousel with
    | .homing _ => .seekHome
    | .moving b _ _ => .target b
    | _ => .released
  else .released

/-! ## The office port: replies, transmitter and notices (10) -/

/-- The reply of the request in hand is formed and waits for the transmitter, which empties the hand as it
begins to send it (R169, R171), a BAD_LENGTH or UNKNOWN_COMMAND alike (log entry 33). -/
def answer (s : State) (command : Nat) (result : Result) (data : List Byte) : State :=
  s.setOffice
    { s.office with hand := some .replying, replies := s.office.replies ++ [.own ⟨command, result, data⟩] }

end State

/-- A waiting BUSY reply. -/
def WaitingReply.isBusy : WaitingReply → Bool
  | .busy _ => true
  | .own _ => false

/-- What the hand holds once its reply has begun transmission (R169, R191). -/
def Hand.begun : Option Hand → Option Hand
  | some .replying => none
  | some .resetWaiting => some .resetSending
  | some (.storing c) => some (.storing c)
  | some .resetSending => some .resetSending
  | none => none

namespace State

/-- A BUSY reply with the command's code, in the place of one that waits (R169). -/
def answerBusy (s : State) (command : Nat) : State :=
  s.setOffice
    { s.office with
      replies := (s.office.replies.filter fun r => !r.isBusy) ++ [.busy ⟨command, .busy, []⟩] }

/-- The content of a notice that begins now (R172). -/
def noticeContent (s : State) (c : Causes) : Notice where
  causes := c
  last := s.journal.last
  epoch := s.journal.epoch
  present := s.journal.entries.length
  committed := s.cover.committed
  held := s.cover.held
  limit := s.tables.limit
  intake := s.intake.state
  carousel := s.store.carousel
  flags := s.office.flags
  clock := s.intake.clock

/-- A free transmitter begins the first waiting frame: replies in the order formed, then the notice; a
notice that begins sets the mitigation count to 0 and stops the timer (R171, R173). -/
def pump (s : State) : State :=
  match s.office.transmitter, s.office.replies, s.office.notice with
  | some _, _, _ => s
  | none, .own r :: rest, _ =>
    s.setOffice
      { s.office with transmitter := some (.reply r), replies := rest, hand := Hand.begun s.office.hand }
  | none, .busy r :: rest, _ => s.setOffice { s.office with transmitter := some (.reply r), replies := rest }
  | none, [], some c =>
    s.setOffice
      { s.office with
        transmitter := some (.notice (s.noticeContent c))
        notice := none
        count := 0
        timer := none }
  | none, [], none => s

/-- An event of the running controller, taken whole; the transmitter then begins what waits (R171). While
the controller is without power or held in reset no event is taken (R187). -/
def event (s : State) (f : State → State) : State := if s.running then (f s).pump else s

/-- A request arrives (R169, R170): while the hand is occupied it is answered BUSY and not handled;
parameters that do not fit are answered BAD_LENGTH; otherwise `f` handles it and forms its reply. -/
def request {α : Type} (s : State) (command : Nat) (p : Params α) (f : α → State) : State :=
  s.event fun s =>
    if s.office.hand.isSome then s.answerBusy command
    else
      match p with
      | .misfit _ => s.answer command .badLength []
      | .fits a => f a

end State

end Sys2Proof.Machine
end

