-- ==== Sys2Proof/Machine/Carousel.lean ====
section
/-! DEFINITION. The store controller's shared operations: the arbiter, deliveries, tray queues and their
verification, release counts, and the bin requests' changes (07). -/

namespace Sys2Proof.Machine

open Sys2Proof

/-- The hatches from the one after `h`, wrapping from 4 to 1 (R120). -/
def hatchesAfter : Hatch → List Hatch
  | .h1 => [.h2, .h3, .h4, .h1]
  | .h2 => [.h3, .h4, .h1, .h2]
  | .h3 => [.h4, .h1, .h2, .h3]
  | .h4 => [.h1, .h2, .h3, .h4]

namespace State

/-! ## Deliveries and the arbiter -/

/-- The release target of a delivery: one more than the allowed count (R125), and a free value while no
counts are held (log entry 5). -/
def releaseTarget (s : State) (g : Grant) : BitVec 8 :=
  match (s.port g.hatch).release with
  | some c => c.allowed + 1
  | none => Config.freeReleaseTarget g.entry

/-- The carousel enters DELIVERING, and the allowed release count becomes the target (R125). -/
def deliver (s : State) (g : Grant) (b : BinNo) : State :=
  let t := s.releaseTarget g
  (s.modPort g.hatch fun p => { p with release := p.release.map fun c => { c with allowed := t } }).setCarousel
    (.delivering g b t (s.now + Config.deliveryTime))

/-- A hatch is a candidate: its queue is not empty, its link is UP and its baseline has been taken, which
is when release counts are held (R120, R130). -/
def candidate (s : State) (h : Hatch) : Bool :=
  decide (s.queue h ≠ []) && decide ((s.port h).link = .up) && (s.port h).release.isSome

/-- A candidate whose queue is at its resolved depth (R120). -/
def pressed (s : State) (h : Hatch) : Bool := decide ((s.queue h).length = (s.port h).depth)

/-- The arbiter's choice: the first candidate after the last-granted hatch, among the pressed ones if
there are any (R120). -/
def arbiterChoice (s : State) : Option Hatch :=
  let cs := (hatchesAfter s.store.lastGranted).filter s.candidate
  if cs.any s.pressed then cs.find? s.pressed else cs.head?

/-- The carousel is granted to a hatch for the head of its queue, and a delivery or a move starts (R120,
R124). -/
def grantTo (s : State) (h : Hatch) : State :=
  match s.queue h with
  | [] => s
  | n :: _ =>
    let b := s.binOfEntry n
    let s1 := s.setStore { s.store with lastGranted := h }
    if s.store.position = some b then s1.deliver ⟨h, n⟩ b
    else s1.setCarousel (.moving b (some ⟨h, n⟩) (s.now + Config.moveTime))

/-- The arbiter runs: in IDLE with the inner door closed and a candidate, it grants (R120). -/
def arbiter (s : State) : State :=
  if s.store.carousel = .idle ∧ s.store.doorOpen = false then
    match s.arbiterChoice with
    | some h => s.grantTo h
    | none => s
  else s

/-- The carousel enters IDLE, and the arbiter runs (R120). -/
def enterIdle (s : State) : State := (s.setCarousel .idle).arbiter

/-- A move has come to its target: the grant is checked, and the delivery begins, or the carousel is IDLE
there (R124). -/
def endMove (s : State) (b : BinNo) (grant : Option Grant) : State :=
  match grant with
  | none => s.enterIdle
  | some g =>
    if (s.port g.hatch).link = .up ∧ (s.queue g.hatch).head? = some g.entry then s.deliver g b
    else s.enterIdle

/-- The carousel is put in HOMING, or HALTED with the homing kept while the inner door is open; its
position is unknown (R122, R135). -/
def startHoming (s : State) : State :=
  (s.setPosition none).setCarousel
    (if s.store.doorOpen then .haltedHoming else .homing (s.now + Config.homingTime))

/-- The head of a hatch's queue is removed (R118). -/
def popQueue (s : State) (h : Hatch) : State := s.setQueue h (s.queue h).tail

/-- Step 5 of R127: where counts are held and the last seen count has not reached the release target, the
hatch's fault flag is set with TRAY_FAULT. -/
def blameTray (s : State) (h : Hatch) (target : BitVec 8) : State :=
  match (s.port h).release with
  | none => s
  | some c => if c.seen = target then s else (s.raise .trayFault).faultHatch h

/-- A delivery ends without its drop pulse: the entry is stranded, its pending place released, its queue
item popped, the carousel enters `next` with CAROUSEL_FAULT, and the tray may be blamed (R123, R127). -/
def failDelivery (s : State) (g : Grant) (target : BitVec 8) (next : Carousel) : State :=
  ((((((s.strandEntry g.entry).releasePending g.entry).popQueue g.hatch).setCarousel next).raise
    .carouselFault).evalIntake).blameTray g.hatch target

/-- A drop pulse files the bag (R101, R126): entry, bin record and queue in one whole, and the carousel is
IDLE at the bin. -/
def fileBag (s : State) (g : Grant) (b : BinNo) : State :=
  let r := s.bin b
  let s1 := s.modEntry g.entry fun e =>
    { e with state := .binned, binned := some (s.stampTime (Config.freeFiling g.entry)) }
  ((((s1.setBin b { r with arrived := r.arrived ++ [g.entry], pending := r.pending - 1 }).popQueue
    g.hatch).setPosition (some b))).enterIdle

/-! ## Tray verification (R119) -/

/-- The carousel is DELIVERING for a hatch. -/
def deliveringFor (s : State) (h : Hatch) : Bool :=
  match s.store.carousel with
  | .delivering g _ _ _ => decide (g.hatch = h)
  | _ => false

/-- The verification passes against a tray count (R119). -/
def trayAgrees (s : State) (h : Hatch) (count : Nat) : Bool :=
  (decide (count = (s.queue h).length) || (s.deliveringFor h && decide (count + 1 = (s.queue h).length)))
    && decide ((s.queue h).length ≤ (s.port h).depth)

/-- Step 5 of a failed verification: a delivery for the hatch ends, and a grant for it is withdrawn. -/
def withdrawGrant (s : State) (h : Hatch) : State :=
  match s.store.carousel with
  | .delivering g _ _ _ => if g.hatch = h then s.enterIdle else s
  | .moving b (some g) d => if g.hatch = h then s.setCarousel (.moving b none d) else s
  | .haltedMove b (some g) => if g.hatch = h then s.setCarousel (.haltedMove b none) else s
  | _ => s

/-- The bag with journal number `n` is stranded from the tray, and its pending place released. -/
def strandFromTray (s : State) (n : Nat) : State := (s.strandEntry n).releasePending n

/-- A failed verification strands the queue, empties it, sets the fault flag with TRAY_FAULT and ends a
delivery or withdraws a grant (R119). The drop machine's own part is its caller's. -/
def failVerification (s : State) (h : Hatch) : State :=
  let s1 := ((s.queue h).foldl strandFromTray s).setQueue h []
  (((s1.modPort h fun p => { p with faultFlag := true }).raise .trayFault).evalIntake).withdrawGrant h

/-! ## Release counts (R130) -/

/-- The baseline sets the release counts; the hatch may become a candidate (R130, R155). -/
def baselineRelease (s : State) (h : Hatch) (c : BitVec 8) : State :=
  let allowed := match s.store.carousel with
    | .delivering g _ t _ => if g.hatch = h then t else c
    | _ => c
  let s1 := s.modPort h fun p => { p with release := some ⟨c, allowed⟩ }
  if s.queue h = [] then s1 else s1.arbiter

/-- A later report's release counter: an advance within the allowed count is recorded, any other is an
unexpected release (R130). -/
def examineRelease (s : State) (h : Hatch) (c : BitVec 8) : State :=
  match (s.port h).release with
  | none => s
  | some k =>
    if c = k.seen then s
    else if (c - k.seen).toNat ≤ (k.allowed - k.seen).toNat then
      s.modPort h fun p => { p with release := some { k with seen := c } }
    else ((s.modPort h fun p => { p with release := some ⟨c, c⟩ }).raise .trayFault).faultHatch h

end State

end Sys2Proof.Machine
end

