-- ==== Sys2Proof/Machine/BinRequests.lean ====
section
/-! DEFINITION. The meanings of the requests on the bin table and the carousel (07). -/

namespace Sys2Proof.Machine

open Sys2Proof

namespace State

/-! ## BIN_CLEAR (R132) -/

/-- The carousel is DELIVERING to a bin. -/
def deliveringTo (s : State) (b : BinNo) : Bool :=
  match s.store.carousel with
  | .delivering _ c _ _ => decide (c = b)
  | _ => false

/-- The three conditions of BIN_CLEAR. -/
def clearable (s : State) (b : BinNo) : Bool :=
  decide (s.intake.state = .stopped ∨ s.intake.state = .closed) && decide ((s.bin b).pending = 0)
    && !s.deliveringTo b

/-- The sum of D over the entries that a list names (R88). -/
def valueOf (s : State) (ns : List Nat) : Nat :=
  ((s.journal.entries.filter fun e => ns.contains e.number).map Entry.total).sum

/-- Every entry that a list names becomes RECONCILED with its fields kept (R106). -/
def reconcileAll (s : State) (ns : List Nat) : State :=
  s.setJournal
    { s.journal with
      entries := s.journal.entries.map fun e => if ns.contains e.number then { e with state := .reconciled } else e }

/-- The bin is counted out and becomes OPEN (R132). -/
def clearBin (s : State) (b : BinNo) : State :=
  let r := s.bin b
  let s1 := (s.reconcileAll r.arrived).reconcileCover (s.valueOf r.arrived)
  (s1.setBin b { r with state := .opened, arrived := [], mass := 0, value := 0 }).evalStore.evalIntake

/-- BIN_CLEAR (R132). -/
def binClear (s : State) (v : Nat) : State :=
  match binOf? v with
  | none => s.answer 0x50 .range []
  | some b =>
    if s.clearable b then
      (s.clearBin b).answer 0x50 .ok (Out.u8 (s.bin b).arrived.length ++ Out.u32 (s.clearBin b).cover.committed)
    else s.answer 0x50 .state []

/-! ## BIN_WITHDRAW and BIN_RESTORE (R133, R134) -/

/-- A bin's state changes; the near mark and the intake state follow the room. -/
def changeBinState (s : State) (b : BinNo) (x : BinState) : State :=
  (s.setBin b { s.bin b with state := x }).evalStore.evalIntake

/-- Whether BIN_WITHDRAW is refused: UNKNOWN, a pending count, or an OPEN bin that the store holds need. -/
def withdrawRefused (s : State) (b : BinNo) : Bool :=
  decide ((s.bin b).state = .unknown) || decide (0 < (s.bin b).pending)
    || (decide ((s.bin b).state = .opened) && decide (s.freePlaces < s.store.holds + (s.bin b).room b))

/-- BIN_WITHDRAW (R133). -/
def binWithdraw (s : State) (v : Nat) : State :=
  match binOf? v with
  | none => s.answer 0x51 .range []
  | some b =>
    if s.withdrawRefused b then s.answer 0x51 .state []
    else (if (s.bin b).state = .withdrawn then s else s.changeBinState b .withdrawn).answer 0x51 .ok []

/-- The state that a withdrawn bin returns to. -/
def restoredState (s : State) (b : BinNo) : BinState :=
  if (s.bin b).arrived.length = Config.binCapacity b then .full else .opened

/-- BIN_RESTORE (R134). -/
def binRestore (s : State) (v : Nat) : State :=
  match binOf? v with
  | none => s.answer 0x52 .range []
  | some b =>
    if (s.bin b).state = .withdrawn then
      (s.changeBinState b (s.restoredState b)).answer 0x52 .ok (Out.u8 (s.restoredState b).code)
    else s.answer 0x52 .state []

/-! ## BIN_READ and CAROUSEL_HOME (R135) -/

/-- The data of BIN_READ (Table 12-6). -/
def binData (s : State) (b : BinNo) : List Byte :=
  let r := s.bin b
  Out.u8 r.state.code ++ Out.u8 (Config.binCapacity b) ++ Out.u16 (Config.massPreference b)
    ++ Out.list Out.u32 r.arrived ++ Out.u8 r.pending ++ Out.u24 r.mass ++ Out.u32 r.value
    ++ Out.u16 s.freePlaces ++ Out.u8 s.store.holds ++ Out.u16 s.storeRoom
    ++ Out.u8 s.store.carousel.code ++ Out.position s.store.position
    ++ (match s.store.carousel.grant with
        | some g => Out.hatch g.hatch ++ Out.u32 g.entry
        | none => Out.u8 0 ++ Out.u32 0)

/-- BIN_READ (R135). -/
def binRead (s : State) (v : Nat) : State :=
  match binOf? v with
  | none => s.answer 0x53 .range []
  | some b => s.answer 0x53 .ok (s.binData b)

/-- CAROUSEL_HOME (R135). -/
def carouselHome (s : State) (_ : Unit) : State :=
  match s.store.carousel with
  | .unhomed => s.startHoming.answer 0x54 .ok []
  | .idle => s.startHoming.answer 0x54 .ok []
  | .fault => s.startHoming.answer 0x54 .ok []
  | .homing _ => s.answer 0x54 .ok []
  | .moving _ _ _ => s.answer 0x54 .state []
  | .haltedHoming => s.answer 0x54 .state []
  | .haltedMove _ _ => s.answer 0x54 .state []
  | .delivering _ _ _ _ => s.answer 0x54 .state []

end State

/-- BIN_CLEAR (R132). -/
def execBinClear (p : Params Nat) (s : State) : Meaning := .next (s.request 0x50 p s.binClear)

/-- BIN_WITHDRAW (R133). -/
def execBinWithdraw (p : Params Nat) (s : State) : Meaning := .next (s.request 0x51 p s.binWithdraw)

/-- BIN_RESTORE (R134). -/
def execBinRestore (p : Params Nat) (s : State) : Meaning := .next (s.request 0x52 p s.binRestore)

/-- BIN_READ (R135). -/
def execBinRead (p : Params Nat) (s : State) : Meaning := .next (s.request 0x53 p s.binRead)

/-- CAROUSEL_HOME (R135). -/
def execCarouselHome (p : Params Unit) (s : State) : Meaning := .next (s.request 0x54 p s.carouselHome)

end Sys2Proof.Machine
end

