-- ==== Sys2Proof/Machine/CoverRequests.lean ====
section
/-! DEFINITION. The meanings of the requests on the cover account (05). -/

namespace Sys2Proof.Machine

open Sys2Proof

namespace State

/-- C takes a value, and the near mark is evaluated (R90, R92). -/
def setLimit (s : State) (c : Nat) : State := (s.setTables { s.tables with limit := c }).evalCover

/-- C, S and H as both accepted replies of COVER_SET carry them. -/
def coverSums (s : State) : List Byte :=
  Out.u32 s.tables.limit ++ Out.u32 s.cover.committed ++ Out.u32 s.cover.held

/-- COVER_SET (R90). -/
def coverSet (s : State) (v : Nat) : State :=
  if Config.maxLimit < v then s.answer 0x40 .range []
  else if s.cover.committed + s.cover.held ≤ v then
    (s.setLimit v).answer 0x40 .ok (s.setLimit v).coverSums
  else
    let c := s.cover.committed + s.cover.held
    (s.setLimit c).answer 0x40 .clamped (s.setLimit c).coverSums

/-- The hatches whose drop machine is in OPEN, each with the D it holds. -/
def openHolds (s : State) : List (Hatch × Nat) :=
  Hatch.all.filterMap fun h =>
    match s.drop h with
    | .opened _ d _ _ _ => some (h, d.total)
    | _ => none

/-- The data of COVER_READ, in the order of R93. -/
def coverData (s : State) : List Byte :=
  s.coverSums ++ Out.u32 (s.tables.limit - s.cover.committed - s.cover.held) ++ Out.mark s.cover.near
    ++ Out.list (fun x => Out.hatch x.1 ++ Out.u32 x.2) s.openHolds

/-- COVER_READ (R93). -/
def coverRead (s : State) (_ : Unit) : State := s.answer 0x41 .ok s.coverData

end State

/-- COVER_SET (R90). -/
def execCoverSet (p : Params Nat) (s : State) : Meaning := .next (s.request 0x40 p s.coverSet)

/-- COVER_READ (R93). -/
def execCoverRead (p : Params Unit) (s : State) : Meaning := .next (s.request 0x41 p s.coverRead)

end Sys2Proof.Machine
end

