-- ==== Sys2Proof/Machine/Depositors.lean ====
section
/-! DEFINITION. The meanings of the requests on the depositor table (04). -/

namespace Sys2Proof.Machine

open Sys2Proof

namespace State

/-- The lowest-numbered free way of a token's bucket (R67). -/
def freeSlot (s : State) (token : Nat) : Option Slot :=
  ways.findSome? fun w =>
    match s.tables.depositors.get (slotAt token w) with
    | none => some (slotAt token w)
    | some _ => none

/-- What a slot of the working table holds becomes `e`. -/
def putDepositor (s : State) (slot : Slot) (e : Option DepositorEntry) : State :=
  s.setTables { s.tables with depositors := s.tables.depositors.put slot e }

/-- A slot's night counters are 0 and 0, and the token kept with them is that of its entry (R67, R68, R73). -/
def zeroCount (s : State) (slot : Slot) (token : Option Nat) : State :=
  s.setCounts (s.counts.put slot ⟨0, 0, token⟩)

/-- DEPOSITOR_PUT (R67). -/
def depositorPut (s : State) (a : DepositorArgs) : State :=
  match depositorOf? a with
  | none => s.answer 0x20 .range []
  | some e =>
    match s.lookup e.token with
    | some (slot, _) => (s.putDepositor slot (some e)).answer 0x20 .ok (Out.u16 slot.val)
    | none =>
      match s.freeSlot e.token with
      | some slot =>
        ((s.putDepositor slot (some e)).zeroCount slot (some e.token)).answer 0x20 .ok (Out.u16 slot.val)
      | none => s.answer 0x20 .full []

/-- DEPOSITOR_DROP (R68). -/
def depositorDrop (s : State) (token : Nat) : State :=
  if token = 0 then s.answer 0x21 .range []
  else
    match s.lookup token with
    | none => s.answer 0x21 .notFound []
    | some (slot, _) => ((s.putDepositor slot none).zeroCount slot none).answer 0x21 .ok (Out.u16 slot.val)

/-- DEPOSITOR_STATE (R69). -/
def depositorSetState (s : State) (a : DepositorStateArgs) : State :=
  match depositorState? a.state with
  | none => s.answer 0x22 .range []
  | some st =>
    if a.token = 0 then s.answer 0x22 .range []
    else
      match s.lookup a.token with
      | none => s.answer 0x22 .notFound []
      | some (slot, e) => (s.putDepositor slot (some { e with state := st })).answer 0x22 .ok []

/-- The hatches whose drop machine has a transaction carrying a token (R70). -/
def hatchesCarrying (s : State) (token : Nat) : List Hatch :=
  Hatch.all.filter fun h =>
    match (s.drop h).snapshot with
    | some t => decide (t.entry.token = token)
    | none => false

/-- The data of DEPOSITOR_READ, in the order of R70. -/
def depositorData (s : State) (slot : Slot) (e : DepositorEntry) : List Byte :=
  Out.depositor e ++ Out.u8 (s.counts.get slot).bags ++ Out.u32 (s.counts.get slot).value ++ Out.u16 slot.val
    ++ Out.list (fun h => Out.hatch h ++ Out.u8 (s.drop h).code) (s.hatchesCarrying e.token)

/-- DEPOSITOR_READ (R70). -/
def depositorRead (s : State) (token : Nat) : State :=
  if token = 0 then s.answer 0x23 .range []
  else
    match s.lookup token with
    | none => s.answer 0x23 .notFound []
    | some (slot, e) => s.answer 0x23 .ok (s.depositorData slot e)

end State

/-- DEPOSITOR_PUT (R67). -/
def execDepositorPut (p : Params DepositorArgs) (s : State) : Meaning := .next (s.request 0x20 p s.depositorPut)

/-- DEPOSITOR_DROP (R68). -/
def execDepositorDrop (p : Params Nat) (s : State) : Meaning := .next (s.request 0x21 p s.depositorDrop)

/-- DEPOSITOR_STATE (R69). -/
def execDepositorState (p : Params DepositorStateArgs) (s : State) : Meaning :=
  .next (s.request 0x22 p s.depositorSetState)

/-- DEPOSITOR_READ (R70). -/
def execDepositorRead (p : Params Nat) (s : State) : Meaning := .next (s.request 0x23 p s.depositorRead)

end Sys2Proof.Machine
end

