-- ==== Sys2Proof/Machine/Check.lean ====
section
/-! DEFINITION. The check unit: the token checks, the declaration checks, the mass arithmetic and the
verdict (01 to 04). It holds no state of its own. -/

namespace Sys2Proof.Machine

open Sys2Proof

/-! ## Denominations -/

/-- Face value and unit mass; VOID has neither (R32). -/
def Denom.face : Denom → Nat
  | .note f _ => f
  | .coin f _ => f
  | .void => 0

def Denom.mass : Denom → Nat
  | .note _ m => m
  | .coin _ m => m
  | .void => 0

namespace State

/-- The denomination entry of an index, VOID outside the table. -/
def denomAt (s : State) (i : Nat) : Denom :=
  if h : i < 16 then s.tables.denoms.get ⟨i, h⟩ else .void

/-- The tare of a bag class, in grams. -/
def tareOf (s : State) (c : Nat) : Nat := if h : c < 4 then s.tables.tares.get ⟨c, h⟩ else 0

/-! ## Declaration checks 1 to 3 (02) -/

/-- A line passes the format check: its count is 1 to 9,999 and its index names an entry that is not
VOID (R31). -/
def lineOk (s : State) (l : Line) : Bool :=
  within 1 9999 l.count && decide (l.denom ≤ 15) && decide (s.denomAt l.denom ≠ .void)

/-- The format check (R31). -/
def formatOk (s : State) (d : Declaration) : Bool :=
  within 1 6 d.lines.length && d.lines.all s.lineOk && decide ((d.lines.map Line.denom).Nodup)
    && decide (d.bagClass ≤ 3) && within 1 Config.maxTotal d.total && decide (d.serial ≤ Config.maxSerial)

/-- The sum of the lines in minor units, without loss (R37). -/
def linesTotal (s : State) (ls : List Line) : Nat := (ls.map fun l => l.count * (s.denomAt l.denom).face).sum

/-- The expected mass in milligrams (R38). -/
def expectedMg (s : State) (d : Declaration) : Nat :=
  1000 * s.tareOf d.bagClass + (d.lines.map fun l => l.count * (s.denomAt l.denom).mass).sum

/-- The expected mass E in grams, rounded half up (R38). -/
def expectedMass (s : State) (d : Declaration) : Nat := (s.expectedMg d + 500) / 1000

/-- The tolerance T of an expected mass (R40). -/
def tolerance (s : State) (e : Nat) : Nat := s.tables.fixedPart + e * s.tables.perMille / 1000

/-! ## Declaration checks 4 and 5 (03) -/

/-- A serial in at least one range of the list (R50). -/
def inRanges (s : State) (serial : Nat) : Bool :=
  s.tables.ranges.any fun r => decide (r.first ≤ serial ∧ serial ≤ r.last)

/-- The suspect map at the serial's position, the remainder by 1,021 (R49, R52). -/
def suspectAt (s : State) (serial : Nat) : Bool :=
  s.tables.suspectMap.get ⟨serial % 1021, Nat.mod_lt _ (by decide)⟩

/-- The range test in the mode in force (R51). -/
def rangeTest (s : State) (serial : Nat) : Option Refuse :=
  match s.tables.screenMode with
  | .off => none
  | .revoke => if s.inRanges serial then some .tagRevoked else none
  | .issue => if s.inRanges serial then none else some .tagNotIssued

/-- A drop machine in OPEN with a serial (R62). -/
def openWithSerial (s : State) (h : Hatch) (serial : Nat) : Bool :=
  match s.drop h with
  | .opened _ d _ _ _ => decide (d.serial = serial)
  | _ => false

/-- The repeat check: an entry present, or an OPEN transaction at another hatch, carries the serial
(R62). -/
def repeats (s : State) (h : Hatch) (serial : Nat) : Bool :=
  s.journal.entries.any (fun e => decide (e.serial = serial))
    || Hatch.all.any fun k => decide (k ≠ h) && s.openWithSerial k serial

/-! ## Declaration checks 6 to 9 -/

/-- The value tonight of the value-limit test: the slot's, or the snapshot's where the slot no longer
holds the token (R75). -/
def valueTonight (s : State) (t : Snapshot) : Nat :=
  if s.slotHolds t.slot t.entry.token then (s.counts.get t.slot).value else t.value

/-- The cover test (R84). -/
def coverPasses (s : State) (d : Nat) : Bool :=
  decide (s.cover.committed + s.cover.held + d ≤ s.tables.limit)

/-- The nine declaration checks in order (R10): the first that fails decides, and what passes carries E,
T and the suspect mark. -/
def checkDeclaration (s : State) (h : Hatch) (t : Snapshot) (d : Declaration) : Except Refuse Declared :=
  if !s.formatOk d then .error .declFormat
  else if s.linesTotal d.lines ≠ d.total then .error .declTotal
  else if Config.maxMass < s.expectedMass d then .error .declMass
  else
    match s.rangeTest d.serial with
    | some r => .error r
    | none =>
      if s.repeats h d.serial then .error .tagRepeat
      else if t.entry.maxValue < s.valueTonight t + d.total then .error .valueLimit
      else if !s.coverPasses d.total then .error .cover
      else if s.journalRoom = 0 then .error .journalFullDecl
      else if s.storeRoom = 0 then .error .storeFullDecl
      else
        .ok ⟨d.serial, d.bagClass, d.lines, d.total, s.expectedMass d, s.tolerance (s.expectedMass d),
          s.suspectAt d.serial⟩

/-! ## Token checks (01, 04) -/

/-- A drop machine with a transaction in AWAIT_DECL or OPEN for a token (R7, check 8). -/
def busyWith (s : State) (h : Hatch) (token : Nat) : Bool :=
  match s.drop h with
  | .awaitDecl t _ => decide (t.entry.token = token)
  | .opened t _ _ _ _ => decide (t.entry.token = token)
  | _ => false

/-- The window class as a window number. -/
def classWindow (w : Nat) : Fin 8 := ⟨w % 8, Nat.mod_lt _ (by decide)⟩

/-- Checks 5 to 9 of a token, from the entry found (R7, R72, R74, R80). -/
def checkDepositor (s : State) (h : Hatch) (t : Snapshot) : Except Refuse Snapshot :=
  if t.entry.state = .suspended then .error .depositorSuspended
  else if !s.inWindow (classWindow t.entry.windowClass) then .error .outsideHours
  else if Hatch.all.any (fun k => decide (k ≠ h) && s.busyWith k t.entry.token) then .error .tokenBusy
  else if t.entry.maxBags < t.bags + 1 then .error .bagLimit
  else .ok t

/-- The nine token checks in order (R7): the first that fails decides, and what passes is the snapshot. -/
def checkToken (s : State) (h : Hatch) (token : Nat) : Except Refuse Snapshot :=
  match s.intake.state with
  | .stopped => .error .notOpen
  | .stopping => .error .notOpen
  | .closed => .error .notOpen
  | .suspended => if s.journalRoom = 0 then .error .journalFullToken else .error .storeFullToken
  | .running =>
    if !s.inService h then .error .outOfService
    else if (s.queue h).length = (s.port h).depth then .error .trayFull
    else
      match s.lookup token with
      | none => .error .unknownToken
      | some (slot, e) =>
        if token = 0 then .error .unknownToken
        else s.checkDepositor h ⟨slot, e, (s.counts.get slot).bags, (s.counts.get slot).value⟩

end State

/-! ## Weight, reasons and verdict (02) -/

/-- The measured mass W of a raw count, and whether it saturated (R44). -/
def measure (c : Calibration) (raw : Int) : Nat × Bool :=
  let d := raw - c.zero
  let magnitude := (d.natAbs * c.span + 32768) / 65536
  let w := if d < 0 then 0 else magnitude
  if Config.maxMass < w then (Config.maxMass, true) else (w, false)

/-- The reason set after a stable report (R45). The lower bound E − T is 0 where it is negative (R40). -/
def weighedReasons (d : Declared) (w : Nat) (saturated : Bool) : Reasons where
  tagSuspect := d.suspect
  overrange := saturated
  low := decide (w < d.expected - d.tolerance)
  high := decide (d.expected + d.tolerance < w)
  unstable := false

/-- The reason set at the weighing deadline (R46). -/
def unstableReasons (d : Declared) : Reasons := ⟨d.suspect, false, false, false, true⟩

/-- The verdict of a reason set (R45). -/
def verdictOf (r : Reasons) : Verdict := if r = Reasons.empty then .accepted else .quarantined

end Sys2Proof.Machine
end

