-- ==== Sys2Proof/Machine/DropMachine.lean ====
section
/-! DEFINITION. The drop machine: refusals, acceptance, commit, verdict, arrival, and the taking of one
report's parts in order (01). -/

namespace Sys2Proof.Machine

open Sys2Proof

namespace State

/-! ## Token and declaration -/

/-- A refusal is shown and counted (R8). -/
def refuse (s : State) (h : Hatch) (r : Refuse) : State := (s.countRefusal r).showAt h r.code

/-- The token checks are applied in IDLE: acceptance enters AWAIT_DECL, a refusal stays in IDLE (R7, R8). -/
def processToken (s : State) (h : Hatch) (token : Nat) : State :=
  match s.checkToken h token with
  | .ok t => (s.setDrop h (.awaitDecl t (s.now + Config.declTime))).showAt h 24
  | .error r => s.refuse h r

/-- A delivered token (R6). -/
def takeToken (s : State) (h : Hatch) (token : Nat) : State :=
  match s.drop h with
  | .idle => s.processToken h token
  | .awaitDecl t _ => if t.entry.token = token then s else (s.setDrop h .idle).processToken h token
  | .opened _ _ _ _ _ => s.showAt h 26
  | .weighing _ _ _ _ => s.showAt h 26
  | .tipping _ _ _ _ _ => s.showAt h 26
  | .fault => s.refuse h .outOfService
  | .offline => s

/-- The four holds are placed and the machine enters OPEN (R11). -/
def placeHolds (s : State) (h : Hatch) (t : Snapshot) (d : Declared) : State :=
  (((((s.holdCover d.total).placeSlot).placeStoreHold).setDrop h
    (.opened t d false false (some (s.now + Config.openTime)))).showAt h 25).evalIntake

/-- The declaration checks are applied in AWAIT_DECL (R10): what passes enters OPEN, a refusal discards
the record and returns to IDLE (R8). -/
def processDeclaration (s : State) (h : Hatch) (t : Snapshot) (d : Declaration) : State :=
  match s.checkDeclaration h t d with
  | .ok x => s.placeHolds h t x
  | .error r => (s.setDrop h .idle).refuse h r

/-- A delivered declaration (R9). -/
def takeDeclaration (s : State) (h : Hatch) (d : Declaration) : State :=
  match s.drop h with
  | .awaitDecl t _ => s.processDeclaration h t d
  | .idle => s.showAt h 27
  | .opened _ _ _ _ _ => s
  | .weighing _ _ _ _ => s
  | .tipping _ _ _ _ _ => s
  | .fault => s
  | .offline => s

/-! ## Commit (R13) -/

/-- The night counters of the snapshot's slot rise, if it still holds the token (R76). -/
def countBag (s : State) (t : Snapshot) (total : Nat) : State :=
  if s.slotHolds t.slot t.entry.token then
    let c := s.counts.get t.slot
    s.setCounts (s.counts.put t.slot { c with bags := c.bags + 1, value := c.value + total })
  else s

/-- The entry made at a commit: the fixed fields of R95, no verdict yet. -/
def newEntry (s : State) (h : Hatch) (t : Snapshot) (d : Declared) : Entry where
  number := s.journal.next
  epoch := s.journal.epoch
  created := s.stampTime (Config.freeCreation s.journal.next)
  hatch := h
  slot := t.slot
  token := t.entry.token
  reference := t.entry.reference
  serial := d.serial
  bagClass := d.bagClass
  lines := d.lines
  total := d.total
  expected := d.expected
  mass := none
  verdict := none
  reasons := Reasons.empty
  route := Route.empty
  bin := none
  state := .inChute
  binned := none

/-- The commit: D moves from H to S, the night counters rise, the entry is created, the mitigation counts
it, and the machine enters WEIGHING (R13). -/
def commit (s : State) (h : Hatch) (t : Snapshot) (d : Declared) : State :=
  let e := s.newEntry h t d
  (((((s.commitCover d.total).countBag t d.total).appendEntry e).noteCommit).setDrop h
    (.weighing t d e.number (s.now + Config.weighTime)))

/-! ## Verdict (R17, R18) -/

/-- Steps 2 to 5 of R17: QUARANTINE, the assignment, the entry's fields, and TIPPING with its target. The
mass assigned is W, or E where W is absent (R46). -/
def conclude (s : State) (h : Hatch) (t : Snapshot) (d : Declared) (n : Nat) (r : Reasons)
    (mass : Option Nat) (arrival : BitVec 8) : State :=
  let v := verdictOf r
  let s1 := if v = .quarantined then s.raise .quarantine else s
  let c := s1.chooseBin v t.entry.homeBin n
  ((s1.modEntry n fun e =>
      { e with mass := mass, verdict := some v, reasons := r, route := c.2, bin := some c.1 }).setDrop h
    (.tipping t d n (arrival + 1) (s1.now + Config.tipTime))).placePending c.1 (mass.getD d.expected) d.total

/-- The verdict of a stable report (R17). -/
def weigh (s : State) (h : Hatch) (t : Snapshot) (d : Declared) (n : Nat) (r : HeadReport) : State :=
  let m := measure (s.calibration h) r.raw
  s.conclude h t d n (weighedReasons d m.1 m.2) (some m.1) r.arrival

/-- The bag has left the chute without being tipped (R19). -/
def loseBag (s : State) (h : Hatch) : State := (s.raise .jam).faultHatch h

/-! ## Arrival (R20) -/

/-- RECEIPT falls due, formed from the entry (R28). -/
def receiptAt (s : State) (h : Hatch) (n : Nat) : State :=
  match s.findEntry n with
  | some e => s.modPort h fun p => { p with receiptDue := some ⟨e.number, e.epoch, e.created, e.total, e.hatch⟩ }
  | none => s

/-- The drop completes: the entry is IN_TRAY and queued, RECEIPT and THANK_YOU fall due, zero capture is
armed, and the machine is IDLE (R20). -/
def arrive (s : State) (h : Hatch) (n : Nat) : State :=
  let s1 := (s.modEntry n fun e => { e with state := .inTray }).setQueue h (s.queue h ++ [n])
  let s2 := (s1.receiptAt h n).showAt h 29
  (((s2.modPort h fun p => { p with zeroArmed := true, drop := .idle }).evalIntake).arbiter)

/-! ## One report (R5) -/

/-- The alarm set of a report (R24): TAMPER and a surround opening, CHUTE_BLOCKED, PRINTER_FAULT. -/
def takeAlarms (s : State) (h : Hatch) (r : HeadReport) (surround : Bool) : State :=
  let s1 := if r.tamper || surround then (s.raise .headAlarm).faultHatch h else s
  let s2 := if r.chuteBlocked then (s1.raise .jam).faultHatch h else s1
  if r.printerFault then (s2.raise .printer).modPort h fun p => { p with receiptMode := .display } else s2

/-- The flap is reported OPEN outside OPEN (R23). -/
def forceFlap (s : State) (h : Hatch) : State := (s.raise .flapForced).faultHatch h

/-- The fields of a report in OPEN: the flap-opened mark, the commit and the empty close (R12 to R14). -/
def takeOpenFields (s : State) (h : Hatch) (t : Snapshot) (d : Declared) (flapOpened past : Bool)
    (deadline : Option Nat) (r : HeadReport) : State :=
  if r.flap = .opened then s.setDrop h (.opened t d true past deadline)
  else if r.bag then s.commit h t d
  else if flapOpened then s.cancelDrop h .emptyClose
  else s

/-- Part 2 of a report: the flap with the bag, then bag and plate, then the arrival counter; the drop
state changes at most once (R5). -/
def takeFields (s : State) (h : Hatch) (r : HeadReport) : State :=
  match s.drop h with
  | .offline => s
  | .idle => if r.flap = .opened then s.forceFlap h else s
  | .awaitDecl _ _ => if r.flap = .opened then s.forceFlap h else s
  | .fault => if r.flap = .opened then s.forceFlap h else s
  | .opened t d o p dl => s.takeOpenFields h t d o p dl r
  | .weighing t d n _ =>
    if r.flap = .opened then s.forceFlap h
    else if !r.bag then s.loseBag h
    else if r.stable then s.weigh h t d n r
    else s
  | .tipping _ _ n target _ =>
    if r.flap = .opened then s.forceFlap h
    else if r.arrival = target then s.arrive h n
    else s

/-- Whether part 2 of the report completes an arrival (R20). -/
def completesArrival (s : State) (h : Hatch) (r : HeadReport) : Bool :=
  match s.drop h with
  | .tipping _ _ _ target _ => decide (r.flap ≠ .opened ∧ r.arrival = target)
  | _ => false

/-- The examination for zero capture (R48): a stable report without a bag moves Z within the band or
latches ZERO_DRIFT, and disarms the mark. -/
def captureZero (s : State) (h : Hatch) (r : HeadReport) : State :=
  if r.stable && !r.bag then
    let c := s.calibration h
    let s1 := s.modPort h fun p => { p with zeroArmed := false }
    if (r.raw - c.zero).natAbs ≤ c.band then s1.setCalibration h { c with zero := r.raw }
    else s1.raise .zeroDrift
  else s

/-- Part 2 with its zero-capture examination: it is made by the mark as the report finds it, and not in
the report that completes an arrival (R5, R47, R48; log entry 12). -/
def takePlate (s : State) (h : Hatch) (r : HeadReport) : State :=
  if (s.port h).zeroArmed && !s.completesArrival h r then (s.takeFields h r).captureZero h r
  else s.takeFields h r

/-- The drop machine takes one report: alarms, fields, token, declaration, each in the state left by the
part before it (R5). -/
def takeReport (s : State) (h : Hatch) (r : HeadReport) (surround : Bool) (token : Option Nat)
    (decl : Option Declaration) : State :=
  let s1 := (s.takeAlarms h r surround).takePlate h r
  let s2 := match token with
    | some t => s1.takeToken h t
    | none => s1
  match decl with
  | some d => s2.takeDeclaration h d
  | none => s2

end State

end Sys2Proof.Machine
end

