-- ==== Sys2Proof/Machine/DropTimeouts.lean ====
section
/-! DEFINITION. The meanings of the four drop timeouts (01). An expiry of a timeout that is not in force
does nothing (log entry 8). -/

namespace Sys2Proof.Machine

open Sys2Proof

namespace State

/-- DECL_TIMEOUT (R9, R16). -/
def declExpiry (s : State) (h : Hatch) : State :=
  match s.drop h with
  | .awaitDecl _ d => (s.reach d).cancelDrop h .declTimeout
  | _ => s

/-- The flap was last reported OPEN. -/
def flapLastOpen (s : State) (h : Hatch) : Bool :=
  match (s.port h).snapshot with
  | some r => decide (r.flap = .opened)
  | none => false

/-- The OPEN deadline passes with the flap opened: the past-timeout mark is set, no timeout is in force, and
a flap left open without FLAP_DRIVE is reported (R4, R15). -/
def passTimeout (s : State) (h : Hatch) (t : Snapshot) (d : Declared) : State :=
  let s1 := s.setDrop h (.opened t d true true none)
  if s.flapLastOpen h && !(s.port h).caps.flapDrive then s1.raise .flapLeftOpen else s1

/-- OPEN_TIMEOUT (R15). -/
def openExpiry (s : State) (h : Hatch) : State :=
  match s.drop h with
  | .opened _ _ false _ (some dl) => (s.reach dl).cancelDrop h .openTimeout
  | .opened t d true _ (some dl) => (s.reach dl).passTimeout h t d
  | _ => s

/-- The arrival counter of the last report received, or a free value where none is held: a machine in
WEIGHING has always received one (R18; log entry 20). -/
def lastArrival (s : State) (h : Hatch) (n : Nat) : BitVec 8 :=
  match (s.port h).snapshot with
  | some r => r.arrival
  | none => Config.freeArrival n

/-- WEIGHING_TIMEOUT (R18, R46): the verdict without a measured mass. -/
def weighExpiry (s : State) (h : Hatch) : State :=
  match s.drop h with
  | .weighing t d n dl => (s.reach dl).conclude h t d n (unstableReasons d) none (s.lastArrival h n)
  | _ => s

/-- TIPPING_TIMEOUT (R21): JAM, and the machine enters FAULT with its entry stranded. -/
def tipExpiry (s : State) (h : Hatch) : State :=
  match s.drop h with
  | .tipping _ _ _ _ dl => ((s.reach dl).raise .jam).faultHatch h
  | _ => s

end State

/-- DECL_TIMEOUT (R9, R16). -/
def execDeclTimeout (h : Hatch) (s : State) : Meaning := .next (s.event fun s => s.declExpiry h)

/-- OPEN_TIMEOUT (R15). -/
def execOpenTimeout (h : Hatch) (s : State) : Meaning := .next (s.event fun s => s.openExpiry h)

/-- WEIGHING_TIMEOUT (R18). -/
def execWeighingTimeout (h : Hatch) (s : State) : Meaning := .next (s.event fun s => s.weighExpiry h)

/-- TIPPING_TIMEOUT (R21). -/
def execTippingTimeout (h : Hatch) (s : State) : Meaning := .next (s.event fun s => s.tipExpiry h)

end Sys2Proof.Machine
end

