-- ==== Sys2Proof/Machine/Link.lean ====
section
/-! DEFINITION. The hatch port's shared operations: link loss and relink, polls and their commands,
capability exchange, reports and complemented frames (09). -/

namespace Sys2Proof.Machine

open Sys2Proof

namespace State

/-- The bad-frame counter rises (R149). -/
def countBad (s : State) (h : Hatch) : State := s.modPort h fun p => { p with badFrames := bump p.badFrames }

/-- A frame still in reception as the port begins to send is abandoned and counted (R149). -/
def abandonFrame (s : State) (h : Hatch) (inReception : Bool) : State :=
  if inReception then s.countBad h else s

/-! ## Leaving UP -/

/-- The drop machine meets the link leaving UP (R25): an uncommitted transaction is cancelled as LINK_LOST
without a prompt, a committed one is stranded with the fault flag set, and the machine is OFFLINE. -/
def dropLink (s : State) (h : Hatch) : State :=
  match s.drop h with
  | .awaitDecl _ _ => (s.endTransaction h .offline).countCancel .linkLost
  | .opened _ _ _ _ _ => (s.endTransaction h .offline).countCancel .linkLost
  | .weighing _ _ _ _ => (s.endTransaction h .offline).modPort h fun p => { p with faultFlag := true }
  | .tipping _ _ _ _ _ => (s.endTransaction h .offline).modPort h fun p => { p with faultFlag := true }
  | .idle => s.endTransaction h .offline
  | .fault => s.endTransaction h .offline
  | .offline => s

end State

/-- What a port discards when its link leaves UP: the snapshot, the taken marks, the one-time commands due,
the reply window, the zero-capture mark and the release counts (R153). The consecutive miss count stays (log
entry 30). -/
def Port.discard (p : Port) : Port :=
  { p with
    window := none
    snapshot := none
    takenToken := none
    takenDecl := none
    showDue := none
    receiptDue := none
    zeroArmed := false
    release := none }

namespace State

/-- What is done in the same whole when the link leaves UP (R153). -/
def leaveUp (s : State) (h : Hatch) : State := (s.dropLink h).modPort h Port.discard

/-- If the link is UP it leaves UP. -/
def unlink (s : State) (h : Hatch) : State := if (s.port h).link = .up then s.leaveUp h else s

/-- The port enters HOLD_OFF for 1.5 s from now, and the streak becomes 0 (R152, R153). -/
def enterHoldOff (s : State) (h : Hatch) : State :=
  (s.unlink h).modPort h fun p => { p with link := .holdOff (s.now + Config.holdOffTime), streak := 0 }

/-- The port becomes DISABLED (R152, R165). -/
def disablePort (s : State) (h : Hatch) : State := (s.unlink h).modPort h fun p => { p with link := .disabled }

/-- A hatch configuration is put in force: the table takes it, the aux function and automatic polarity act
at once, and the port is restarted or disabled (R163, R165). -/
def applyConfig (s : State) (h : Hatch) (c : HatchConfig) : State :=
  let s1 := s.setTables { s.tables with configs := s.tables.configs.set h c }
  let s2 := s1.modPort h fun p =>
    { p with
      streak := if c.autoPolarity then p.streak else 0
      surroundLatch := if c.aux = .surround then p.surroundLatch else false }
  if !s2.fitted h then s2
  else if c.enable then s2.enterHoldOff h
  else s2.disablePort h

/-! ## Polls (R156, R161, R162) -/

/-- The flap command: UNLOCK, LOCK or CLOSE_FLAP, or none (R161). -/
def flapCommand (s : State) (h : Hatch) : Option PollCommand :=
  match (s.port h).snapshot with
  | none => none
  | some r =>
    match s.drop h, r.flap with
    | .opened _ _ _ _ _, .shutLocked => some .unlock
    | .opened _ _ _ true _, .opened => if (s.port h).caps.flapDrive then some .closeFlap else none
    | .opened _ _ _ _ _, _ => none
    | _, .shutUnlocked => some .lock
    | _, _ => none

/-- TIP, while the reported arrival counter differs from the target (R161). -/
def tipCommand (s : State) (h : Hatch) : Option PollCommand :=
  match (s.port h).snapshot, s.drop h with
  | some r, .tipping _ _ _ t _ => if r.arrival = t then none else some (.tip t)
  | _, _ => none

/-- TRAY_RELEASE, while the reported release counter differs from the delivery's target (R125, R161). -/
def releaseCommand (s : State) (h : Hatch) : Option PollCommand :=
  match (s.port h).snapshot, s.store.carousel with
  | some r, .delivering g _ t _ => if g.hatch = h ∧ r.release ≠ t then some (.trayRelease t) else none
  | _, _ => none

/-- CONSUME, naming what the last report shows taken, and its alarms (R159, R160). -/
def consumeCommand (s : State) (h : Hatch) : Option PollCommand :=
  match (s.port h).snapshot with
  | none => none
  | some r =>
    let tok := r.token.isSome && (s.port h).takenToken.isSome
    let dec := r.declaration.isSome && (s.port h).takenDecl.isSome
    let alm := r.tamper || r.chuteBlocked || r.printerFault
    if tok || dec || alm then some (.consume tok dec alm) else none

/-- The commands of a POLL formed now, at most four, in the order of R162. -/
def pollCommands (s : State) (h : Hatch) : List PollCommand :=
  let p := s.port h
  ([p.receiptDue.map fun r => PollCommand.receipt r p.receiptMode, p.showDue.map PollCommand.showCode,
    s.flapCommand h, s.tipCommand h, s.releaseCommand h, s.consumeCommand h].filterMap id).take 4

/-- The port sends a POLL: its reply window opens, and the one-time commands are no longer due (R156,
R162; log entry 11). -/
def sendPoll (s : State) (h : Hatch) : State :=
  s.modPort h fun p =>
    { p with
      lineOut := some (.poll (s.pollCommands h))
      window := some (s.now + Config.windowTime)
      pollStart := s.now
      showDue := none
      receiptDue := none }

/-- The port sends an OFFER, and the next is due 100 ms later (R152, R154). -/
def sendOffer (s : State) (h : Hatch) : State :=
  s.modPort h fun p =>
    { p with
      link := .exchange (s.now + Config.offerTime)
      lineOut := some (.offer ⟨true, true, (s.config h).printOffered, true⟩ (s.config h).depth) }

/-! ## ANSWER (R154, R155) -/

/-- The drop machine leaves OFFLINE as the link comes UP (R26). -/
def joinLink (s : State) (h : Hatch) (trayCount : Nat) : State :=
  if (s.port h).faultFlag then s.setDrop h .fault
  else if s.trayAgrees h trayCount then s.setDrop h .idle
  else (s.failVerification h).setDrop h .fault

/-- The capabilities, the depth and the receipt mode resolved from an ANSWER, and the link UP (R154, R155). -/
def resolveAnswer (s : State) (h : Hatch) (a : HeadAnswer) : State :=
  let print := (s.config h).printOffered && a.caps.print
  s.modPort h fun p =>
    { p with
      caps := ⟨a.caps.weigh, a.caps.scan, print, a.caps.flapDrive⟩
      depth := min (s.config h).depth a.depth
      receiptMode := if print then .printed else .display
      link := .up
      misses := 0
      streak := 0 }

/-- A valid ANSWER in the port's sense: it is taken in EXCHANGE, a bad frame in UP, and discarded unread
in HOLD_OFF and DISABLED (R149, R152, R155). -/
def takeAnswer (s : State) (h : Hatch) (a : HeadAnswer) : State :=
  match (s.port h).link with
  | .exchange _ => ((s.resolveAnswer h a).joinLink h a.trayCount).sendPoll h
  | .up => s.countBad h
  | .holdOff _ => s
  | .disabled => s

/-! ## REPORT (R158 to R160) -/

/-- What is delivered of a latched field: a field not taken before, and nothing at the baseline (R159). -/
def delivered {α : Type} [DecidableEq α] (baseline : Bool) (taken field : Option α) : Option α :=
  if baseline || decide (field = taken) then none else field

/-- The report is recorded: snapshot, taken marks, window closed, misses and streak 0, surround latch
delivered (R151, R156, R158, R159, R160). -/
def recordReport (s : State) (h : Hatch) (r : HeadReport) : State :=
  s.modPort h fun p =>
    { p with
      snapshot := some r
      takenToken := r.token
      takenDecl := r.declaration
      window := none
      misses := 0
      streak := 0
      surroundLatch := if (s.config h).aux = .surround then false else p.surroundLatch }

/-- The surround opening that the port adds to the alarm set (R160). -/
def surroundDelivered (s : State) (h : Hatch) : Bool :=
  decide ((s.config h).aux = .surround) && ((s.port h).contactOpen || (s.port h).surroundLatch)

/-- A report that answers a poll, in the order of R158. The first after the link came UP is the baseline
(R155). -/
def takeAnsweringReport (s : State) (h : Hatch) (r : HeadReport) : State :=
  let p := s.port h
  let baseline := p.snapshot.isNone
  let s1 := (s.recordReport h r).takeReport h r (s.surroundDelivered h)
    (delivered baseline p.takenToken r.token) (delivered baseline p.takenDecl r.declaration)
  if baseline then s1.baselineRelease h r.release else s1.examineRelease h r.release

/-- A valid REPORT in the port's sense: it answers a poll whose window is open, is a bad frame outside any
window and in EXCHANGE, and is discarded unread in HOLD_OFF and DISABLED (R149, R152, R156). -/
def takeValidReport (s : State) (h : Hatch) (r : HeadReport) : State :=
  match (s.port h).link with
  | .up => if (s.port h).window.isSome then s.takeAnsweringReport h r else s.countBad h
  | .exchange _ => s.countBad h
  | .holdOff _ => s
  | .disabled => s

/-- A valid frame in the port's sense. -/
def takeFrame (s : State) (h : Hatch) : HeadFrame → State
  | .report r => s.takeValidReport h r
  | .answer a => s.takeAnswer h a

/-! ## Complemented frames (R151) -/

/-- A complemented frame in EXCHANGE or UP: without automatic polarity it is a bad frame; the first two
raise the streak and are not taken; the third inverts the sense, latches POLARITY and is taken in the new
sense, where a frame that the link state does not take is counted as bad (log entry 29). -/
def judgeComplemented (s : State) (h : Hatch) (f : HeadFrame) : State :=
  if !(s.config h).autoPolarity then s.countBad h
  else if (s.port h).streak < 2 then s.modPort h fun p => { p with streak := p.streak + 1 }
  else
    ((s.modPort h fun p => { p with inverted := !p.inverted, streak := 0 }).raise .polarity).takeFrame h f

/-- A frame that is valid when complemented (R151); in HOLD_OFF and DISABLED it is discarded unread (R149). -/
def takeComplemented (s : State) (h : Hatch) (f : HeadFrame) : State :=
  match (s.port h).link with
  | .holdOff _ => s
  | .disabled => s
  | .up => s.judgeComplemented h f
  | .exchange _ => s.judgeComplemented h f

end State

end Sys2Proof.Machine
end

