-- ==== Sys2Proof/Machine/HatchRequests.lean ====
section
/-! DEFINITION. The meanings of the office requests on one hatch (01, 02, 09). -/

namespace Sys2Proof.Machine

open Sys2Proof

/-- The four drop states in which HATCH_CONFIG is refused (R165). -/
def Drop.inTransaction : Drop → Bool
  | .awaitDecl _ _ => true
  | .opened _ _ _ _ _ => true
  | .weighing _ _ _ _ => true
  | .tipping _ _ _ _ _ => true
  | .offline => false
  | .idle => false
  | .fault => false

namespace State

/-- HATCH_CONFIG (R165). -/
def hatchConfig (s : State) (a : HatchConfigArgs) : State :=
  match hatchOf? a.hatch, configOf? a with
  | some h, some c =>
    if (s.drop h).inTransaction then s.answer 0x60 .state [] else (s.applyConfig h c).answer 0x60 .ok []
  | _, _ => s.answer 0x60 .range []

/-- A hatch's calibration is replaced and its zero-capture mark disarmed (R43). -/
def calibrate (s : State) (h : Hatch) (c : Calibration) : State :=
  (s.setCalibration h c).modPort h fun p => { p with zeroArmed := false }

/-- HATCH_CALIBRATE (R43). -/
def hatchCalibrate (s : State) (a : CalibrateArgs) : State :=
  match hatchOf? a.hatch, calibrationOf? a with
  | some h, some c => (s.calibrate h c).answer 0x61 .ok []
  | _, _ => s.answer 0x61 .range []

/-- HATCH_RELINK (R166). -/
def hatchRelink (s : State) (v : Nat) : State :=
  match hatchOf? v with
  | none => s.answer 0x62 .range []
  | some h =>
    if (s.port h).link = .disabled then s.answer 0x62 .state [] else (s.enterHoldOff h).answer 0x62 .ok []

/-- HATCH_SHOW (R167). -/
def hatchShow (s : State) (a : ShowArgs) : State :=
  match hatchOf? a.hatch with
  | none => s.answer 0x63 .range []
  | some h =>
    if !within 32 63 a.code then s.answer 0x63 .range []
    else if (s.port h).link = .up then (s.showAt h a.code).answer 0x63 .ok []
    else s.answer 0x63 .state []

/-- The fault flag is cleared and the machine enters IDLE (R29). -/
def returnToService (s : State) (h : Hatch) : State :=
  s.modPort h fun p => { p with faultFlag := false, drop := .idle }

/-- The tray verification of HATCH_CLEAR against a tray count, with its outcome: CLEARED 0 or NOT_CLEARED 1
(R29, Table 12-2). -/
def clearFault (s : State) (h : Hatch) (trayCount : Nat) : State :=
  if s.trayAgrees h trayCount then (s.returnToService h).answer 0x64 .ok (Out.u8 0)
  else (s.failVerification h).answer 0x64 .ok (Out.u8 1)

/-- HATCH_CLEAR (R29): a machine not in FAULT, a link not UP or no REPORT taken since is refused. -/
def hatchClear (s : State) (v : Nat) : State :=
  match hatchOf? v with
  | none => s.answer 0x64 .range []
  | some h =>
    match (s.port h).snapshot with
    | none => s.answer 0x64 .state []
    | some r =>
      if s.drop h = .fault ∧ (s.port h).link = .up then s.clearFault h r.trayCount else s.answer 0x64 .state []

end State

/-- HATCH_CONFIG (R165). -/
def execHatchConfig (p : Params HatchConfigArgs) (s : State) : Meaning := .next (s.request 0x60 p s.hatchConfig)

/-- HATCH_CALIBRATE (R43). -/
def execHatchCalibrate (p : Params CalibrateArgs) (s : State) : Meaning :=
  .next (s.request 0x61 p s.hatchCalibrate)

/-- HATCH_RELINK (R166). -/
def execHatchRelink (p : Params Nat) (s : State) : Meaning := .next (s.request 0x62 p s.hatchRelink)

/-- HATCH_SHOW (R167). -/
def execHatchShow (p : Params ShowArgs) (s : State) : Meaning := .next (s.request 0x63 p s.hatchShow)

/-- HATCH_CLEAR (R29). -/
def execHatchClear (p : Params Nat) (s : State) : Meaning := .next (s.request 0x64 p s.hatchClear)

end Sys2Proof.Machine
end

