-- ==== Sys2Proof/Machine/JournalRequests.lean ====
section
/-! DEFINITION. The meanings of the requests on the journal (06). -/

namespace Sys2Proof.Machine

open Sys2Proof

/-- The entries of a ring from the one that satisfies `p` first. -/
def fromFirst (p : Entry → Bool) (es : List Entry) : List Entry := es.dropWhile fun e => !p e

namespace State

/-! ## JOURNAL_READ (R104) -/

/-- The entries that a read gives: from the entry whose number is `start`, or else from the oldest with a
greater number, up to `count` of them. -/
def entriesFrom (s : State) (start count : Nat) : List Entry :=
  let es := s.journal.entries
  (if es.any fun e => e.number == start then fromFirst (fun e => e.number == start) es
    else fromFirst (fun e => decide (start < e.number)) es).take count

/-- The data of JOURNAL_READ (Table 12-5). -/
def journalData (s : State) (es : List Entry) : List Byte :=
  Out.u8 es.length ++ Out.u16 s.journal.entries.length ++ Out.u32 s.journal.next ++ Out.u16 s.journal.epoch
    ++ es.flatMap Out.entry

/-- JOURNAL_READ (R104). -/
def journalRead (s : State) (a : JournalReadArgs) : State :=
  if within 1 4 a.count then s.answer 0x48 .ok (s.journalData (s.entriesFrom a.start a.count))
  else s.answer 0x48 .range []

/-! ## JOURNAL_RESOLVE (R105, R106) -/

/-- The entry becomes RECONCILED with its fields kept. -/
def reconcileEntry (s : State) (n : Nat) : State := s.modEntry n fun e => { e with state := .reconciled }

/-- A STRANDED entry is reconciled, and its D leaves S (R88, R105). -/
def resolveStranded (s : State) (e : Entry) : State := (s.reconcileEntry e.number).reconcileCover e.total

/-- A BINNED entry is taken out of its bin's record as well (R106). -/
def unfile (s : State) (e : Entry) : State :=
  match e.bin with
  | none => s
  | some b =>
    let r := s.bin b
    s.setBin b
      { r with
        arrived := r.arrived.filter fun n => decide (n ≠ e.number)
        mass := r.mass - e.assigned
        value := r.value - e.total }

/-- The reconciliation of a BINNED entry (R106). -/
def resolveBinned (s : State) (e : Entry) : State :=
  (((s.unfile e).reconcileEntry e.number).reconcileCover e.total).evalStore.evalIntake

/-- The reply of an accepted resolve: number, new state and S. -/
def answerResolved (s : State) (n : Nat) : State :=
  s.answer 0x49 .ok (Out.u32 n ++ Out.u8 EntryState.reconciled.code ++ Out.u32 s.cover.committed)

/-- JOURNAL_RESOLVE (R105). -/
def journalResolve (s : State) (n : Nat) : State :=
  if n = 0 then s.answer 0x49 .range []
  else
    match s.findEntry n with
    | none => s.answer 0x49 .notFound []
    | some e =>
      match e.state with
      | .inChute => s.answer 0x49 .state []
      | .inTray => s.answer 0x49 .state []
      | .reconciled => s.answer 0x49 .state []
      | .stranded => (s.resolveStranded e).answerResolved n
      | .binned => (s.resolveBinned e).answerResolved n

/-! ## JOURNAL_RELEASE (R108) -/

/-- The ring without the RECONCILED entries of its oldest end. -/
def keptEntries (s : State) : List Entry :=
  s.journal.entries.dropWhile fun e => decide (e.state = .reconciled)

/-- The oldest RECONCILED entries are freed; the near mark and the intake state follow (R108, R109). -/
def releaseEntries (s : State) : State :=
  (s.setJournal { s.journal with entries := s.keptEntries }).evalJournal.evalIntake

/-- The number of the oldest entry present, 0 for an empty ring. -/
def oldestNumber (s : State) : Nat := (s.journal.entries.head?.map Entry.number).getD 0

/-- JOURNAL_RELEASE (R108). -/
def journalRelease (s : State) (_ : Unit) : State :=
  let s1 := s.releaseEntries
  s1.answer 0x4A .ok
    (Out.u16 (s.journal.entries.length - s1.journal.entries.length) ++ Out.u16 s1.journal.entries.length
      ++ Out.u32 s1.oldestNumber)

end State

/-- JOURNAL_READ (R104). -/
def execJournalRead (p : Params JournalReadArgs) (s : State) : Meaning := .next (s.request 0x48 p s.journalRead)

/-- JOURNAL_RESOLVE (R105, R106). -/
def execJournalResolve (p : Params Nat) (s : State) : Meaning := .next (s.request 0x49 p s.journalResolve)

/-- JOURNAL_RELEASE (R108). -/
def execJournalRelease (p : Params Unit) (s : State) : Meaning := .next (s.request 0x4A p s.journalRelease)

end Sys2Proof.Machine
end

