-- ==== Sys2Proof/Machine/LinkEvents.lean ====
section
/-! DEFINITION. The meanings of the events at a hatch port (09). -/

namespace Sys2Proof.Machine

open Sys2Proof

namespace State

/-! ## Polls and their windows -/

/-- The moment of the next POLL: one interval after the start of the previous one (R156). -/
def nextPoll (s : State) (h : Hatch) : Nat := (s.port h).pollStart + Config.pollInterval (s.config h).divider

/-- POLL (R156, R161, R162): in UP, with the previous window closed; else nothing (log entry 8). -/
def pollEvent (s : State) (h : Hatch) (inReception : Bool) : State :=
  if (s.port h).link = .up ∧ (s.port h).window = none then
    ((s.reach (s.nextPoll h)).abandonFrame h inReception).sendPoll h
  else s

/-- The third consecutive miss loses the link (R157). -/
def judgeMisses (s : State) (h : Hatch) : State :=
  if 3 ≤ (s.port h).misses then (s.raise .linkLost).enterHoldOff h else s

/-- MISS (R156, R157): the window closes without a valid REPORT. -/
def missEvent (s : State) (h : Hatch) : State :=
  match (s.port h).link, (s.port h).window with
  | .up, some close =>
    ((s.reach close).modPort h fun p =>
      { p with window := none, missCount := bump p.missCount, misses := p.misses + 1 }).judgeMisses h
  | _, _ => s

/-! ## HOLD_OFF and EXCHANGE -/

/-- HOLD_OFF_EXPIRY (R149, R152): EXCHANGE is entered with its first OFFER. A frame still in reception then,
one that began before HOLD_OFF, is abandoned and counted. -/
def holdOffEvent (s : State) (h : Hatch) (inReception : Bool) : State :=
  match (s.port h).link with
  | .holdOff ending => ((s.reach ending).abandonFrame h inReception).sendOffer h
  | _ => s

/-- OFFER (R152, R154): another OFFER is sent in EXCHANGE. -/
def offerEvent (s : State) (h : Hatch) (inReception : Bool) : State :=
  match (s.port h).link with
  | .exchange t => ((s.reach t).abandonFrame h inReception).sendOffer h
  | _ => s

/-! ## Frames -/

/-- A frame of a head, in the port's sense or complemented (R149, R151). -/
def frameEvent (s : State) (h : Hatch) (complemented : Bool) (f : HeadFrame) : State :=
  if complemented then s.takeComplemented h f else s.takeFrame h f

/-- HATCH_BAD_FRAME (R149): counted in EXCHANGE and UP, discarded unread in HOLD_OFF and DISABLED. -/
def badFrameEvent (s : State) (h : Hatch) : State :=
  match (s.port h).link with
  | .exchange _ => s.countBad h
  | .up => s.countBad h
  | .holdOff _ => s
  | .disabled => s

/-- The four things that jabber does (R150). -/
def jab (s : State) (h : Hatch) : State := ((s.countBad h).raise .jabber).enterHoldOff h

/-- JABBER (R150), in EXCHANGE and UP. -/
def jabberEvent (s : State) (h : Hatch) : State :=
  match (s.port h).link with
  | .exchange _ => s.jab h
  | .up => s.jab h
  | .holdOff _ => s
  | .disabled => s

/-! ## The aux contact -/

/-- The contact's level. -/
def setContact (s : State) (h : Hatch) (contactOpen : Bool) : State :=
  s.modPort h fun p => { p with contactOpen := contactOpen }

/-- A contact that opens is latched where the aux line is configured as SURROUND (R160, R163). -/
def latchSurround (s : State) (h : Hatch) : State :=
  if (s.config h).aux = .surround then s.modPort h fun p => { p with surroundLatch := true } else s

/-- The contact changes in the running controller: an opening is latched, a closing is not. -/
def surroundEvent (s : State) (h : Hatch) (contactOpen : Bool) : State :=
  if contactOpen && !(s.port h).contactOpen then (s.setContact h true).latchSurround h
  else s.setContact h contactOpen

end State

/-- POLL (R156, R161, R162). -/
def execPoll (h : Hatch) (inReception : Bool) (s : State) : Meaning :=
  .next (s.event fun s => s.pollEvent h inReception)

/-- MISS (R156, R157). -/
def execMiss (h : Hatch) (s : State) : Meaning := .next (s.event fun s => s.missEvent h)

/-- HOLD_OFF_EXPIRY (R149, R152). -/
def execHoldOffExpiry (h : Hatch) (s : State) (inReception : Bool := false) : Meaning :=
  .next (s.event fun s => s.holdOffEvent h inReception)

/-- OFFER (R152, R154). -/
def execOffer (h : Hatch) (inReception : Bool) (s : State) : Meaning :=
  .next (s.event fun s => s.offerEvent h inReception)

/-- ANSWER (R154, R155). -/
def execAnswer (h : Hatch) (complemented : Bool) (a : HeadAnswer) (s : State) : Meaning :=
  .next (s.event fun s => s.frameEvent h complemented (.answer a))

/-- REPORT (R158 to R160). -/
def execReport (h : Hatch) (complemented : Bool) (r : HeadReport) (s : State) : Meaning :=
  .next (s.event fun s => s.frameEvent h complemented (.report r))

/-- HATCH_BAD_FRAME (R149). -/
def execHatchBadFrame (h : Hatch) (s : State) : Meaning := .next (s.event fun s => s.badFrameEvent h)

/-- COMPLEMENTED_FRAME (R151). -/
def execComplementedFrame (h : Hatch) (f : HeadFrame) (s : State) : Meaning :=
  .next (s.event fun s => s.takeComplemented h f)

/-- JABBER (R150). -/
def execJabber (h : Hatch) (s : State) : Meaning := .next (s.event fun s => s.jabberEvent h)

/-- SURROUND_OPENING (R163). The level follows the contact also while the controller does not run; nothing
is latched then. -/
def execSurroundOpening (h : Hatch) (contactOpen : Bool) (s : State) : Meaning :=
  if s.running then .next (s.event fun s => s.surroundEvent h contactOpen) else .next (s.setContact h contactOpen)

end Sys2Proof.Machine
end

