-- ==== Sys2Proof/Machine/MassTables.lean ====
section
/-! DEFINITION. The meanings of the requests on the mass tables (02). -/

namespace Sys2Proof.Machine

open Sys2Proof

namespace State

/-- DENOM_PUT (R33). -/
def denomPut (s : State) (a : DenomArgs) : State :=
  if h : a.index < 16 then
    match denomOf? a with
    | none => s.answer 0x28 .range []
    | some d => (s.setTables { s.tables with denoms := s.tables.denoms.put ⟨a.index, h⟩ d }).answer 0x28 .ok []
  else s.answer 0x28 .range []

/-- TARE_PUT (R34). -/
def tarePut (s : State) (a : TareArgs) : State :=
  if h : a.bagClass < 4 then
    if a.tare ≤ 255 then
      (s.setTables { s.tables with tares := s.tables.tares.put ⟨a.bagClass, h⟩ a.tare }).answer 0x29 .ok []
    else s.answer 0x29 .range []
  else s.answer 0x29 .range []

/-- TOLERANCE_SET (R41). -/
def toleranceSet (s : State) (a : ToleranceArgs) : State :=
  if a.fixedPart ≤ 255 ∧ a.perMille ≤ 100 then
    (s.setTables { s.tables with fixedPart := a.fixedPart, perMille := a.perMille }).answer 0x2A .ok []
  else s.answer 0x2A .range []

/-- The data of MASS_TABLES_READ, in the order of R36. -/
def massData (s : State) : List Byte :=
  s.tables.denoms.cells.flatMap Out.denom ++ s.tables.tares.cells.flatMap Out.u16
    ++ Out.u16 s.tables.fixedPart ++ Out.u8 s.tables.perMille

/-- MASS_TABLES_READ (R36). -/
def massTablesRead (s : State) (_ : Unit) : State := s.answer 0x2B .ok s.massData

end State

/-- DENOM_PUT (R33). -/
def execDenomPut (p : Params DenomArgs) (s : State) : Meaning := .next (s.request 0x28 p s.denomPut)

/-- TARE_PUT (R34). -/
def execTarePut (p : Params TareArgs) (s : State) : Meaning := .next (s.request 0x29 p s.tarePut)

/-- TOLERANCE_SET (R41). -/
def execToleranceSet (p : Params ToleranceArgs) (s : State) : Meaning := .next (s.request 0x2A p s.toleranceSet)

/-- MASS_TABLES_READ (R36). -/
def execMassTablesRead (p : Params Unit) (s : State) : Meaning := .next (s.request 0x2B p s.massTablesRead)

end Sys2Proof.Machine
end

