-- ==== Sys2Proof/Machine/OfficeStatus.lean ====
section
/-! DEFINITION. The meanings of the office requests on status, counters, alerts and notices, and of RESET
(10; 11, R191). -/

namespace Sys2Proof.Machine

open Sys2Proof

namespace State

/-! ## STATUS_READ (R178) -/

/-- The grant as an optional group (R194). -/
def grantData (s : State) : List Byte :=
  Out.optional (Out.u8 0 ++ Out.u32 0) (fun g => Out.hatch g.hatch ++ Out.u32 g.entry) s.store.carousel.grant

/-- One hatch's item of STATUS_READ. -/
def statusOfHatch (s : State) (h : Hatch) : List Byte :=
  Out.u8 (s.port h).link.code ++ Out.u8 (s.drop h).code ++ Out.mark (s.inService h)
    ++ Out.mark (s.port h).faultFlag ++ Out.u8 (s.queue h).length ++ Out.u8 (s.port h).depth

/-- The data of STATUS_READ, in the order of R178. -/
def statusData (s : State) : List Byte :=
  Out.mark s.intake.enable ++ Out.u8 s.intake.state.code ++ Out.clock s.intake.clock
    ++ Out.mark s.intake.clock.isSome
    ++ Out.u32 s.tables.limit ++ Out.u32 s.cover.committed ++ Out.u32 s.cover.held
    ++ Out.u32 s.journal.last ++ Out.u16 s.journal.epoch ++ Out.u16 s.journal.entries.length
    ++ Out.u8 s.journal.slotHolds ++ Out.u16 s.journalRoom
    ++ Out.u16 s.freePlaces ++ Out.u8 s.store.holds ++ Out.u16 s.storeRoom
    ++ Out.u8 s.store.carousel.code ++ Out.position s.store.position ++ s.grantData
    ++ Hatch.all.flatMap s.statusOfHatch
    ++ Out.flags s.office.flags ++ Out.flags s.tables.alertMask ++ Out.mark s.office.notice.isSome

def statusRead (s : State) (_ : Unit) : State := s.answer 0x01 .ok s.statusData

/-! ## HATCH_READ (R179) -/

/-- The seconds left before the timeout in force, rounded up. -/
def secondsLeft (s : State) (h : Hatch) : Option Nat :=
  (s.drop h).deadline.map fun d => (d - s.now + 999) / 1000

end State

/-- An item of the transaction record that is present from the declaration on. -/
def Drop.declared : Drop → Option Declared
  | .opened _ d _ _ _ => some d
  | .weighing _ d _ _ => some d
  | .tipping _ d _ _ _ => some d
  | .offline => none
  | .idle => none
  | .awaitDecl _ _ => none
  | .fault => none

/-- The journal number of the transaction, present after commit. -/
def Drop.number : Drop → Option Nat
  | .weighing _ _ n _ => some n
  | .tipping _ _ n _ _ => some n
  | .offline => none
  | .idle => none
  | .awaitDecl _ _ => none
  | .opened _ _ _ _ _ => none
  | .fault => none

/-- The target arrival count, present after the verdict. -/
def Drop.target : Drop → Option (BitVec 8)
  | .tipping _ _ _ t _ => some t
  | .offline => none
  | .idle => none
  | .awaitDecl _ _ => none
  | .opened _ _ _ _ _ => none
  | .weighing _ _ _ _ => none
  | .fault => none

/-- The fields of a transaction record, each item "where present" an optional value of its own (R179,
R194; log entry 9). -/
def transactionFields (d : Drop) (t : Snapshot) : List Byte :=
  Out.u32 t.entry.token ++ Out.u16 t.slot.val
    ++ Out.optional (Out.u40 0) (fun x => Out.u40 x.serial) d.declared
    ++ Out.optional (Out.u32 0) (fun x => Out.u32 x.total) d.declared
    ++ Out.optional (Out.u16 0) (fun x => Out.u16 x.expected) d.declared
    ++ Out.optional (Out.u16 0) (fun x => Out.u16 x.tolerance) d.declared
    ++ Out.optional (Out.mark false) (fun x => Out.mark x.suspect) d.declared
    ++ Out.optional (Out.u32 0) Out.u32 d.number
    ++ Out.optional (Out.u8 0) (fun x => Out.u8 x.toNat) d.target

/-- The bytes of an absent transaction record: 6 + 6 + 5 + 3 + 3 + 2 + 5 + 2 zeros. -/
def noTransaction : List Byte := List.replicate 32 0

namespace State

/-- The state of the contact or the lamp (R179): 1 for an open contact or a lit lamp, and 0 where the aux
function is NONE (log entry 31). -/
def auxData (s : State) (h : Hatch) : List Byte :=
  match (s.config h).aux with
  | .none => Out.mark false
  | .surround => Out.mark (s.port h).contactOpen
  | .lamp => Out.mark (s.lampLit h)

/-- The data of HATCH_READ, in the order of R179; the inverted sense is sent as 1 (log entry 31). -/
def hatchData (s : State) (h : Hatch) : List Byte :=
  let p := s.port h
  Out.config (s.config h) ++ Out.calibration (s.calibration h) ++ Out.mark p.zeroArmed
    ++ Out.u8 p.link.code ++ Out.mark p.inverted ++ Out.u8 p.streak ++ Out.u8 p.misses ++ Out.caps p.caps
    ++ Out.u8 p.depth ++ Out.u8 p.receiptMode.code
    ++ Out.snapshot p.snapshot ++ Out.mark p.takenToken.isSome ++ Out.mark p.takenDecl.isSome
    ++ Out.u8 p.drop.code ++ Out.mark p.faultFlag ++ Out.mark (s.inService h)
    ++ Out.optional (Out.u8 0) Out.u8 (s.secondsLeft h)
    ++ Out.optional noTransaction (transactionFields p.drop) p.drop.snapshot
    ++ Out.list Out.u32 (s.queue h)
    ++ Out.optional (Out.u8 0 ++ Out.u8 0) (fun c => Out.u8 c.seen.toNat ++ Out.u8 c.allowed.toNat) p.release
    ++ Out.u8 (s.config h).aux.code ++ s.auxData h

def hatchRead (s : State) (h : Nat) : State :=
  match hatchOf? h with
  | none => s.answer 0x02 .range []
  | some h => s.answer 0x02 .ok (s.hatchData h)

/-! ## Counters (R180) -/

/-- The 33 counters, in the order of R180 and 12.6 (log entry 9). -/
def counterValues (s : State) : List Nat :=
  s.office.refusals.cells ++ s.office.cancels.cells
    ++ Hatch.all.flatMap (fun h => [(s.port h).badFrames, (s.port h).missCount])
    ++ [s.office.badFrames, s.office.unexpectedDrops]

def counterData (s : State) : List Byte := s.counterValues.flatMap Out.u16

def countersRead (s : State) (_ : Unit) : State := s.answer 0x03 .ok s.counterData

end State

/-- A port with its two counters at 0 (R164). -/
def Port.clearCounters (p : Port) : Port := { p with badFrames := 0, missCount := 0 }

/-- A change at every hatch. -/
def PerHatch.map {α β : Type} (f : α → β) (p : PerHatch α) : PerHatch β := ⟨f p.h1, f p.h2, f p.h3, f p.h4⟩

namespace State

/-- Each of the 33 counters becomes 0. -/
def clearCounters (s : State) : State :=
  (s.setOffice
    { s.office with
      refusals := Tab.fill 18 0
      cancels := Tab.fill 5 0
      badFrames := 0
      unexpectedDrops := 0 }).setPorts (s.ports.map Port.clearCounters)

def countersClear (s : State) (_ : Unit) : State := s.clearCounters.answer 0x04 .ok s.counterData

/-! ## Alerts and notice settings (R174, R176, R177) -/

def alertClear (s : State) (v : Nat) : State :=
  match flagSetOf? v with
  | none => s.answer 0x05 .range []
  | some f =>
    let left := s.office.flags &&& ~~~f
    (s.setOffice { s.office with flags := left }).answer 0x05 .ok (Out.flags left)

def alertMask (s : State) (v : Nat) : State :=
  match flagSetOf? v with
  | none => s.answer 0x06 .range []
  | some f => (s.setTables { s.tables with alertMask := f }).answer 0x06 .ok []

def noticeSet (s : State) (a : NoticeArgs) : State :=
  if within 0 15 a.count && within 0 255 a.time then
    ((s.setTables { s.tables with noticeCount := a.count, noticeTime := a.time }).applyNoticeSettings).answer
      0x07 .ok []
  else s.answer 0x07 .range []

/-! ## RESET (R191) -/

/-- The reply is formed and sent first; the request keeps the hand until the steps are done. -/
def resetRequest (s : State) (_ : Unit) : State :=
  let s1 := s.answer 0x08 .ok []
  s1.setOffice { s1.office with hand := some .resetWaiting }

end State

/-- STATUS_READ (R178). -/
def execStatusRead (p : Params Unit) (s : State) : Meaning := .next (s.request 0x01 p s.statusRead)

/-- HATCH_READ (R179). -/
def execHatchRead (p : Params Nat) (s : State) : Meaning := .next (s.request 0x02 p s.hatchRead)

/-- COUNTERS_READ (R180). -/
def execCountersRead (p : Params Unit) (s : State) : Meaning := .next (s.request 0x03 p s.countersRead)

/-- COUNTERS_CLEAR (R180). -/
def execCountersClear (p : Params Unit) (s : State) : Meaning := .next (s.request 0x04 p s.countersClear)

/-- ALERT_CLEAR (R176, R196). -/
def execAlertClear (p : Params Nat) (s : State) : Meaning := .next (s.request 0x05 p s.alertClear)

/-- ALERT_MASK (R177, R196). -/
def execAlertMask (p : Params Nat) (s : State) : Meaning := .next (s.request 0x06 p s.alertMask)

/-- NOTICE_SET (R174). -/
def execNoticeSet (p : Params NoticeArgs) (s : State) : Meaning := .next (s.request 0x07 p s.noticeSet)

/-- RESET (R191): answered OK; its steps follow the reply's last byte, in TRANSMIT_END. -/
def execReset (p : Params Unit) (s : State) : Meaning := .next (s.request 0x08 p s.resetRequest)

end Sys2Proof.Machine
end

