-- ==== Sys2Proof/Machine/Time.lean ====
section
/-! DEFINITION. The meanings of the requests and events of intake control (08). -/

namespace Sys2Proof.Machine

open Sys2Proof

namespace State

/-- Intake control evaluates window 0, with the rollover it may bring, and the intake state, in one whole
(R138, R146). -/
def evalTime (s : State) : State := s.evalWindow.evalIntake

/-- SET_CLOCK (R138). -/
def setClock (s : State) (a : ClockArgs) : State :=
  match clockOf? a with
  | none => s.answer 0x10 .range []
  | some t =>
    ((s.setIntake { s.intake with clock := some t, nextSecond := s.now + Config.second }).evalTime).answer 0x10 .ok []

/-- SCHEDULE_PUT (R147). -/
def schedulePut (s : State) (a : ScheduleArgs) : State :=
  if h : a.window < 8 then
    match windowOf? a with
    | none => s.answer 0x11 .range []
    | some w =>
      let s1 := s.setTables { s.tables with windows := s.tables.windows.put ⟨a.window, h⟩ w }
      (if a.window = 0 then s1.evalTime else s1).answer 0x11 .ok []
  else s.answer 0x11 .range []

/-- The data of SCHEDULE_READ, in the order of R147. -/
def scheduleData (s : State) : List Byte :=
  s.tables.windows.cells.flatMap Out.window ++ Out.clock s.intake.clock ++ Out.mark s.intake.clock.isSome
    ++ Out.mark s.intake.windowMark ++ Out.mark s.intake.enable ++ Out.u8 s.intake.state.code

def scheduleRead (s : State) (_ : Unit) : State := s.answer 0x12 .ok s.scheduleData

/-- A reply that carries the intake state after the request (R143, R144). -/
def answerIntake (s : State) (command : Nat) : State := s.answer command .ok (Out.u8 s.intake.state.code)

/-- INTAKE_START (R143): a set enable changes nothing. -/
def intakeStart (s : State) (_ : Unit) : State :=
  (if s.intake.enable then s else (s.setIntake { s.intake with enable := true }).evalIntake).answerIntake 0x13

/-- INTAKE_STOP (R144): a clear enable changes nothing. -/
def intakeStop (s : State) (_ : Unit) : State :=
  (if s.intake.enable then (s.setIntake { s.intake with enable := false }).evalIntake else s).answerIntake 0x14

/-- The clock's advance by one second (R137). -/
def advanceClock (s : State) (t : ClockTime) : State :=
  let s1 := s.reach s.intake.nextSecond
  s1.setIntake { s1.intake with clock := some (nextTime t), nextSecond := s1.intake.nextSecond + Config.second }

end State

/-- SET_CLOCK (R138). -/
def execSetClock (p : Params ClockArgs) (s : State) : Meaning := .next (s.request 0x10 p s.setClock)

/-- SCHEDULE_PUT (R147). -/
def execSchedulePut (p : Params ScheduleArgs) (s : State) : Meaning := .next (s.request 0x11 p s.schedulePut)

/-- SCHEDULE_READ (R147). -/
def execScheduleRead (p : Params Unit) (s : State) : Meaning := .next (s.request 0x12 p s.scheduleRead)

/-- INTAKE_START (R143). -/
def execIntakeStart (p : Params Unit) (s : State) : Meaning := .next (s.request 0x13 p s.intakeStart)

/-- INTAKE_STOP (R144). -/
def execIntakeStop (p : Params Unit) (s : State) : Meaning := .next (s.request 0x14 p s.intakeStop)

/-- CLOCK_ADVANCE (R137): while SET the clock advances and window 0 and intake are evaluated. Without
power the battery runs the clock and nothing is evaluated (R187). -/
def execClockAdvance (s : State) : Meaning :=
  match s.intake.clock with
  | none => .next s
  | some t =>
    if s.running then .next (s.event fun s => (s.advanceClock t).evalTime) else .next (s.advanceClock t)

end Sys2Proof.Machine
end

