-- ==== Sys2Proof/Machine/Retention.lean ====
section
/-! DEFINITION. The meanings of STORE_TABLES, its end, and LOAD_TABLES, and the loading steps that start-up
shares (11). -/

namespace Sys2Proof.Machine

open Sys2Proof

/-- A slot's counters against the entry now in the slot: kept for the same token, else 0 with the new
entry's token, or none (R79). -/
def matchCount (entry : Option DepositorEntry) (c : NightCount) : NightCount :=
  match entry with
  | none => ⟨0, 0, none⟩
  | some e => if c.token = some e.token then c else ⟨0, 0, some e.token⟩

namespace State

/-! ## Storing (R184) -/

/-- STORE_TABLES is accepted: the copy is taken and the write is in flight (R184). -/
def storeTables (s : State) (_ : Unit) : State := s.setOffice { s.office with hand := some (.storing s.tables) }

/-- The end of the write: the copy, the epoch copy as it stands now and the check value are in the store,
and the reply is formed with the epoch stored (R184). -/
def finishStore (s : State) (copy : Tables) : State :=
  (s.setTableStore ⟨true, copy, s.journal.epoch, false⟩).answer 0x70 .ok (Out.u16 s.journal.epoch)

/-- The write ends, if one is in flight. -/
def storeTablesDone (s : State) : State :=
  match s.office.hand with
  | some (.storing copy) => s.finishStore copy
  | _ => s

/-! ## Loading (R79, R91, R185) -/

/-- Every slot's counters are matched to the entry in the slot (R79). -/
def matchCounts (s : State) : State := s.setCounts (Tab.zipWith matchCount s.tables.depositors s.counts)

/-- Every zero-capture mark is disarmed. -/
def disarmAll (s : State) : State :=
  Hatch.all.foldl (fun s h => s.modPort h fun p => { p with zeroArmed := false }) s

/-- The suspect map's access window is whole and its pointer 0 (R57). -/
def resetMapAccess (s : State) : State := s.setMapAccess MapAccess.whole

/-- C is clamped to at least S + H (R91). -/
def clampLimit (s : State) : State :=
  s.setTables { s.tables with limit := max s.tables.limit (s.cover.committed + s.cover.held) }

/-- A hatch's loaded configuration, put in force where it differs (R165, R185). -/
def loadConfig (t : Tables) (s : State) (h : Hatch) : State :=
  if t.configs.get h = s.config h then s else s.applyConfig h (t.configs.get h)

/-- The seven steps of an accepted LOAD_TABLES (R185); the configurations in force stay until step 6. -/
def loadTablesFrom (s : State) (t : Tables) : State :=
  let s1 := (s.setTables { t with configs := s.tables.configs }).matchCounts
  let s2 := s1.clampLimit.evalCover.applyNoticeSettings.disarmAll
  (Hatch.all.foldl (loadConfig t) s2).evalTime

/-- LOAD_TABLES (R185), with its outcome: LOADED 0 or TABLE_STORE_BAD 1 (Table 12-2). -/
def loadTables (s : State) (_ : Unit) : State :=
  if s.intake.state ≠ .stopped then s.answer 0x71 .state []
  else if s.tableStore.good then (s.loadTablesFrom s.tableStore.tables).answer 0x71 .ok (Out.u8 0)
  else (s.raise .tableStoreBad).answer 0x71 .ok (Out.u8 1)

end State

/-- STORE_TABLES (R184): the reply follows at STORE_TABLES_DONE. -/
def execStoreTables (p : Params Unit) (s : State) : Meaning := .next (s.request 0x70 p s.storeTables)

/-- STORE_TABLES_DONE (R184). -/
def execStoreTablesDone (s : State) : Meaning := .next (s.event State.storeTablesDone)

/-- LOAD_TABLES (R185). -/
def execLoadTables (p : Params Unit) (s : State) : Meaning := .next (s.request 0x71 p s.loadTables)

end Sys2Proof.Machine
end

