-- ==== Sys2Proof/Machine/OfficeEvents.lean ====
section
/-! DEFINITION. The meanings of the events at the office port: requests that name no command, bad frames,
the end of a transmission with the steps of RESET, and the mitigation timer (10; 11, R191). -/

namespace Sys2Proof.Machine

open Sys2Proof

/-- The code that a request body carries: 0 for an empty body (R169, R170). -/
def codeOf : List Byte → Nat
  | [] => 0
  | c :: _ => c.toNat

namespace State

/-- A request whose code names no command, or whose body is empty (R170, steps 1 and 2). -/
def answerUnknown (s : State) (body : List Byte) : State :=
  if s.office.hand.isSome then s.answerBusy (codeOf body)
  else
    match body with
    | [] => s.answer 0 .badLength []
    | c :: _ => s.answer c.toNat .unknownCommand []

/-- The office bad-frame counter rises (R168). -/
def countOfficeBad (s : State) : State := s.setOffice { s.office with badFrames := bump s.office.badFrames }

/-- The mitigation timer's deadline passes: TIMER is triggered and the timer is STOPPED (R173). -/
def mitigationExpiry (s : State) : State :=
  match s.office.timer with
  | none => s
  | some t => ((s.reach t.deadline).setOffice { s.office with timer := none }).trigger .timer

/-! ## The steps of RESET (R191) -/

/-- Step 1: the office port is cleared, its counters with the ports' own (R164, R181). -/
def clearOffice (s : State) : State :=
  (s.setOffice
    { s.office with replies := [], notice := none, count := 0, timer := none, flags := 0 }).clearCounters

/-- Step 2 at one hatch: its transaction ends as on link loss (R30). -/
def resetDrop (s : State) (h : Hatch) : State := if (s.port h).link = .up then s.dropLink h else s

/-- Step 4: the carousel starts to home, the last-granted hatch is 4 and every release count is discarded. -/
def resetStore (s : State) : State :=
  let s1 := s.startHoming
  Hatch.all.foldl (fun s h => s.modPort h fun p => { p with release := none })
    (s1.setStore { s1.store with lastGranted := .h4 })

/-- A port after RESET has no resolved capabilities, its configured depth, receipt mode DISPLAY and no
SURROUND latch (R152, R163). -/
def forgetHead (s : State) (h : Hatch) : State :=
  s.modPort h fun p =>
    { p with caps := noCaps, depth := (s.config h).depth, receiptMode := .display, surroundLatch := false }

/-- Step 5 at one port (R152, R163). -/
def resetPort (s : State) (h : Hatch) : State :=
  if (s.port h).link = .disabled then s.forgetHead h else (s.enterHoldOff h).forgetHead h

/-- Step 7: the near marks start CLEAR and are evaluated (R92, R109, R114). -/
def freshMarks (s : State) : State :=
  let s1 := s.setCover { s.cover with near := false }
  let s2 := s1.setJournal { s1.journal with near := false }
  (s2.setStore { s2.store with near := false }).evalCover.evalJournal.evalStore

/-- The steps that follow the last byte of RESET's reply, in order; the request then leaves the hand
(R191). -/
def resetSteps (s : State) : State :=
  let s2 := Hatch.all.foldl resetDrop s.clearOffice
  let s3 := (s2.setIntake { s2.intake with enable := false }).evalIntake
  let s5 := Hatch.all.foldl resetPort s3.resetStore
  let s7 := s5.disarmAll.resetMapAccess.freshMarks
  s7.setOffice { s7.office with hand := none }

/-- The transmitter's frame ends: the transmitter is free, and the steps of RESET follow its reply (R171,
R191). -/
def finishFrame (s : State) : State :=
  let s1 := s.setOffice { s.office with transmitter := none }
  if s.office.hand = some .resetSending then s1.resetSteps else s1

/-- The end of a transmission; nothing where no frame is in transmission. -/
def transmitEnd (s : State) : State :=
  match s.office.transmitter with
  | none => s
  | some _ => s.finishFrame

end State

/-- UNKNOWN_COMMAND (R170). -/
def execUnknownCommand (body : List Byte) (s : State) : Meaning := .next (s.event fun s => s.answerUnknown body)

/-- OFFICE_BAD_FRAME (R168): every case is discarded and counted alike. -/
def execOfficeBadFrame (_ : OfficeFrameFault) (s : State) : Meaning := .next (s.event State.countOfficeBad)

/-- OFFICE_GAP_TIMEOUT (R168). -/
def execOfficeGapTimeout (s : State) : Meaning := .next (s.event State.countOfficeBad)

/-- TRANSMIT_END (R171, R191). -/
def execTransmitEnd (s : State) : Meaning := .next (s.event State.transmitEnd)

/-- MITIGATION_TIMER (R173). -/
def execMitigationTimer (s : State) : Meaning := .next (s.event State.mitigationExpiry)

end Sys2Proof.Machine
end

