-- ==== Sys2Proof/Machine/StoreLines.lean ====
section
/-! DEFINITION. The meanings of the store lines and the carousel's deadlines (07). -/

namespace Sys2Proof.Machine

open Sys2Proof

namespace State

/-! ## AT_POSITION (R122 to R124, R128) -/

/-- A turn without a command: UNHOMED, the position unknown, and the alarm (R123). -/
def turned (s : State) : State := ((s.setPosition none).setCarousel .unhomed).raise .carouselFault

/-- AT_POSITION in each carousel state. -/
def positionEvent (s : State) (b : BinNo) : State :=
  match s.store.carousel with
  | .unhomed => s
  | .homing _ => s.setPosition (some b)
  | .haltedHoming => s.setPosition (some b)
  | .haltedMove _ _ => s.setPosition (some b)
  | .idle => if s.store.position = some b then s else s.turned
  | .fault => if s.store.position = some b ∨ s.store.position = none then s else s.turned
  | .moving target grant _ =>
    if b = target then (s.setPosition (some b)).endMove b grant else s.setPosition (some b)
  | .delivering g bin release _ =>
    if b = bin then s else (s.setPosition none).failDelivery g release .unhomed

/-! ## HOME (R122, R128) -/

/-- HOME ends a homing, and in HALTED records position 0. -/
def homeEvent (s : State) : State :=
  match s.store.carousel with
  | .homing _ => (s.setPosition (some 0)).enterIdle
  | .haltedHoming => s.setPosition (some 0)
  | .haltedMove _ _ => s.setPosition (some 0)
  | .unhomed => s
  | .idle => s
  | .moving _ _ _ => s
  | .delivering _ _ _ _ => s
  | .fault => s

/-! ## DROP (R126, R129) -/

/-- An unexpected drop: the counter rises and the alarm is raised (R129). -/
def unexpectedDrop (s : State) : State :=
  (s.setOffice { s.office with unexpectedDrops := bump s.office.unexpectedDrops }).raise .unexpectedDrop

/-- A drop pulse files the bag in DELIVERING and is unexpected in every other state. -/
def dropEvent (s : State) : State :=
  match s.store.carousel with
  | .delivering g b _ _ => s.fileBag g b
  | .unhomed => s.unexpectedDrop
  | .homing _ => s.unexpectedDrop
  | .idle => s.unexpectedDrop
  | .moving _ _ _ => s.unexpectedDrop
  | .haltedHoming => s.unexpectedDrop
  | .haltedMove _ _ => s.unexpectedDrop
  | .fault => s.unexpectedDrop

/-! ## The inner door (R128) -/

/-- The level of the DOOR_CLOSED input. -/
def setDoor (s : State) (doorOpen : Bool) : State := s.setStore { s.store with doorOpen := doorOpen }

/-- HOMING and MOVING halt as the door opens, and lose their deadline. -/
def haltCarousel (s : State) : State :=
  match s.store.carousel with
  | .homing _ => s.setCarousel .haltedHoming
  | .moving b g _ => s.setCarousel (.haltedMove b g)
  | _ => s

/-- The alarm of an opening during intake. -/
def doorAlarm (s : State) : State :=
  if s.intake.state = .running ∨ s.intake.state = .suspended ∨ s.intake.state = .stopping then
    s.raise .doorOpenInIntake
  else s

/-- The door opens; an input that already shows it open is no change. -/
def doorOpensEvent (s : State) : State :=
  if s.store.doorOpen then s else ((s.setDoor true).haltCarousel).doorAlarm

/-- A halted operation resumes with a fresh deadline, a halted move at its target ends, and IDLE starts the
arbiter. -/
def resumeCarousel (s : State) : State :=
  match s.store.carousel with
  | .haltedHoming => s.setCarousel (.homing (s.now + Config.homingTime))
  | .haltedMove b g =>
    if s.store.position = some b then s.endMove b g else s.setCarousel (.moving b g (s.now + Config.moveTime))
  | .idle => s.arbiter
  | _ => s

/-- The door closes; an input that already shows it closed is no change. -/
def doorClosesEvent (s : State) : State := if s.store.doorOpen then (s.setDoor false).resumeCarousel else s

/-! ## Deadlines (R123, R127) -/

/-- The carousel stops in FAULT, its position unknown and a move's grant withdrawn (R123). -/
def stopCarousel (s : State) : State := ((s.setPosition none).setCarousel .fault).raise .carouselFault

/-- The homing deadline. -/
def homingExpiry (s : State) : State :=
  match s.store.carousel with
  | .homing d => (s.reach d).stopCarousel
  | _ => s

/-- The move deadline. -/
def moveExpiry (s : State) : State :=
  match s.store.carousel with
  | .moving _ _ d => (s.reach d).stopCarousel
  | _ => s

/-- The delivery deadline. -/
def deliveryExpiry (s : State) : State :=
  match s.store.carousel with
  | .delivering g _ release d => (s.reach d).failDelivery g release .fault
  | _ => s

end State

/-- AT_POSITION (R122 to R124, R128). -/
def execAtPosition (b : BinNo) (s : State) : Meaning := .next (s.event fun s => s.positionEvent b)

/-- HOME (R122, R128). -/
def execHome (s : State) : Meaning := .next (s.event State.homeEvent)

/-- DROP_PULSE (R126, R129). -/
def execDropPulse (s : State) : Meaning := .next (s.event State.dropEvent)

/-- DOOR_OPENS (R128). While the controller does not run only the input's level changes. -/
def execDoorOpens (s : State) : Meaning :=
  if s.running then .next (s.event State.doorOpensEvent) else .next (s.setDoor true)

/-- DOOR_CLOSES (R128). While the controller does not run only the input's level changes. -/
def execDoorCloses (s : State) : Meaning :=
  if s.running then .next (s.event State.doorClosesEvent) else .next (s.setDoor false)

/-- HOMING_TIMEOUT (R123). -/
def execHomingTimeout (s : State) : Meaning := .next (s.event State.homingExpiry)

/-- MOVE_TIMEOUT (R123). -/
def execMoveTimeout (s : State) : Meaning := .next (s.event State.moveExpiry)

/-- DELIVERY_TIMEOUT (R127). -/
def execDeliveryTimeout (s : State) : Meaning := .next (s.event State.deliveryExpiry)

end Sys2Proof.Machine
end

