-- ==== Sys2Proof/Machine/Power.lean ====
section
/-! DEFINITION. The meanings of the power lines: power fail, the reset input and the seven phases of
start-up (11). -/

namespace Sys2Proof.Machine

open Sys2Proof

/-- A port at a power fail: silent, its transaction abandoned, its outputs released (R187). -/
def Port.silence (p : Port) : Port := { p.discard with link := .disabled, lineOut := none, drop := .offline }

namespace State

/-! ## Power fail and the reset input (R187) -/

/-- The table store after a write cut short: its check fails (R183, R184). -/
def spoilStore (s : State) : State := s.setTableStore { s.tableStore with good := false }

/-- What is not retained of the cover account, the journal and the store: the three kinds of hold, and the
carousel's operation and position. -/
def dropHolds (s : State) : State :=
  let s1 := s.setCover { s.cover with held := 0 }
  let s2 := s1.setJournal { s1.journal with slotHolds := 0 }
  s2.setStore { s2.store with holds := 0, carousel := .unhomed, position := none }

/-- The writes to the table store that an outage cuts short leave it failing its check: a STORE_TABLES in
flight, and the epoch write of a journal wrap where the outage falls within it (R183, R184, R187; log entry
21). -/
def cutWrites (s : State) (inEpochWrite : Bool) : State :=
  s.setTableStore
    { s.tableStore with
      good := s.tableStore.good && !s.storing && !(inEpochWrite && s.tableStore.writing)
      writing := false }

/-- The controller stops: every operation in flight is abandoned, every port and the transmitter fall
silent, and a write to the table store is cut short (R171, R184, R187). What nothing retains takes the
values of log entry 15: the intake state and the near marks, among others, stay as they were. -/
def outage (s : State) (inEpochWrite : Bool) : State :=
  let s1 := s.cutWrites inEpochWrite
  let s2 := (s1.setPorts (s1.ports.map Port.silence)).dropHolds
  s2.setOffice { s2.office with hand := none, replies := [], transmitter := none, notice := none }

/-- The running controller stops; one that does not run is left as it is. -/
def stop (s : State) (inEpochWrite : Bool) : State := if s.running then s.outage inEpochWrite else s

/-! ## Start-up, phases 1 and 2 (R186, R188) -/

/-- Phase 1: the office port is as after a restart, and the straps are latched (R181, R186, R190). -/
def phase1 (s : State) (a : StartUpArgs) : State := s.clearOffice.setStraps ⟨a.hatches, a.rate⟩

/-- The retained store is set afresh (R188). -/
def freshRetained (s : State) : State :=
  let s1 := s.setJournal { s.journal with entries := [], next := 1, last := 0 }
  let s2 := s1.setStore { s1.store with bins := Tab.fill 30 Bin.lost, queues := PerHatch.all [] }
  let s3 := (s2.setCover { s2.cover with committed := 0 }).setCounts (Tab.fill 512 ⟨0, 0, none⟩)
  s3.setIntake { s3.intake with clock := none, windowMark := false, enable := false }

/-- The stored epoch is advanced by one and written, while the table store is good (R183, R188). -/
def advanceEpoch (s : State) : State :=
  (s.setJournal { s.journal with epoch := (s.tableStore.epoch + 1) % 65536 }).epochWrite

/-- Phase 2 up to the epoch write. -/
def loseRetained (s : State) : State := (s.latch .retainedLost).freshRetained

/-- Phase 2 (R188). -/
def phase2 (s : State) (a : StartUpArgs) : State := if a.retainedIntact then s else s.loseRetained.advanceEpoch

/-! ## Phase 3 (R189) -/

/-- The working tables from the table store, or the defaults with the alarm. -/
def loadStored (s : State) : State :=
  if s.tableStore.good then s.setTables s.tableStore.tables
  else (s.latch .tableStoreBad).setTables Tables.defaults

/-- The epoch that start-up loads: the stored one; with a bad store the default 0, or 1 where the retained
store was lost as well. -/
def loadedEpoch (s : State) (a : StartUpArgs) : Nat :=
  if s.tableStore.good then s.tableStore.epoch else if a.retainedIntact then 0 else 1

/-- Phase 3. -/
def phase3 (s : State) (a : StartUpArgs) : State :=
  let s1 := s.loadStored
  ((s1.setJournal { s1.journal with epoch := s.loadedEpoch a }).clampLimit.matchCounts).resetMapAccess.disarmAll

/-! ## Phase 4 (R190) -/

/-- The numbers of the entries found IN_CHUTE (R110). -/
def inChute (s : State) : List Nat :=
  (s.journal.entries.filter fun e => decide (e.state = .inChute)).map Entry.number

/-- An entry found IN_CHUTE is stranded, and its pending place released if it has a bin (R110, R136). -/
def strandAtStart (s : State) (n : Nat) : State := (s.strandEntry n).releasePlace n

/-- The fault flag of a port is clear. -/
def clearFaultFlag (s : State) (h : Hatch) : State := s.modPort h fun p => { p with faultFlag := false }

/-- The intake state is evaluated afresh, and the state found is a notice trigger (R148). -/
def findIntake (s : State) : State := (s.setIntake { s.intake with state := s.intakeTarget }).trigger .intake

/-- Phase 4. -/
def phase4 (s : State) : State :=
  let s1 := (s.inChute.foldl strandAtStart s).dropHolds
  ((Hatch.all.foldl clearFaultFlag s1).evalWindow.findIntake).freshMarks

/-! ## Phases 5 to 7 (R190) -/

/-- Phase 5: the carousel starts to home, and the last-granted hatch is 4. -/
def phase5 (s : State) : State :=
  let s1 := s.startHoming
  s1.setStore { s1.store with lastGranted := .h4 }

/-- A port at phase 6: a fitted and enabled one enters HOLD_OFF, every other is DISABLED. -/
def startPort (s : State) (h : Hatch) : State :=
  let link := if s.fitted h && (s.config h).enable then LinkState.holdOff (s.now + Config.holdOffTime) else .disabled
  s.setPort h (Port.fresh link (s.config h).depth (s.port h).contactOpen)

/-- Phase 6. -/
def phase6 (s : State) : State := Hatch.all.foldl startPort s

/-- The latched and unmasked flags among a class. -/
def newlyLatched (s : State) (cls : FlagSet) : Bool :=
  decide (s.office.flags &&& ~~~s.tables.alertMask &&& cls ≠ 0)

/-- The causes of the start-up notice: ALARM and ATTENTION for the unmasked flags latched (R181). -/
def startNotice (s : State) : State :=
  let s1 := if s.newlyLatched alarmSet then s.trigger .alarm else s
  if s.newlyLatched attentionSet then s1.trigger .attention else s1

/-- Phase 7. -/
def phase7 (s : State) : State := (s.latch .powerRestart).startNotice

end State

/-- The events that fall after phase `n`, in order. -/
def eventsAfter (a : StartUpArgs) (n : Nat) : List StartEvent :=
  (a.during.filter fun e => decide (e.1 = n)).map Prod.snd

namespace State

/-! ## Events between the phases (R188, R190; log entry 14) -/

/-- A clock advance after phase `n`: from phase 4 on window 0 and the intake state are evaluated with it, and
before that only the clock moves, since their evaluation is phase 4's (R146, R187, R190). -/
def startAdvance (s : State) (n : Nat) : State :=
  match s.intake.clock with
  | none => s
  | some t => if 4 ≤ n then (s.advanceClock t).evalTime else s.advanceClock t

/-- An event after phase `n`. Store line inputs are taken from phase 5 on, and before that the door shows
its level alone; an aux contact is read as a level until its port starts in phase 6. -/
def startEvent (n : Nat) (s : State) : StartEvent → State
  | .clockAdvance => s.startAdvance n
  | .atPosition b => if 5 ≤ n then s.positionEvent b else s
  | .home => if 5 ≤ n then s.homeEvent else s
  | .dropPulse => if 5 ≤ n then s.dropEvent else s
  | .doorOpens => if 5 ≤ n then s.doorOpensEvent else s.setDoor true
  | .doorCloses => if 5 ≤ n then s.doorClosesEvent else s.setDoor false
  | .homingTimeout => if 5 ≤ n then s.homingExpiry else s
  | .contact h contactOpen => if 6 ≤ n then s.surroundEvent h contactOpen else s.setContact h contactOpen

/-- The events after phase `n` are taken. -/
def between (s : State) (a : StartUpArgs) (n : Nat) : State := (eventsAfter a n).foldl (startEvent n) s

end State

/-- The seven phases in order, each but the last with the events that fall after it. -/
def phases (a : StartUpArgs) : List (State → State) :=
  [fun s => (s.phase1 a).between a 1, fun s => (s.phase2 a).between a 2, fun s => (s.phase3 a).between a 3,
    fun s => s.phase4.between a 4, fun s => s.phase5.between a 5, fun s => s.phase6.between a 6, State.phase7]

namespace State

/-- The first `n` phases. -/
def runPhases (a : StartUpArgs) (n : Nat) (s : State) : State := ((phases a).take n).foldl (fun s f => f s) s

/-- Mains-good is high and the reset input released. -/
def powered (s : State) : State := (s.setMainsGood true).setResetReleased true

/-- A start-up abandoned by a power fail: what it has done to the stores stays (R187, R188). -/
def abandon (s : State) : State := (s.outage false).setMainsGood false

/-- Phase 2 cut before its epoch write, or within it, where one falls due (R188). -/
def cutPhase2 (a : StartUpArgs) (inWrite : Bool) (s : State) : State :=
  let s1 := (s.phase1 a).between a 1
  if a.retainedIntact then s1.abandon
  else if inWrite then s1.loseRetained.spoilStore.abandon
  else s1.loseRetained.abandon

/-- Start-up, whole or cut. -/
def startUpEvent (a : StartUpArgs) (s : State) : State :=
  match a.ending with
  | .completes => (runPhases a 7 s).pump
  | .cutAfter n => (runPhases a n s).abandon
  | .cutBeforeEpochWrite => cutPhase2 a false s
  | .cutInEpochWrite => cutPhase2 a true s

end State

/-- POWER_FAIL (R187). -/
def execPowerFail (s : State) (inEpochWrite : Bool := false) : Meaning :=
  .next ((s.stop inEpochWrite).setMainsGood false)

/-- RESET_INPUT (R187). -/
def execResetInput (s : State) (inEpochWrite : Bool := false) : Meaning :=
  .next ((s.stop inEpochWrite).setResetReleased false)

/-- START_UP (R188 to R190); a controller still running meets the reset input first (log entry 13). -/
def execStartUp (a : StartUpArgs) (s : State) : Meaning := .next (State.startUpEvent a (s.outage false).powered)

end Sys2Proof.Machine
end

