-- ==== Sys2Proof/Machine/Screen.lean ====
section
/-! DEFINITION. The meanings of the requests on the range list and the suspect map (03). -/

namespace Sys2Proof.Machine

open Sys2Proof

namespace State

/-! ## The range list -/

/-- SCREEN_MODE (R53). -/
def setScreenMode (s : State) (v : Nat) : State :=
  match screenMode? v with
  | none => s.answer 0x30 .range []
  | some m => (s.setTables { s.tables with screenMode := m }).answer 0x30 .ok []

/-- The range at the end of the list, which is short of 32 (R54). -/
def appendRange (s : State) (r : SerialRange) : State :=
  s.setTables { s.tables with ranges := s.tables.ranges ++ [r] }

/-- SCREEN_RANGE_ADD (R54). -/
def screenRangeAdd (s : State) (a : RangeArgs) : State :=
  if Config.maxSerial < a.first ∨ Config.maxSerial < a.last ∨ a.last < a.first then s.answer 0x31 .range []
  else if Config.maxRanges ≤ s.tables.ranges.length then s.answer 0x31 .full []
  else (s.appendRange ⟨a.first, a.last⟩).answer 0x31 .ok (Out.u8 (s.tables.ranges.length + 1))

/-- SCREEN_RANGE_CLEAR (R55). -/
def screenRangeClear (s : State) (_ : Unit) : State :=
  (s.setTables { s.tables with ranges := [] }).answer 0x32 .ok []

/-- The data of SCREEN_READ: the mode, the count, and up to 16 ranges from position `index` (R56). -/
def screenData (s : State) (index : Nat) : List Byte :=
  Out.u8 s.tables.screenMode.code ++ Out.u8 s.tables.ranges.length
    ++ Out.list Out.range ((s.tables.ranges.drop index).take 16)

/-- SCREEN_READ (R56). -/
def screenRead (s : State) (index : Nat) : State :=
  if 31 < index then s.answer 0x33 .range [] else s.answer 0x33 .ok (s.screenData index)

/-! ## The suspect map -/

/-- MAP_WINDOW (R58). -/
def mapWindow (s : State) (a : RangeArgs) : State :=
  if a.first ≤ a.last ∧ a.last < Config.mapSize then
    (s.setMapAccess ⟨a.first, a.last, a.first⟩).answer 0x34 .ok []
  else s.answer 0x34 .range []

end State

/-- A map position from its number; numbers from the pointer lie below 1,021 already (R57). -/
def mapPosition (n : Nat) : Fin 1021 := ⟨n % 1021, Nat.mod_lt _ (by decide)⟩

/-- The pointer advances by one, and from the last position of the window to the first (R59). -/
def MapAccess.advance (m : MapAccess) : MapAccess :=
  { m with pointer := if m.pointer = m.last then m.first else m.pointer + 1 }

/-- Bits written one at a time from the pointer (R59). -/
def writeMap : Tab Bool 1021 → MapAccess → List Bool → Tab Bool 1021 × MapAccess
  | t, m, [] => (t, m)
  | t, m, b :: bs => writeMap (t.put (mapPosition m.pointer) b) m.advance bs

/-- `n` bits read one at a time from the pointer (R60). -/
def readMap (t : Tab Bool 1021) : MapAccess → Nat → List Bool × MapAccess
  | m, 0 => ([], m)
  | m, n + 1 =>
    let r := readMap t m.advance n
    (t.get (mapPosition m.pointer) :: r.1, r.2)

namespace State

/-- The map and the pointer after bits are written from the pointer (R59). -/
def writeBits (s : State) (bits : List Bool) : State :=
  let r := writeMap s.tables.suspectMap s.mapAccess bits
  (s.setTables { s.tables with suspectMap := r.1 }).setMapAccess r.2

/-- MAP_WRITE (R59, R195): the range of the count is tested before the number of bytes. -/
def mapWrite (s : State) (a : MapWriteArgs) : State :=
  if !within 1 Config.maxMapBits a.count then s.answer 0x35 .range []
  else if a.bits.length ≠ bytesFor a.count then s.answer 0x35 .badLength []
  else
    let s1 := s.writeBits ((unpackBits a.bits).take a.count)
    s1.answer 0x35 .ok (Out.u16 s1.mapAccess.pointer)

/-- MAP_READ (R60, R195). -/
def mapRead (s : State) (count : Nat) : State :=
  if within 1 Config.maxMapBits count then
    let r := readMap s.tables.suspectMap s.mapAccess count
    (s.setMapAccess r.2).answer 0x36 .ok
      (Out.u16 s.mapAccess.pointer ++ Out.u16 count ++ packBits (bytesFor count) r.1)
  else s.answer 0x36 .range []

/-- MAP_CLEAR (R61). -/
def mapClear (s : State) (_ : Unit) : State :=
  (s.setTables { s.tables with suspectMap := Tab.fill 1021 false }).answer 0x37 .ok []

end State

/-- SCREEN_MODE (R53). -/
def execScreenMode (p : Params Nat) (s : State) : Meaning := .next (s.request 0x30 p s.setScreenMode)

/-- SCREEN_RANGE_ADD (R54). -/
def execScreenRangeAdd (p : Params RangeArgs) (s : State) : Meaning := .next (s.request 0x31 p s.screenRangeAdd)

/-- SCREEN_RANGE_CLEAR (R55). -/
def execScreenRangeClear (p : Params Unit) (s : State) : Meaning := .next (s.request 0x32 p s.screenRangeClear)

/-- SCREEN_READ (R56). -/
def execScreenRead (p : Params Nat) (s : State) : Meaning := .next (s.request 0x33 p s.screenRead)

/-- MAP_WINDOW (R58). -/
def execMapWindow (p : Params RangeArgs) (s : State) : Meaning := .next (s.request 0x34 p s.mapWindow)

/-- MAP_WRITE (R59). -/
def execMapWrite (p : Params MapWriteArgs) (s : State) : Meaning := .next (s.request 0x35 p s.mapWrite)

/-- MAP_READ (R60). -/
def execMapRead (p : Params Nat) (s : State) : Meaning := .next (s.request 0x36 p s.mapRead)

/-- MAP_CLEAR (R61). -/
def execMapClear (p : Params Unit) (s : State) : Meaning := .next (s.request 0x37 p s.mapClear)

end Sys2Proof.Machine
end

