-- ==== Sys2Proof/Machine/Dispatch.lean ====
section
/-! DEFINITION. The dispatch: one arm per command, each one direct call of its meaning. -/

namespace Sys2Proof.Machine

open Sys2Proof

/-- What a command does to everything but the queue. -/
def exec (i : Instr) (s : State) : Host.Outcome State Fault Refusal :=
  match i with
  | .statusRead p => Sys2Proof.Machine.execStatusRead p s
  | .hatchRead p => Sys2Proof.Machine.execHatchRead p s
  | .countersRead p => Sys2Proof.Machine.execCountersRead p s
  | .countersClear p => Sys2Proof.Machine.execCountersClear p s
  | .alertClear p => Sys2Proof.Machine.execAlertClear p s
  | .alertMask p => Sys2Proof.Machine.execAlertMask p s
  | .noticeSet p => Sys2Proof.Machine.execNoticeSet p s
  | .reset p => Sys2Proof.Machine.execReset p s
  | .setClock p => Sys2Proof.Machine.execSetClock p s
  | .schedulePut p => Sys2Proof.Machine.execSchedulePut p s
  | .scheduleRead p => Sys2Proof.Machine.execScheduleRead p s
  | .intakeStart p => Sys2Proof.Machine.execIntakeStart p s
  | .intakeStop p => Sys2Proof.Machine.execIntakeStop p s
  | .depositorPut p => Sys2Proof.Machine.execDepositorPut p s
  | .depositorDrop p => Sys2Proof.Machine.execDepositorDrop p s
  | .depositorState p => Sys2Proof.Machine.execDepositorState p s
  | .depositorRead p => Sys2Proof.Machine.execDepositorRead p s
  | .denomPut p => Sys2Proof.Machine.execDenomPut p s
  | .tarePut p => Sys2Proof.Machine.execTarePut p s
  | .toleranceSet p => Sys2Proof.Machine.execToleranceSet p s
  | .massTablesRead p => Sys2Proof.Machine.execMassTablesRead p s
  | .screenMode p => Sys2Proof.Machine.execScreenMode p s
  | .screenRangeAdd p => Sys2Proof.Machine.execScreenRangeAdd p s
  | .screenRangeClear p => Sys2Proof.Machine.execScreenRangeClear p s
  | .screenRead p => Sys2Proof.Machine.execScreenRead p s
  | .mapWindow p => Sys2Proof.Machine.execMapWindow p s
  | .mapWrite p => Sys2Proof.Machine.execMapWrite p s
  | .mapRead p => Sys2Proof.Machine.execMapRead p s
  | .mapClear p => Sys2Proof.Machine.execMapClear p s
  | .coverSet p => Sys2Proof.Machine.execCoverSet p s
  | .coverRead p => Sys2Proof.Machine.execCoverRead p s
  | .journalRead p => Sys2Proof.Machine.execJournalRead p s
  | .journalResolve p => Sys2Proof.Machine.execJournalResolve p s
  | .journalRelease p => Sys2Proof.Machine.execJournalRelease p s
  | .binClear p => Sys2Proof.Machine.execBinClear p s
  | .binWithdraw p => Sys2Proof.Machine.execBinWithdraw p s
  | .binRestore p => Sys2Proof.Machine.execBinRestore p s
  | .binRead p => Sys2Proof.Machine.execBinRead p s
  | .carouselHome p => Sys2Proof.Machine.execCarouselHome p s
  | .hatchConfig p => Sys2Proof.Machine.execHatchConfig p s
  | .hatchCalibrate p => Sys2Proof.Machine.execHatchCalibrate p s
  | .hatchRelink p => Sys2Proof.Machine.execHatchRelink p s
  | .hatchShow p => Sys2Proof.Machine.execHatchShow p s
  | .hatchClear p => Sys2Proof.Machine.execHatchClear p s
  | .storeTables p => Sys2Proof.Machine.execStoreTables p s
  | .storeTablesDone => Sys2Proof.Machine.execStoreTablesDone s
  | .loadTables p => Sys2Proof.Machine.execLoadTables p s
  | .unknownCommand body => Sys2Proof.Machine.execUnknownCommand body s
  | .officeBadFrame why => Sys2Proof.Machine.execOfficeBadFrame why s
  | .officeGapTimeout => Sys2Proof.Machine.execOfficeGapTimeout s
  | .transmitEnd => Sys2Proof.Machine.execTransmitEnd s
  | .mitigationTimer => Sys2Proof.Machine.execMitigationTimer s
  | .poll h inReception => Sys2Proof.Machine.execPoll h inReception s
  | .miss h => Sys2Proof.Machine.execMiss h s
  | .holdOffExpiry h inReception => Sys2Proof.Machine.execHoldOffExpiry h s inReception
  | .offer h inReception => Sys2Proof.Machine.execOffer h inReception s
  | .answer h complemented a => Sys2Proof.Machine.execAnswer h complemented a s
  | .report h complemented r => Sys2Proof.Machine.execReport h complemented r s
  | .hatchBadFrame h => Sys2Proof.Machine.execHatchBadFrame h s
  | .complementedFrame h f => Sys2Proof.Machine.execComplementedFrame h f s
  | .jabber h => Sys2Proof.Machine.execJabber h s
  | .surroundOpening h contactOpen => Sys2Proof.Machine.execSurroundOpening h contactOpen s
  | .declTimeout h => Sys2Proof.Machine.execDeclTimeout h s
  | .openTimeout h => Sys2Proof.Machine.execOpenTimeout h s
  | .weighingTimeout h => Sys2Proof.Machine.execWeighingTimeout h s
  | .tippingTimeout h => Sys2Proof.Machine.execTippingTimeout h s
  | .clockAdvance => Sys2Proof.Machine.execClockAdvance s
  | .atPosition b => Sys2Proof.Machine.execAtPosition b s
  | .home => Sys2Proof.Machine.execHome s
  | .dropPulse => Sys2Proof.Machine.execDropPulse s
  | .doorOpens => Sys2Proof.Machine.execDoorOpens s
  | .doorCloses => Sys2Proof.Machine.execDoorCloses s
  | .homingTimeout => Sys2Proof.Machine.execHomingTimeout s
  | .moveTimeout => Sys2Proof.Machine.execMoveTimeout s
  | .deliveryTimeout => Sys2Proof.Machine.execDeliveryTimeout s
  | .powerFail inEpochWrite => Sys2Proof.Machine.execPowerFail s inEpochWrite
  | .resetInput inEpochWrite => Sys2Proof.Machine.execResetInput s inEpochWrite
  | .startUp a => Sys2Proof.Machine.execStartUp a s

end Sys2Proof.Machine
end

