-- ==== Sys2Proof/Machine/Frames.lean ====
section
/-! DEFINITION. The frames on the two kinds of line: their checks, the bytes that the controller sends, and
the receivers that turn bytes into commands (R149 to R151, R168, R192). The queue of commands stands behind
the receivers (log entry 17). -/

namespace Sys2Proof.Machine

open Sys2Proof

/-! ## Checks (R192) -/

/-- `n` shifts of the CRC-16 register. -/
def crc16Shift : Nat → BitVec 16 → BitVec 16
  | 0, r => r
  | n + 1, r => crc16Shift n (if r.msb then (r <<< 1) ^^^ 0x1021#16 else r <<< 1)

/-- One byte into the CRC-16 register: into its upper eight bits, then eight shifts. -/
def crc16Byte (r : BitVec 16) (b : Byte) : BitVec 16 := crc16Shift 8 (r ^^^ (b.zeroExtend 16 <<< 8))

/-- The check of an office frame. -/
def crc16 (bs : List Byte) : BitVec 16 := bs.foldl crc16Byte 0xFFFF#16

/-- `n` shifts of the CRC-8 register. -/
def crc8Shift : Nat → BitVec 8 → BitVec 8
  | 0, r => r
  | n + 1, r => crc8Shift n (if r.msb then (r <<< 1) ^^^ 0x07#8 else r <<< 1)

/-- One byte into the CRC-8 register. -/
def crc8Byte (r : BitVec 8) (b : Byte) : BitVec 8 := crc8Shift 8 (r ^^^ b)

/-- The check of a hatch frame. -/
def crc8 (bs : List Byte) : BitVec 8 := bs.foldl crc8Byte 0x00#8

/-! ## Envelopes (R149, R168, spec 12.1) -/

def officeStart : Byte := 0xA5#8
def hatchStart : Byte := 0x5A#8

def requestKind : Byte := 0x01#8
def replyKind : Byte := 0x02#8
def noticeKind : Byte := 0x03#8
def pollKind : Byte := 0x21#8
def reportKind : Byte := 0x22#8
def offerKind : Byte := 0x23#8
def answerKind : Byte := 0x24#8

/-- Length, kind and body: what a check is computed over. -/
def covered (kind : Byte) (body : List Byte) : List Byte := BitVec.ofNat 8 (body.length + 1) :: kind :: body

/-- An office frame. -/
def officeFrame (kind : Byte) (body : List Byte) : List Byte :=
  officeStart :: (covered kind body ++ bytesOf 2 (crc16 (covered kind body)).toNat)

/-- A hatch frame, in the normal sense. -/
def hatchFrame (kind : Byte) (body : List Byte) : List Byte :=
  hatchStart :: (covered kind body ++ [crc8 (covered kind body)])

/-- The bytes of a reply or a notice in transmission. -/
def OfficeFrame.bytes : OfficeFrame → List Byte
  | .reply r => officeFrame replyKind (Out.reply r)
  | .notice n => officeFrame noticeKind (Out.notice n)

/-- The kind of a frame that a port sends. -/
def PortFrame.kind : PortFrame → Byte
  | .poll _ => pollKind
  | .offer _ _ => offerKind

/-- The bytes of a frame that a port sends: complemented in the inverted sense (R151), its check computed
before that, over the bytes that the head reads (log entry 32). -/
def PortFrame.bytes (inverted : Bool) (f : PortFrame) : List Byte :=
  let bs := hatchFrame f.kind (Out.portBody f)
  if inverted then bs.map fun b => ~~~b else bs

/-! ## Reception on the office link (R168) -/

/-- The command that a whole office frame spells, from what its check covers and its check bytes. -/
def readOfficeFrame (cov check : List Byte) : Instr :=
  if check ≠ bytesOf 2 (crc16 cov).toNat then .officeBadFrame .badCheck
  else
    match cov with
    | _ :: kind :: body => if kind = requestKind then decodeRequest body else .officeBadFrame .notRequest
    | _ => .officeBadFrame .notRequest

/-- The receiver over bytes that come without a gap: the commands in order, and the bytes of a frame not
yet whole. `fuel` is at least the number of bytes. A gap of 20 ms within a frame is OFFICE_GAP_TIMEOUT, and
the receiver starts again with no bytes held. -/
def officeReceive : Nat → List Byte → List Instr × List Byte
  | 0, bs => ([], bs)
  | _ + 1, [] => ([], [])
  | fuel + 1, b :: bs =>
    if b ≠ officeStart then officeReceive fuel bs
    else
      match bs with
      | [] => ([], [b])
      | len :: rest =>
        if len = 0 ∨ 250 < len.toNat then
          let r := officeReceive fuel rest
          (.officeBadFrame .badLength :: r.1, r.2)
        else if rest.length < len.toNat + 2 then ([], b :: len :: rest)
        else
          let r := officeReceive fuel (rest.drop (len.toNat + 2))
          (readOfficeFrame (len :: rest.take len.toNat) ((rest.drop len.toNat).take 2) :: r.1, r.2)

/-! ## Reception at a hatch port (R149 to R151) -/

/-- The valid frame that a whole hatch frame holds, from what its check covers and its check byte. -/
def readHatchFrame (cov : List Byte) (check : Byte) : Option HeadFrame :=
  if check ≠ crc8 cov then none
  else
    match cov with
    | _ :: kind :: body =>
      if kind = reportKind then (readReport body).map .report
      else if kind = answerKind then (readAnswer body).map .answer
      else none
    | _ => none

/-- The command of a whole frame: by its start byte it comes in the present sense or complemented. -/
def hatchCommand (h : Hatch) (complemented : Bool) : Option HeadFrame → Instr
  | none => .hatchBadFrame h
  | some f =>
    if complemented then .complementedFrame h f
    else
      match f with
      | .report r => .report h false r
      | .answer a => .answer h false a

/-- The bytes of a frame in the sense of its start byte. -/
def inSense (complemented : Bool) (bs : List Byte) : List Byte := if complemented then bs.map fun b => ~~~b else bs

/-- A port's receiver over bytes already read in the present polarity sense: the commands in order, and the
bytes of a frame not yet whole. `fuel` is at least the number of bytes. The 65th byte of a frame is
jabber, which discards what has been received. -/
def hatchReceive (h : Hatch) : Nat → List Byte → List Instr × List Byte
  | 0, bs => ([], bs)
  | _ + 1, [] => ([], [])
  | fuel + 1, b :: bs =>
    let complemented := decide (b = ~~~hatchStart)
    if b ≠ hatchStart ∧ complemented = false then hatchReceive h fuel bs
    else
      match inSense complemented bs with
      | [] => ([], [b])
      | len :: rest =>
        if 61 < len.toNat then
          if rest.length < 63 then ([], b :: bs)
          else
            let r := hatchReceive h fuel (bs.drop 64)
            (.jabber h :: r.1, r.2)
        else if rest.length < len.toNat + 1 then ([], b :: bs)
        else
          let r := hatchReceive h fuel (bs.drop (len.toNat + 2))
          (hatchCommand h complemented
              (readHatchFrame (len :: rest.take len.toNat) ((rest.drop len.toNat).headD 0)) :: r.1, r.2)

/-- What a port makes of the bytes of its line: in the inverted sense each byte is complemented before it is
read (R151). A frame that inverts the sense ends the bytes read in the old one: those after it are given
once its command has been taken. -/
def Port.receive (p : Port) (h : Hatch) (line : List Byte) : List Instr × List Byte :=
  hatchReceive h line.length (inSense p.inverted line)

end Sys2Proof.Machine
end

