-- ==== Sys2Proof/Safety.lean ====
section
/-! DEFINITION. What a sound state is, and how an answer looks at the office port: the terms in which the
claims are made. -/

namespace Sys2Proof.Machine

open Sys2Proof

/-- The pointer lies inside the access window, and the window inside the map (R57). -/
def MapAccess.Inside (m : MapAccess) : Prop :=
  m.first ≤ m.pointer ∧ m.pointer ≤ m.last ∧ m.last < Config.mapSize

namespace State

/-! ## The drop machines and their links -/

/-- A drop machine whose link is not UP is OFFLINE (R3, R152). -/
def LinksAgree (s : State) : Prop := ∀ h, (s.port h).link ≠ .up → s.drop h = .offline

/-! ## The holds -/

/-- A sum over the four drop machines. -/
def sumDrops (s : State) (f : Holds → Nat) : Nat := (Hatch.all.map fun h => f (s.drop h).holds).sum

/-- H, the slot hold count and the store hold count are what the four transactions own (R83, R103, R113,
Table 1-1). -/
def HoldsAgree (s : State) : Prop :=
  s.cover.held = s.sumDrops Holds.cover ∧ s.journal.slotHolds = s.sumDrops Holds.slots
    ∧ s.store.holds = s.sumDrops Holds.store

/-- S + H never exceeds C (R89). -/
def CoverBound (s : State) : Prop := s.cover.committed + s.cover.held ≤ s.tables.limit

/-- The shared accounts are sound. -/
def Sound (s : State) : Prop := s.LinksAgree ∧ s.HoldsAgree ∧ s.CoverBound

/-! ## The office port -/

/-- A free transmitter leaves nothing waiting: no reply and no notice (R171). -/
def NothingWaits (s : State) : Prop :=
  s.office.transmitter = none → s.office.replies = [] ∧ s.office.notice = none

/-- The controller runs, and what could be in transmission is: an event that makes no frame begins none. -/
def Settled (s : State) : Prop := s.running = true ∧ s.NothingWaits

/-- The controller runs and its hand is empty, so that a request that arrives is handled (R169). -/
def Ready (s : State) : Prop := s.running = true ∧ s.office.hand = none ∧ s.NothingWaits

end State

/-- The office port once the request in hand has its reply: a free transmitter begins it and the hand is
empty again; a busy one lets it wait behind the replies formed before it (R169, R171). -/
def Office.answered (o : Office) (command : Nat) (result : Result) (data : List Byte) : Office :=
  match o.transmitter with
  | none => { o with transmitter := some (.reply ⟨command, result, data⟩) }
  | some _ => { o with hand := some .replying, replies := o.replies ++ [.own ⟨command, result, data⟩] }

/-- A state whose office port has just answered the request in hand. -/
def State.answered (s : State) (command : Nat) (result : Result) (data : List Byte) : State :=
  { s with office := s.office.answered command result data }

/-! ## The hatch ports -/

namespace State

/-- The journal's bound: the entries and the slot holds fit its places (R103). -/
def JournalFits (s : State) : Prop := s.journal.entries.length + s.journal.slotHolds ≤ Config.journalSize

/-- A report that answers a poll at hatch `h` without an alarm: the link is UP with the window open and a
baseline taken, no alarm and no surround opening is delivered, and the release counter stands where it was
last seen (R158). -/
def QuietReport (s : State) (h : Hatch) (r : HeadReport) : Prop :=
  s.Settled ∧ (s.port h).link = .up ∧ (s.port h).window.isSome = true ∧ (s.port h).snapshot.isSome = true
    ∧ r.tamper = false ∧ r.chuteBlocked = false ∧ r.printerFault = false ∧ s.surroundDelivered h = false
    ∧ ∃ k, (s.port h).release = some k ∧ k.seen = r.release

end State

end Sys2Proof.Machine

namespace Sys2Proof

/-! ## Requests as bytes -/

/-- Whether parameters were kept as bytes that fit no layout. -/
def Params.misfits {α : Type} : Params α → Bool
  | .fits _ => false
  | .misfit _ => true

/-- Whether a command is a request whose parameters do not fit its layout (R170, step 3). -/
def Instr.misfits : Instr → Bool
  | .statusRead p => p.misfits
  | .hatchRead p => p.misfits
  | .countersRead p => p.misfits
  | .countersClear p => p.misfits
  | .alertClear p => p.misfits
  | .alertMask p => p.misfits
  | .noticeSet p => p.misfits
  | .reset p => p.misfits
  | .setClock p => p.misfits
  | .schedulePut p => p.misfits
  | .scheduleRead p => p.misfits
  | .intakeStart p => p.misfits
  | .intakeStop p => p.misfits
  | .depositorPut p => p.misfits
  | .depositorDrop p => p.misfits
  | .depositorState p => p.misfits
  | .depositorRead p => p.misfits
  | .denomPut p => p.misfits
  | .tarePut p => p.misfits
  | .toleranceSet p => p.misfits
  | .massTablesRead p => p.misfits
  | .screenMode p => p.misfits
  | .screenRangeAdd p => p.misfits
  | .screenRangeClear p => p.misfits
  | .screenRead p => p.misfits
  | .mapWindow p => p.misfits
  | .mapWrite p => p.misfits
  | .mapRead p => p.misfits
  | .mapClear p => p.misfits
  | .coverSet p => p.misfits
  | .coverRead p => p.misfits
  | .journalRead p => p.misfits
  | .journalResolve p => p.misfits
  | .journalRelease p => p.misfits
  | .binClear p => p.misfits
  | .binWithdraw p => p.misfits
  | .binRestore p => p.misfits
  | .binRead p => p.misfits
  | .carouselHome p => p.misfits
  | .hatchConfig p => p.misfits
  | .hatchCalibrate p => p.misfits
  | .hatchRelink p => p.misfits
  | .hatchShow p => p.misfits
  | .hatchClear p => p.misfits
  | .storeTables p => p.misfits
  | .storeTablesDone => false
  | .loadTables p => p.misfits
  | .unknownCommand _ => false
  | .officeBadFrame _ => false
  | .officeGapTimeout => false
  | .transmitEnd => false
  | .mitigationTimer => false
  | .poll _ _ => false
  | .miss _ => false
  | .holdOffExpiry _ _ => false
  | .offer _ _ => false
  | .answer _ _ _ => false
  | .report _ _ _ => false
  | .hatchBadFrame _ => false
  | .complementedFrame _ _ => false
  | .jabber _ => false
  | .surroundOpening _ _ => false
  | .declTimeout _ => false
  | .openTimeout _ => false
  | .weighingTimeout _ => false
  | .tippingTimeout _ => false
  | .clockAdvance => false
  | .atPosition _ => false
  | .home => false
  | .dropPulse => false
  | .doorOpens => false
  | .doorCloses => false
  | .homingTimeout => false
  | .moveTimeout => false
  | .deliveryTimeout => false
  | .powerFail _ => false
  | .resetInput _ => false
  | .startUp _ => false

end Sys2Proof
end

