-- ==== Sys2Proof/WellFormed.lean ====
section
/-! DEFINITION. Which commands the lines can carry: every field fits its width on the wire. -/

namespace Sys2Proof

/-- `v` fits an unsigned field of `bytes` bytes. -/
def fitsIn (bytes v : Nat) : Bool := decide (v < 256 ^ bytes)

/-- A declaration that a REPORT body can carry (Table 12-7). -/
def Declaration.wellFormed (d : Declaration) : Bool :=
  fitsIn 5 d.serial && fitsIn 1 d.bagClass && fitsIn 4 d.total && decide (d.lines.length ≤ 13)
    && d.lines.all fun l => fitsIn 1 l.denom && fitsIn 2 l.count

/-- The bytes of a REPORT body (R197). -/
def HeadReport.bodyLength (r : HeadReport) : Nat :=
  8 + (if r.token.isSome then 4 else 0) + (match r.declaration with | some d => 11 + 3 * d.lines.length | none => 0)

/-- A report that a valid frame can carry (R149, R197): the tray count is 0 to 3, the raw count is a
signed 24-bit number and the body is at most 60 bytes. -/
def HeadReport.wellFormed (r : HeadReport) : Bool :=
  decide (-8388608 ≤ r.raw ∧ r.raw ≤ 8388607) && decide (r.trayCount ≤ 3)
    && (match r.token with | some t => fitsIn 4 t | none => true)
    && (match r.declaration with | some d => d.wellFormed | none => true)
    && decide (r.bodyLength ≤ 60)

/-- An answer that a valid frame can carry (R149, R197). -/
def HeadAnswer.wellFormed (a : HeadAnswer) : Bool :=
  decide (1 ≤ a.depth ∧ a.depth ≤ 3) && decide (a.trayCount ≤ 3)

/-- Parameters that fit satisfy `ok`; parameters kept as bytes are bytes that the layout `widths`
does not fit, at most as many as a frame holds (R168). -/
def Params.wellFormed {α : Type} (widths : List Nat) (ok : α → Bool) : Params α → Bool
  | .fits a => ok a
  | .misfit bs => (splitFields widths bs).isNone && decide (bs.length ≤ 248)

/-- No parameters. -/
def Params.wellFormedNone (p : Params Unit) : Bool := p.wellFormed [] fun _ => true

/-- One unsigned parameter of `w` bytes. -/
def Params.wellFormedOne (w : Nat) (p : Params Nat) : Bool := p.wellFormed [w] (fitsIn w)

/-- Whether the lines can carry the command. -/
def Instr.wellFormed : Instr → Bool
  | .statusRead p => p.wellFormedNone
  | .hatchRead p => p.wellFormedOne 1
  | .countersRead p => p.wellFormedNone
  | .countersClear p => p.wellFormedNone
  | .alertClear p => p.wellFormedOne 4
  | .alertMask p => p.wellFormedOne 4
  | .noticeSet p => p.wellFormed [1, 2] fun a => fitsIn 1 a.count && fitsIn 2 a.time
  | .reset p => p.wellFormedNone
  | .setClock p => p.wellFormed [1, 3] fun a => fitsIn 1 a.weekday && fitsIn 3 a.seconds
  | .schedulePut p => p.wellFormed [1, 2, 2, 1] fun a =>
      fitsIn 1 a.window && fitsIn 2 a.start && fitsIn 2 a.stop && fitsIn 1 a.mask
  | .scheduleRead p => p.wellFormedNone
  | .intakeStart p => p.wellFormedNone
  | .intakeStop p => p.wellFormedNone
  | .depositorPut p => p.wellFormed [4, 4, 1, 1, 1, 1, 4] fun a =>
      fitsIn 4 a.token && fitsIn 4 a.reference && fitsIn 1 a.state && fitsIn 1 a.windowClass
        && fitsIn 1 a.homeBin && fitsIn 1 a.maxBags && fitsIn 4 a.maxValue
  | .depositorDrop p => p.wellFormedOne 4
  | .depositorState p => p.wellFormed [4, 1] fun a => fitsIn 4 a.token && fitsIn 1 a.state
  | .depositorRead p => p.wellFormedOne 4
  | .denomPut p => p.wellFormed [1, 1, 2, 2] fun a =>
      fitsIn 1 a.index && fitsIn 1 a.kind && fitsIn 2 a.face && fitsIn 2 a.mass
  | .tarePut p => p.wellFormed [1, 2] fun a => fitsIn 1 a.bagClass && fitsIn 2 a.tare
  | .toleranceSet p => p.wellFormed [2, 1] fun a => fitsIn 2 a.fixedPart && fitsIn 1 a.perMille
  | .massTablesRead p => p.wellFormedNone
  | .screenMode p => p.wellFormedOne 1
  | .screenRangeAdd p => p.wellFormed [5, 5] fun a => fitsIn 5 a.first && fitsIn 5 a.last
  | .screenRangeClear p => p.wellFormedNone
  | .screenRead p => p.wellFormedOne 1
  | .mapWindow p => p.wellFormed [2, 2] fun a => fitsIn 2 a.first && fitsIn 2 a.last
  | .mapWrite p =>
      match p with
      | .fits a => fitsIn 2 a.count && decide (a.bits.length ≤ 246)
      | .misfit bs => decide (bs.length < 2)
  | .mapRead p => p.wellFormedOne 2
  | .mapClear p => p.wellFormedNone
  | .coverSet p => p.wellFormedOne 4
  | .coverRead p => p.wellFormedNone
  | .journalRead p => p.wellFormed [4, 1] fun a => fitsIn 4 a.start && fitsIn 1 a.count
  | .journalResolve p => p.wellFormedOne 4
  | .journalRelease p => p.wellFormedNone
  | .binClear p => p.wellFormedOne 1
  | .binWithdraw p => p.wellFormedOne 1
  | .binRestore p => p.wellFormedOne 1
  | .binRead p => p.wellFormedOne 1
  | .carouselHome p => p.wellFormedNone
  | .hatchConfig p => p.wellFormed [1, 1, 1, 1, 1, 1, 1] fun a =>
      fitsIn 1 a.hatch && fitsIn 1 a.enable && fitsIn 1 a.printOffered && fitsIn 1 a.depth
        && fitsIn 1 a.divider && fitsIn 1 a.aux && fitsIn 1 a.autoPolarity
  | .hatchCalibrate p => p.wellFormed [1, 3, 2, 2] fun a =>
      fitsIn 1 a.hatch && decide (-8388608 ≤ a.zero ∧ a.zero ≤ 8388607) && fitsIn 2 a.span && fitsIn 2 a.band
  | .hatchRelink p => p.wellFormedOne 1
  | .hatchShow p => p.wellFormed [1, 1] fun a => fitsIn 1 a.hatch && fitsIn 1 a.code
  | .hatchClear p => p.wellFormedOne 1
  | .storeTables p => p.wellFormedNone
  | .storeTablesDone => true
  | .loadTables p => p.wellFormedNone
  | .unknownCommand body =>
      match body with
      | [] => true
      | c :: ps => !(commandCodes.contains c.toNat) && decide (ps.length ≤ 248)
  | .officeBadFrame _ => true
  | .officeGapTimeout => true
  | .transmitEnd => true
  | .mitigationTimer => true
  | .poll _ _ => true
  | .miss _ => true
  | .holdOffExpiry _ _ => true
  | .offer _ _ => true
  | .answer _ _ a => a.wellFormed
  | .report _ _ r => r.wellFormed
  | .hatchBadFrame _ => true
  | .complementedFrame _ f =>
      match f with
      | .report r => r.wellFormed
      | .answer a => a.wellFormed
  | .jabber _ => true
  | .surroundOpening _ _ => true
  | .declTimeout _ => true
  | .openTimeout _ => true
  | .weighingTimeout _ => true
  | .tippingTimeout _ => true
  | .clockAdvance => true
  | .atPosition _ => true
  | .home => true
  | .dropPulse => true
  | .doorOpens => true
  | .doorCloses => true
  | .homingTimeout => true
  | .moveTimeout => true
  | .deliveryTimeout => true
  | .powerFail _ => true
  | .resetInput _ => true
  | .startUp a => decide (1 ≤ a.hatches ∧ a.hatches ≤ 4) && a.during.all fun e => decide (1 ≤ e.1 ∧ e.1 ≤ 6)

end Sys2Proof
end

