-- ==== Sys2Proof/Certificates/Slice0/Obligations.lean ====
section
/-! DEFINITION. The statements for the provers. Each docstring is its title; OBLIGATIONS.json says which rules
each rests on. -/

open Sys2Proof Sys2Proof.Machine

/-- A step takes the command at the front of the queue and runs exec on the rest of it.
The idle step is the model's choice (log entries 1 and 3). -/
def Obligations.StepRunsTheFrontCommand : Prop :=
  (∀ (c : Instr) (rest : List Instr) (s : State),
      step { s with pending := c :: rest } = exec c { s with pending := rest })
    ∧ ∀ s : State, step { s with pending := [] } = .next { s with pending := [], now := s.now + 1 }

/-- Every command answers a next state and leaves the queue; only the power commands touch the pins and straps. -/
def Obligations.EveryCommandAnswersAndLeavesTheQueue : Prop :=
  ∀ (c : Instr) (s : State), ∃ t, exec c s = .next t ∧ t.pending = s.pending
    ∧ match c with
      | .powerFail _ | .resetInput _ | .startUp _ => True
      | _ => t.mainsGood = s.mainsGood ∧ t.resetReleased = s.resetReleased ∧ t.straps = s.straps

/-- While the controller does not run, no event is taken but the power lines, the clock and two input levels.
That the two input levels follow is the model's reading (log entry 18). -/
def Obligations.NothingIsTakenWithoutPower : Prop :=
  ∀ (c : Instr) (s : State), s.running = false →
    match c with
    | .powerFail _ | .resetInput _ | .startUp _ => True
    | .clockAdvance =>
      exec c s =
        match s.intake.clock with
        | none => .next s
        | some t =>
          .next { s with
            now := max s.now s.intake.nextSecond
            intake := { s.intake with clock := some (nextTime t), nextSecond := s.intake.nextSecond + 1000 } }
    | .surroundOpening h b =>
      exec c s = .next { s with ports := s.ports.set h { s.ports.get h with contactOpen := b } }
    | .doorOpens => exec c s = .next { s with store := { s.store with doorOpen := true } }
    | .doorCloses => exec c s = .next { s with store := { s.store with doorOpen := false } }
    | _ => exec c s = .next s

/-- Every step keeps the shared accounts sound: holds equal to what the four transactions own, and S + H within C. -/
def Obligations.EveryStepKeepsTheAccountsSound : Prop :=
  ∀ s t : State, s.Sound → step s = .next t → t.Sound

/-- The machine after reset: nothing is known, nothing is held, and its invariants hold.
Which start-up reset stands for is the model's choice (log entry 2). -/
def Obligations.ResetStateHolds : Prop :=
  State.reset.Sound ∧ State.reset.JournalFits ∧ State.reset.mapAccess.Inside ∧ State.reset.NothingWaits
    ∧ State.reset.tables = Tables.defaults ∧ State.reset.journal.entries = [] ∧ State.reset.journal.next = 1
    ∧ State.reset.journal.last = 0 ∧ State.reset.journal.epoch = 1
    ∧ (∀ b, State.reset.bin b = ⟨.unknown, [], 0, 0, 0⟩) ∧ State.reset.cover.committed = 0
    ∧ State.reset.cover.held = 0 ∧ State.reset.intake.clock = none ∧ State.reset.intake.enable = false
    ∧ State.reset.intake.state = .stopped ∧ (∀ h, State.reset.drop h = .offline)
    ∧ State.reset.store.carousel = .homing 40000 ∧ State.reset.store.lastGranted = .h4
    ∧ State.reset.latched .powerRestart = true ∧ State.reset.latched .retainedLost = true
    ∧ State.reset.latched .tableStoreBad = true

/-- Every step keeps the journal entries and the slot holds within the 512 places of the ring. -/
def Obligations.EveryStepKeepsTheJournalWithinItsPlaces : Prop :=
  ∀ s t : State, s.Sound → s.JournalFits → step s = .next t → t.JournalFits

/-- Every step leaves no frame waiting while the transmitter is free. -/
def Obligations.EveryStepLeavesNothingWaitingForAFreeTransmitter : Prop :=
  ∀ s t : State, s.NothingWaits → step s = .next t → t.NothingWaits

/-- Every step keeps the map pointer inside the access window, and the window inside the map. -/
def Obligations.EveryStepKeepsTheMapPointerInside : Prop :=
  ∀ s t : State, s.mapAccess.Inside → step s = .next t → t.mapAccess.Inside

/-- Decode of encode: the body of every well-formed request spells that request. -/
def Obligations.RequestBodiesReadBack : Prop :=
  ∀ (i : Instr) (body : List Byte), i.wellFormed = true → encodeRequest i = some body → decodeRequest body = i

/-- Bodies of heads read back, and whole frames on either line become their commands. -/
def Obligations.HeadBodiesAndFramesReadBack : Prop :=
  ((∀ r : HeadReport, r.wellFormed = true → readReport (Out.report r) = some r)
      ∧ ∀ a : HeadAnswer, a.wellFormed = true → readAnswer (Out.answer a) = some a)
    ∧ ((∀ body : List Byte, body.length ≤ 249 →
        officeReceive (officeFrame requestKind body).length (officeFrame requestKind body) = ([decodeRequest body], []))
      ∧ (∀ (h : Hatch) (r : HeadReport), r.wellFormed = true →
          hatchReceive h (hatchFrame reportKind (Out.report r)).length (hatchFrame reportKind (Out.report r))
            = ([.report h false r], []))
      ∧ (∀ (h : Hatch) (r : HeadReport), r.wellFormed = true →
          hatchReceive h (hatchFrame reportKind (Out.report r)).length
              ((hatchFrame reportKind (Out.report r)).map fun b => ~~~b)
            = ([.complementedFrame h (.report r)], []))
      ∧ ∀ (h : Hatch) (len : Byte) (bs : List Byte), 61 < len.toNat → bs.length = 63 →
          hatchReceive h 65 (hatchStart :: len :: bs) = ([.jabber h], []))
    ∧ ((∀ (h : Hatch) (a : HeadAnswer), a.wellFormed = true →
        let frame := hatchFrame answerKind (Out.answer a)
        hatchReceive h frame.length frame = ([.answer h false a], [])
        ∧ hatchReceive h frame.length (frame.map fun b => ~~~b) = ([.complementedFrame h (.answer a)], []))
      ∧ (∀ (h : Hatch) (kind check : Byte) (body : List Byte), body.length ≤ 60 →
          check ≠ crc8 (covered kind body) ∨ kind ≠ reportKind ∧ kind ≠ answerKind
            ∨ kind = reportKind ∧ readReport body = none ∨ kind = answerKind ∧ readAnswer body = none →
          let frame := hatchStart :: (covered kind body ++ [check])
          hatchReceive h frame.length frame = ([.hatchBadFrame h], [])
          ∧ hatchReceive h frame.length (frame.map fun b => ~~~b) = ([.hatchBadFrame h], []))
      ∧ (∀ (kind c1 c0 : Byte) (body : List Byte), body.length ≤ 249 →
          let frame := officeStart :: (covered kind body ++ [c1, c0])
          let agrees := [c1, c0] = bytesOf 2 (crc16 (covered kind body)).toNat
          (¬agrees → officeReceive frame.length frame = ([.officeBadFrame .badCheck], []))
          ∧ (agrees → kind ≠ requestKind → officeReceive frame.length frame = ([.officeBadFrame .notRequest], [])))
      ∧ ∀ (p : Port) (h : Hatch) (r : HeadReport), r.wellFormed = true →
          let frame := hatchFrame reportKind (Out.report r)
          let complemented := frame.map fun b => ~~~b
          p.receive h (if p.inverted then complemented else frame) = ([.report h false r], [])
          ∧ p.receive h (if p.inverted then frame else complemented) = ([.complementedFrame h (.report r)], []))

/-- A request that arrives while the hand is occupied is answered BUSY and changes nothing else. -/
def Obligations.RequestWhileTheHandIsOccupiedIsBusy : Prop :=
  ∀ (i : Instr) (body : List Byte) (s : State), encodeRequest i = some body → s.Settled → s.office.hand ≠ none →
    exec i s = .next { s with
      office :=
        match s.office.transmitter with
        | none => { s.office with transmitter := some (.reply ⟨codeOf body, .busy, []⟩) }
        | some _ =>
          { s.office with
            replies := (s.office.replies.filter fun r => !r.isBusy) ++ [.busy ⟨codeOf body, .busy, []⟩] } }

/-- A request whose body fits no layout is answered BAD_LENGTH, and a code that names no command UNKNOWN_COMMAND.
That the hand is held until such a reply begins transmission, also while the transmitter is busy, is the model's
reading (log entry 33). -/
def Obligations.RequestThatFitsNoLayoutIsRefused : Prop :=
  (∀ (i : Instr) (body : List Byte) (s : State), encodeRequest i = some body → i.misfits = true → s.Ready →
      exec i s = .next (s.answered (codeOf body) .badLength []))
    ∧ (∀ s : State, s.Ready → exec (.unknownCommand []) s = .next (s.answered 0 .badLength []))
    ∧ ∀ (c : Byte) (ps : List Byte) (s : State), s.Ready →
        exec (.unknownCommand (c :: ps)) s = .next (s.answered c.toNat .unknownCommand [])

/-- The reading requests answer OK with their data, or their refusal, and change nothing.
Where the spec does not settle the bytes of an item, the data is the model's (log entries 9, 10, 30, 31 and 34). -/
def Obligations.ReadsAnswerAndChangeNothing : Prop :=
  ∀ s : State, s.Ready →
    exec (.statusRead (.fits ())) s = .next (s.answered 0x01 .ok s.statusData)
    ∧ exec (.countersRead (.fits ())) s = .next (s.answered 0x03 .ok s.counterData)
    ∧ exec (.scheduleRead (.fits ())) s = .next (s.answered 0x12 .ok s.scheduleData)
    ∧ exec (.massTablesRead (.fits ())) s = .next (s.answered 0x2B .ok s.massData)
    ∧ exec (.coverRead (.fits ())) s = .next (s.answered 0x41 .ok s.coverData)
    ∧ (∀ h : Hatch, exec (.hatchRead (.fits h.num)) s = .next (s.answered 0x02 .ok (s.hatchData h)))
    ∧ (∀ n, n = 0 ∨ 4 < n → exec (.hatchRead (.fits n)) s = .next (s.answered 0x02 .range []))
    ∧ (∀ n, exec (.screenRead (.fits n)) s = .next
        (if 31 < n then s.answered 0x33 .range []
          else
            s.answered 0x33 .ok
              (Out.u8 s.tables.screenMode.code ++ Out.u8 s.tables.ranges.length
                ++ Out.list Out.range ((s.tables.ranges.drop n).take 16))))
    ∧ (∀ b : BinNo, exec (.binRead (.fits b.val)) s = .next (s.answered 0x53 .ok (s.binData b)))
    ∧ (∀ n, 30 ≤ n → exec (.binRead (.fits n)) s = .next (s.answered 0x53 .range []))
    ∧ (∀ a : JournalReadArgs, exec (.journalRead (.fits a)) s = .next
        (if 1 ≤ a.count ∧ a.count ≤ 4 then s.answered 0x48 .ok (s.journalData (s.entriesFrom a.start a.count))
          else s.answered 0x48 .range []))
    ∧ ∀ n, exec (.depositorRead (.fits n)) s = .next
        (if n = 0 then s.answered 0x23 .range []
          else
            match s.lookup n with
            | none => s.answered 0x23 .notFound []
            | some x => s.answered 0x23 .ok (s.depositorData x.1 x.2))

/-- COUNTERS_CLEAR returns and clears the counters, ALERT_CLEAR and ALERT_MASK act on their sets, a bad office frame counts. -/
def Obligations.CountersAndAlerts : Prop :=
  ((∀ s : State, s.Ready → exec (.countersClear (.fits ())) s = .next
        { s with
          office :=
            Office.answered
              { s.office with
                refusals := Tab.fill 18 0, cancels := Tab.fill 5 0, badFrames := 0, unexpectedDrops := 0 }
              0x04 .ok s.counterData
          ports :=
            ⟨{ s.ports.h1 with badFrames := 0, missCount := 0 }, { s.ports.h2 with badFrames := 0, missCount := 0 },
              { s.ports.h3 with badFrames := 0, missCount := 0 }, { s.ports.h4 with badFrames := 0, missCount := 0 }⟩ })
      ∧ ∀ s : State, s.Settled →
          (∀ why, exec (.officeBadFrame why) s
            = .next { s with office := { s.office with badFrames := min (s.office.badFrames + 1) 65535 } })
          ∧ exec .officeGapTimeout s
            = .next { s with office := { s.office with badFrames := min (s.office.badFrames + 1) 65535 } })
    ∧ (∀ (s : State) (v : Nat), s.Ready →
      exec (.alertClear (.fits v)) s = .next
          (if v < 2 ^ 21 then
            { s with
              office :=
                Office.answered { s.office with flags := s.office.flags &&& ~~~BitVec.ofNat 21 v } 0x05 .ok
                  (bytesOf 4 (s.office.flags &&& ~~~BitVec.ofNat 21 v).toNat) }
          else s.answered 0x05 .range [])
      ∧ exec (.alertMask (.fits v)) s = .next
          (if v < 2 ^ 21 then
            State.answered { s with tables := { s.tables with alertMask := BitVec.ofNat 21 v } } 0x06 .ok []
          else s.answered 0x06 .range []))

/-- NOTICE_SET sets N and T_n and applies them at once to the timer and the count that stand.
A deadline at the present moment counts as passed: the model's choice (log entry 19). -/
def Obligations.NoticeSetAppliesItsSettings : Prop :=
  ∀ (s : State) (a : NoticeArgs), s.Ready →
    exec (.noticeSet (.fits a)) s = .next
      (if a.count ≤ 15 ∧ a.time ≤ 255 then
        let passed : Bool :=
          match s.office.timer with
          | some t => decide (a.time ≠ 0 ∧ t.started + a.time * 1000 ≤ s.now)
          | none => false
        let timer : Option Timer :=
          match s.office.timer with
          | some t => if a.time = 0 ∨ passed = true then none else some ⟨t.started, t.started + a.time * 1000⟩
          | none => none
        let n1 : Option Causes := if passed then some (s.office.notice.getD 0 ||| Cause.timer.bit) else s.office.notice
        let n2 : Option Causes :=
          if a.count ≠ 0 ∧ a.count ≤ s.office.count then some (n1.getD 0 ||| Cause.commits.bit) else n1
        State.answered
          { s with
            tables := { s.tables with noticeCount := a.count, noticeTime := a.time }
            office := { s.office with timer := timer, notice := n2 } }
          0x07 .ok []
      else s.answered 0x07 .range [])

/-- As a transmission ends, the first waiting reply begins, else the pending notice with its content taken then.
That an event not in force has no effect is the model's reading (log entry 8). -/
def Obligations.TransmitEndBeginsTheNextFrame : Prop :=
  (∀ (s : State) (f : OfficeFrame), s.running = true → s.office.transmitter = some f →
      s.office.hand ≠ some .resetSending →
      exec .transmitEnd s = .next { s with
        office :=
          match s.office.replies, s.office.notice with
          | .own r :: rest, _ =>
            { s.office with
              transmitter := some (.reply r)
              replies := rest
              hand :=
                match s.office.hand with
                | some .replying => none
                | some .resetWaiting => some .resetSending
                | other => other }
          | .busy r :: rest, _ => { s.office with transmitter := some (.reply r), replies := rest }
          | [], some c =>
            { s.office with
              transmitter := some (.notice
                { causes := c, last := s.journal.last, epoch := s.journal.epoch
                  present := s.journal.entries.length, committed := s.cover.committed, held := s.cover.held
                  limit := s.tables.limit, intake := s.intake.state, carousel := s.store.carousel
                  flags := s.office.flags, clock := s.intake.clock })
              notice := none
              count := 0
              timer := none }
          | [], none => { s.office with transmitter := none } })
    ∧ ∀ s : State, s.Settled → s.office.transmitter = none → exec .transmitEnd s = .next s

/-- A commit raises the mitigation count and starts the timer; the count, the timer and N = T_n = 0 trigger notices.
That an event not in force has no effect is the model's reading (log entry 8). -/
def Obligations.CommitsAndTheirTimerMakeNotices : Prop :=
  (∀ s : State, s.noteCommit = { s with
      office :=
        { s.office with
          count := min (s.office.count + 1) 65535
          timer :=
            if s.office.timer = none ∧ s.tables.noticeTime ≠ 0 then
              some ⟨s.now, s.now + s.tables.noticeTime * 1000⟩
            else s.office.timer
          notice :=
            if s.tables.noticeCount ≠ 0 ∧ s.tables.noticeCount ≤ min (s.office.count + 1) 65535 then
              some (s.office.notice.getD 0 ||| Cause.commits.bit)
            else if s.tables.noticeCount = 0 ∧ s.tables.noticeTime = 0 then
              some (s.office.notice.getD 0 ||| Cause.every.bit)
            else s.office.notice } })
    ∧ (∀ (s : State) (t : Timer) (f : OfficeFrame), s.running = true → s.office.timer = some t →
        s.office.transmitter = some f →
        exec .mitigationTimer s = .next { s with
          now := max s.now t.deadline
          office := { s.office with timer := none, notice := some (s.office.notice.getD 0 ||| Cause.timer.bit) } })
    ∧ (∀ (s : State) (t : Timer), s.Settled → s.office.timer = some t → s.office.transmitter = none →
        exec .mitigationTimer s = .next { s with
          now := max s.now t.deadline
          office :=
            { s.office with
              timer := none
              count := 0
              transmitter := some (.notice (s.noticeContent Cause.timer.bit)) } })
    ∧ ∀ s : State, s.Settled → s.office.timer = none → exec .mitigationTimer s = .next s

/-- A raised flag latches once and triggers by its class unless masked; a near mark raises its flag at each rise. -/
def Obligations.RaisedFlagsAndNearMarks : Prop :=
  (∀ (s : State) (f : Flag), s.raise f =
      if s.office.flags.getLsbD f.position then s
      else
        { s with
          office :=
            { s.office with
              flags := s.office.flags ||| BitVec.ofNat 21 (2 ^ f.position)
              notice :=
                if s.tables.alertMask.getLsbD f.position then s.office.notice
                else if f.position < 8 then some (s.office.notice.getD 0 ||| Cause.attention.bit)
                else some (s.office.notice.getD 0 ||| Cause.alarm.bit) } })
    ∧ (∀ s : State, s.evalCover =
        let rise := decide (9 * s.tables.limit ≤ 10 * (s.cover.committed + s.cover.held))
        let s1 : State := { s with cover := { s.cover with near := rise } }
        if rise = true ∧ s.cover.near = false then s1.raise .coverNear else s1)
    ∧ (∀ s : State, s.evalJournal =
        let rise := decide (448 ≤ s.journal.entries.length)
        let s1 : State := { s with journal := { s.journal with near := rise } }
        if rise = true ∧ s.journal.near = false then s1.raise .journalNearFull else s1)
    ∧ ∀ s : State, s.evalStore =
        let rise := decide (s.storeRoom ≤ 6)
        let s1 : State := { s with store := { s.store with near := rise } }
        if rise = true ∧ s.store.near = false then s1.raise .storeNearFull else s1

/-- After RESET's reply every transaction has ended, every link restarts, the carousel homes, and the tables stand. -/
def Obligations.ResetStepsRestartTheOperation : Prop :=
  ∀ (s : State) (f : OfficeFrame), s.Sound → s.running = true → s.office.hand = some .resetSending →
    s.office.transmitter = some f →
    ∃ t, exec .transmitEnd s = .next t
      ∧ t.office.hand = none ∧ t.office.replies = [] ∧ t.office.count = 0 ∧ t.office.timer = none
      ∧ t.office.badFrames = 0 ∧ t.office.unexpectedDrops = 0
      ∧ t.intake = { s.intake with enable := false, state := .stopped }
      ∧ (∀ h, t.drop h = .offline
          ∧ (t.port h).link = (if (s.port h).link = .disabled then .disabled else .holdOff (s.now + 1500))
          ∧ (t.port h).caps = noCaps ∧ (t.port h).depth = (s.config h).depth ∧ (t.port h).receiptMode = .display
          ∧ (t.port h).release = none ∧ (t.port h).zeroArmed = false ∧ (t.port h).surroundLatch = false
          ∧ (t.port h).badFrames = 0 ∧ (t.port h).missCount = 0
          ∧ (t.port h).inverted = (s.port h).inverted ∧ (t.port h).contactOpen = (s.port h).contactOpen
          ∧ (t.port h).faultFlag = ((s.port h).faultFlag || decide ((s.drop h).code = 4 ∨ (s.drop h).code = 5)))
      ∧ t.cover.held = 0 ∧ t.cover.committed = s.cover.committed
      ∧ t.journal.slotHolds = 0 ∧ t.journal.next = s.journal.next ∧ t.journal.last = s.journal.last
      ∧ t.journal.epoch = s.journal.epoch ∧ t.journal.entries.length = s.journal.entries.length
      ∧ t.store.holds = 0 ∧ t.store.lastGranted = .h4 ∧ t.store.position = none
      ∧ t.store.carousel = (if s.store.doorOpen then .haltedHoming else .homing (s.now + 40000))
      ∧ t.store.queues = s.store.queues ∧ t.mapAccess = ⟨0, 1020, 0⟩
      ∧ t.tables = s.tables ∧ t.tableStore = s.tableStore ∧ t.counts = s.counts ∧ t.straps = s.straps
      ∧ t.now = s.now

/-- SET_CLOCK sets the clock at once, CLOCK_ADVANCE moves it one second, and both evaluate window 0 and intake.
The time base that an advance moves is the model's (log entry 3). -/
def Obligations.ClockRequestsAndAdvances : Prop :=
  (∀ (s : State) (a : ClockArgs), s.Ready →
      exec (.setClock (.fits a)) s = .next
        (if h : a.weekday < 7 ∧ a.seconds < 86400 then
          State.answered
            (State.evalTime
              { s with
                intake :=
                  { s.intake with
                    clock := some ⟨⟨a.weekday, h.1⟩, ⟨a.seconds, h.2⟩⟩, nextSecond := s.now + 1000 } })
            0x10 .ok []
        else s.answered 0x10 .range []))
    ∧ (∀ (s : State) (t : ClockTime), s.running = true → s.intake.clock = some t →
        exec .clockAdvance s = .next (State.pump (State.evalTime
          { s with
            now := max s.now s.intake.nextSecond
            intake := { s.intake with clock := some (nextTime t), nextSecond := s.intake.nextSecond + 1000 } })))
    ∧ (∀ s : State, s.intake.clock = none → exec .clockAdvance s = .next s)
    ∧ ∀ t : ClockTime, (nextTime t).day.val * 86400 + (nextTime t).sec.val
        = (t.day.val * 86400 + t.sec.val + 1) % 604800

/-- SCHEDULE_PUT writes one window and evaluates window 0 when it is that one; each rise of window 0 rolls the night over. -/
def Obligations.SchedulePutAndRollover : Prop :=
  (∀ (s : State) (a : ScheduleArgs), s.Ready →
      exec (.schedulePut (.fits a)) s = .next
        (if h : a.window < 8 ∧ a.start ≤ 1439 ∧ a.stop ≤ 1439 ∧ a.mask ≤ 127 then
          let s1 : State :=
            { s with
              tables :=
                { s.tables with
                  windows := s.tables.windows.put ⟨a.window, h.1⟩ ⟨a.start, a.stop, BitVec.ofNat 7 a.mask⟩ } }
          (if a.window = 0 then s1.evalTime else s1).answered 0x11 .ok []
        else s.answered 0x11 .range []))
    ∧ (∀ s : State,
      ∃ c, s.evalWindow = { s with intake := { s.intake with windowMark := s.inWindow 0 }, counts := c }
        ∧ (s.inWindow 0 = true ∧ s.intake.windowMark = false → ∀ i, c.get i = ⟨0, 0, (s.counts.get i).token⟩)
        ∧ (¬(s.inWindow 0 = true ∧ s.intake.windowMark = false) → c = s.counts))

/-- A schedule window contains an instant by the two cases of start and end; none does while the clock is UNSET. -/
def Obligations.WindowContainsAnInstant : Prop :=
  (∀ (w : Window) (t : ClockTime), w.start < w.stop →
      (w.contains t = true
        ↔ w.mask.getLsbD t.day.val = true ∧ w.start * 60 ≤ t.sec.val ∧ t.sec.val < w.stop * 60))
    ∧ (∀ (w : Window) (t : ClockTime), w.stop ≤ w.start →
        (w.contains t = true
          ↔ w.mask.getLsbD t.day.val = true ∧ w.start * 60 ≤ t.sec.val
            ∨ w.mask.getLsbD (t.day - 1).val = true ∧ t.sec.val < w.stop * 60))
    ∧ (∀ (w : Window) (t : ClockTime), w.mask = 0 → w.contains t = false)
    ∧ (∀ (s : State) (w : Fin 8) (t : ClockTime), s.intake.clock = some t →
        s.inWindow w = (s.tables.windows.get w).contains t)
    ∧ ∀ (s : State) (w : Fin 8), s.intake.clock = none → s.inWindow w = false

/-- The intake state follows the enable, window 0, the rooms and the drops in flight; leaving intake cancels what waits. -/
def Obligations.IntakeFollowsItsInputs : Prop :=
  (∀ s : State,
      let new : IntakeState :=
        if s.intake.enable = false then if Hatch.all.any (fun h => (s.drop h).inFlight) then .stopping else .stopped
        else if s.inWindow 0 = false then .closed
        else if 512 - s.journal.entries.length - s.journal.slotHolds = 0 ∨ s.freePlaces - s.store.holds = 0 then
          .suspended
        else .running
      s.evalIntake.intake = { s.intake with state := new }
        ∧ (new = s.intake.state → s.evalIntake = s)
        ∧ (new ≠ s.intake.state → s.evalIntake.office.notice = some (s.office.notice.getD 0 ||| Cause.intake.bit))
        ∧ s.evalIntake.tables = s.tables ∧ s.evalIntake.cover = s.cover ∧ s.evalIntake.journal = s.journal
        ∧ s.evalIntake.store = s.store ∧ s.evalIntake.counts = s.counts
        ∧ s.evalIntake.office.flags = s.office.flags)
    ∧ (∀ s : State, s.intakeTarget ≠ s.intake.state →
      (State.leavesIntake s.intake.state s.intakeTarget = true →
        (∀ h, s.evalIntake.port h =
            if (s.drop h).code = 2 then { s.port h with drop := .idle, showDue := some 28 } else s.port h)
        ∧ let waiting := (Hatch.all.filter fun h => decide ((s.drop h).code = 2)).length
          s.evalIntake.office.cancels
            = if waiting = 0 then s.office.cancels
              else s.office.cancels.put 4 (min (s.office.cancels.get 4 + waiting) 65535))
      ∧ (State.leavesIntake s.intake.state s.intakeTarget = false →
          s.evalIntake.ports = s.ports ∧ s.evalIntake.office.cancels = s.office.cancels)
      ∧ (State.leavesIntake s.intake.state s.intakeTarget = true
          ↔ (s.intake.state = .running ∨ s.intake.state = .suspended)
            ∧ (s.intakeTarget = .closed ∨ s.intakeTarget = .stopping ∨ s.intakeTarget = .stopped)))

/-- INTAKE_START sets the enable and INTAKE_STOP clears it; each evaluates the state and its reply carries it. -/
def Obligations.IntakeStartAndStop : Prop :=
  ∀ s : State, s.Ready →
    (s.intake.enable = true →
      exec (.intakeStart (.fits ())) s = .next (s.answered 0x13 .ok (bytesOf 1 s.intake.state.code)))
    ∧ (s.intake.enable = false →
        let t : State := State.evalIntake { s with intake := { s.intake with enable := true } }
        exec (.intakeStart (.fits ())) s = .next (t.answered 0x13 .ok (bytesOf 1 t.intake.state.code)))
    ∧ (s.intake.enable = false →
        exec (.intakeStop (.fits ())) s = .next (s.answered 0x14 .ok (bytesOf 1 s.intake.state.code)))
    ∧ (s.intake.enable = true →
        let t : State := State.evalIntake { s with intake := { s.intake with enable := false } }
        exec (.intakeStop (.fits ())) s = .next (t.answered 0x14 .ok (bytesOf 1 t.intake.state.code)))

/-- A lookup finds the first way of the token's bucket that carries it, and nothing only where none does. -/
def Obligations.LookupTakesTheFirstWayOfTheBucket : Prop :=
  ∀ (s : State) (token : Nat),
    (∀ slot e, s.lookup token = some (slot, e) →
        slot.val / 4 = token % 128 ∧ s.tables.depositors.get slot = some e ∧ e.token = token
        ∧ ∀ (other : Slot) (x : DepositorEntry), other.val / 4 = token % 128 → other.val < slot.val →
            s.tables.depositors.get other = some x → x.token ≠ token)
    ∧ (s.lookup token = none ↔ ∀ (other : Slot) (x : DepositorEntry), other.val / 4 = token % 128 →
        s.tables.depositors.get other = some x → x.token ≠ token)

/-- DEPOSITOR_PUT enrols or rewrites, DEPOSITOR_DROP frees, DEPOSITOR_STATE sets the state of one enrolment. -/
def Obligations.DepositorRequests : Prop :=
  ((∀ a : DepositorArgs, depositorOf? a =
        if 1 ≤ a.token ∧ a.token ≤ 4294967295 ∧ a.reference ≤ 99999999 ∧ a.state ≤ 1 ∧ a.windowClass ≤ 7 ∧ a.homeBin ≤ 29
            ∧ 1 ≤ a.maxBags ∧ a.maxBags ≤ 15 ∧ 1 ≤ a.maxValue ∧ a.maxValue ≤ 99999999 then
          some ⟨a.token, a.reference, if a.state = 0 then .active else .suspended, a.windowClass, a.homeBin,
            a.maxBags, a.maxValue⟩
        else none)
      ∧ (∀ (s : State) (token : Nat),
          (∀ slot, s.freeSlot token = some slot →
            slot.val / 4 = token % 128 ∧ s.tables.depositors.get slot = none
            ∧ ∀ other : Slot, other.val / 4 = token % 128 → other.val < slot.val →
                s.tables.depositors.get other ≠ none)
          ∧ (s.freeSlot token = none ↔
              ∀ other : Slot, other.val / 4 = token % 128 → s.tables.depositors.get other ≠ none))
      ∧ ∀ (s : State) (a : DepositorArgs), s.Ready →
          exec (.depositorPut (.fits a)) s = .next
            (match depositorOf? a with
            | none => s.answered 0x20 .range []
            | some e =>
              match s.lookup e.token, s.freeSlot e.token with
              | some x, _ =>
                State.answered
                  { s with tables := { s.tables with depositors := s.tables.depositors.put x.1 (some e) } }
                  0x20 .ok (bytesOf 2 x.1.val)
              | none, some slot =>
                State.answered
                  { s with
                    tables := { s.tables with depositors := s.tables.depositors.put slot (some e) }
                    counts := s.counts.put slot ⟨0, 0, some e.token⟩ }
                  0x20 .ok (bytesOf 2 slot.val)
              | none, none => s.answered 0x20 .full []))
    ∧ (∀ s : State, s.Ready →
      (∀ token, exec (.depositorDrop (.fits token)) s = .next
        (if token = 0 then s.answered 0x21 .range []
        else
          match s.lookup token with
          | none => s.answered 0x21 .notFound []
          | some x =>
            State.answered
              { s with
                tables := { s.tables with depositors := s.tables.depositors.put x.1 none }
                counts := s.counts.put x.1 ⟨0, 0, none⟩ }
              0x21 .ok (bytesOf 2 x.1.val)))
      ∧ ∀ a : DepositorStateArgs, exec (.depositorState (.fits a)) s = .next
          (if a.token = 0 ∨ 1 < a.state then s.answered 0x22 .range []
          else
            match s.lookup a.token with
            | none => s.answered 0x22 .notFound []
            | some x =>
              State.answered
                { s with
                  tables :=
                    { s.tables with
                      depositors :=
                        s.tables.depositors.put x.1
                          (some { x.2 with state := if a.state = 0 then .active else .suspended }) } }
                0x22 .ok []))

/-- DENOM_PUT and TARE_PUT write one entry each in range and refuse any other with RANGE.
That a denomination entry is sent without its index is the model's reading (log entry 34). -/
def Obligations.MassTableWrites : Prop :=
  (∀ (s : State) (a : DenomArgs), s.Ready →
      exec (.denomPut (.fits a)) s = .next
        (if h : a.index ≤ 15
            ∧ (a.kind = 2
              ∨ a.kind ≤ 1 ∧ 1 ≤ a.face ∧ a.face ≤ 50000 ∧ 1 ≤ a.mass ∧ a.mass ≤ 20000) then
          State.answered
            { s with
              tables :=
                { s.tables with
                  denoms :=
                    s.tables.denoms.put ⟨a.index, by omega⟩
                      (if a.kind = 0 then .note a.face a.mass else if a.kind = 1 then .coin a.face a.mass else .void) } }
            0x28 .ok []
        else s.answered 0x28 .range [])
      ∧ Denom.void.face = 0 ∧ Denom.void.mass = 0 ∧ Out.denom .void = [2, 0, 0, 0, 0])
    ∧ (∀ (s : State) (a : TareArgs), s.Ready →
      exec (.tarePut (.fits a)) s = .next
        (if h : a.bagClass ≤ 3 ∧ a.tare ≤ 255 then
          State.answered
            { s with tables := { s.tables with tares := s.tables.tares.put ⟨a.bagClass, by omega⟩ a.tare } } 0x29 .ok []
        else s.answered 0x29 .range []))

/-- SCREEN_MODE sets the mode, SCREEN_RANGE_ADD appends a range while there is room, SCREEN_RANGE_CLEAR empties the list. -/
def Obligations.ScreenListRequests : Prop :=
  (∀ s : State, s.Ready →
      (∀ m : ScreenMode, exec (.screenMode (.fits m.code)) s
        = .next (State.answered { s with tables := { s.tables with screenMode := m } } 0x30 .ok []))
      ∧ (∀ n, 2 < n → exec (.screenMode (.fits n)) s = .next (s.answered 0x30 .range []))
      ∧ exec (.screenRangeClear (.fits ())) s
        = .next (State.answered { s with tables := { s.tables with ranges := [] } } 0x32 .ok []))
    ∧ (∀ (s : State) (a : RangeArgs), s.Ready →
      exec (.screenRangeAdd (.fits a)) s = .next
        (if 9999999999 < a.first ∨ 9999999999 < a.last ∨ a.last < a.first then s.answered 0x31 .range []
        else if 32 ≤ s.tables.ranges.length then s.answered 0x31 .full []
        else
          State.answered
            { s with tables := { s.tables with ranges := s.tables.ranges ++ [⟨a.first, a.last⟩] } }
            0x31 .ok (bytesOf 1 (s.tables.ranges.length + 1))))

/-- TOLERANCE_SET takes F and P in range; COVER_SET takes a limit, or clamps it to S + H. -/
def Obligations.ToleranceSetAndCoverSet : Prop :=
  ∀ s : State, s.Ready →
    (∀ a : ToleranceArgs, exec (.toleranceSet (.fits a)) s = .next
      (if a.fixedPart ≤ 255 ∧ a.perMille ≤ 100 then
        State.answered { s with tables := { s.tables with fixedPart := a.fixedPart, perMille := a.perMille } } 0x2A .ok []
      else s.answered 0x2A .range []))
    ∧ ∀ v, exec (.coverSet (.fits v)) s = .next
        (if 4000000000 < v then s.answered 0x40 .range []
        else
          let sum := s.cover.committed + s.cover.held
          State.answered (State.evalCover { s with tables := { s.tables with limit := max v sum } }) 0x40
            (if sum ≤ v then .ok else .clamped)
            (bytesOf 4 (max v sum) ++ bytesOf 4 s.cover.committed ++ bytesOf 4 s.cover.held))

/-- MAP_WINDOW and MAP_CLEAR act on window and map; MAP_WRITE and MAP_READ pass their bits from the pointer.
That the hand is held until a BAD_LENGTH reply begins transmission is the model's reading (log entry 33). -/
def Obligations.MapRequests : Prop :=
  ∀ s : State, s.Ready →
    (∀ a : RangeArgs, exec (.mapWindow (.fits a)) s = .next
      (if a.first ≤ a.last ∧ a.last ≤ 1020 then
        State.answered { s with mapAccess := ⟨a.first, a.last, a.first⟩ } 0x34 .ok []
      else s.answered 0x34 .range []))
    ∧ exec (.mapClear (.fits ())) s
      = .next (State.answered { s with tables := { s.tables with suspectMap := Tab.fill 1021 false } } 0x37 .ok [])
    ∧ (∀ a : MapWriteArgs, exec (.mapWrite (.fits a)) s = .next
        (if a.count = 0 ∨ 1600 < a.count then s.answered 0x35 .range []
        else if a.bits.length ≠ (a.count + 7) / 8 then s.answered 0x35 .badLength []
        else
          let r := writeMap s.tables.suspectMap s.mapAccess ((unpackBits a.bits).take a.count)
          State.answered { s with tables := { s.tables with suspectMap := r.1 }, mapAccess := r.2 } 0x35 .ok
            (bytesOf 2 r.2.pointer)))
    ∧ ∀ n, exec (.mapRead (.fits n)) s = .next
        (if n = 0 ∨ 1600 < n then s.answered 0x36 .range []
        else
          let r := readMap s.tables.suspectMap s.mapAccess n
          State.answered { s with mapAccess := r.2 } 0x36 .ok
            (bytesOf 2 s.mapAccess.pointer ++ bytesOf 2 n ++ packBits ((n + 7) / 8) r.1))

/-- Bits written and read pass round the access window from the pointer; a position holds the bit written last. -/
def Obligations.MapBitsPassRoundTheWindow : Prop :=
  (∀ (bs : List Byte) (k : Nat), k < 8 * bs.length →
      (unpackBits bs)[k]? = (bs[k / 8]?).map fun b => b.getLsbD (7 - k % 8))
    ∧ ∀ (t : Tab Bool 1021) (m : MapAccess), m.Inside →
    let place (k : Nat) : Nat := m.first + (m.pointer - m.first + k) % (m.last - m.first + 1)
    (∀ bits : List Bool,
        (writeMap t m bits).2 = { m with pointer := place bits.length }
        ∧ ∀ p : Fin 1021,
            (∀ k, k < bits.length → place k = p.val → (∀ j, k < j → j < bits.length → place j ≠ p.val) →
              bits[k]? = some ((writeMap t m bits).1.get p))
            ∧ ((∀ k, k < bits.length → place k ≠ p.val) → (writeMap t m bits).1.get p = t.get p))
    ∧ ∀ n, (readMap t m n).2 = { m with pointer := place n } ∧ (readMap t m n).1.length = n
        ∧ (∀ (k : Nat) (p : Fin 1021), k < n → place k = p.val → (readMap t m n).1[k]? = some (t.get p))
        ∧ (let packed := packBits ((n + 7) / 8) (readMap t m n).1
          packed.length = (n + 7) / 8 ∧ (unpackBits packed).take n = (readMap t m n).1
          ∧ ∀ b ∈ (unpackBits packed).drop n, b = false)

/-- JOURNAL_RESOLVE reconciles a STRANDED or BINNED entry and takes its D from S; a BINNED one also leaves its bin. -/
def Obligations.JournalResolveReconcilesOneEntry : Prop :=
  ∀ (s : State) (n : Nat), s.Ready →
    (n = 0 → exec (.journalResolve (.fits n)) s = .next (s.answered 0x49 .range []))
    ∧ (n ≠ 0 → (∀ e ∈ s.journal.entries, e.number ≠ n) →
        exec (.journalResolve (.fits n)) s = .next (s.answered 0x49 .notFound []))
    ∧ ∀ e, n ≠ 0 → s.findEntry n = some e →
        let journal : Journal :=
          { s.journal with
            entries := s.journal.entries.map fun x => if x.number = n then { x with state := .reconciled } else x }
        let cover : Cover := { s.cover with committed := s.cover.committed - e.total }
        let data := bytesOf 4 n ++ bytesOf 1 4 ++ bytesOf 4 (s.cover.committed - e.total)
        (e.state = .inChute ∨ e.state = .inTray ∨ e.state = .reconciled →
          exec (.journalResolve (.fits n)) s = .next (s.answered 0x49 .state []))
        ∧ (e.state = .stranded →
          exec (.journalResolve (.fits n)) s
            = .next ((State.evalCover { s with journal := journal, cover := cover }).answered 0x49 .ok data))
        ∧ ∀ b, e.state = .binned → e.bin = some b →
          let r := s.bin b
          let left : Bin :=
            { r with
              arrived := r.arrived.filter fun k => decide (k ≠ n)
              mass := r.mass - (e.mass.getD e.expected)
              value := r.value - e.total }
          exec (.journalResolve (.fits n)) s
            = .next ((State.evalIntake (State.evalStore (State.evalCover
                { s with
                  journal := journal
                  cover := cover
                  store := { s.store with bins := s.store.bins.put b left } }))).answered 0x49 .ok data)

/-- JOURNAL_RELEASE frees the reconciled entries of the oldest end, and no other. -/
def Obligations.JournalReleaseFreesTheOldestReconciled : Prop :=
  ∀ (s : State) (freed kept : List Entry), s.Ready → s.journal.entries = freed ++ kept →
    (∀ e ∈ freed, e.state = .reconciled) → (∀ e, kept.head? = some e → e.state ≠ .reconciled) →
    exec (.journalRelease (.fits ())) s = .next
      ((State.evalIntake (State.evalJournal { s with journal := { s.journal with entries := kept } })).answered 0x4A .ok
        (bytesOf 2 freed.length ++ bytesOf 2 kept.length ++ bytesOf 4 ((kept.head?.map Entry.number).getD 0)))

/-- BIN_CLEAR reconciles every entry of the bin's arrived list, takes their D from S and opens the bin empty. -/
def Obligations.BinClearCountsABinOut : Prop :=
  ∀ s : State, s.Ready →
    (∀ v, 30 ≤ v → exec (.binClear (.fits v)) s = .next (s.answered 0x50 .range []))
    ∧ ∀ b : BinNo,
        let r := s.bin b
        let delivering := ∃ g release deadline, s.store.carousel = .delivering g b release deadline
        let ready := (s.intake.state = .stopped ∨ s.intake.state = .closed) ∧ r.pending = 0 ∧ ¬delivering
        (¬ready → exec (.binClear (.fits b.val)) s = .next (s.answered 0x50 .state []))
        ∧ (ready →
          let sum := ((s.journal.entries.filter fun e => r.arrived.contains e.number).map Entry.total).sum
          let counted : State :=
            State.evalCover
              { s with
                journal :=
                  { s.journal with
                    entries :=
                      s.journal.entries.map fun e =>
                        if r.arrived.contains e.number then { e with state := .reconciled } else e }
                cover := { s.cover with committed := s.cover.committed - sum } }
          exec (.binClear (.fits b.val)) s = .next
            ((State.evalIntake (State.evalStore
              { counted with
                store :=
                  { counted.store with
                    bins :=
                      counted.store.bins.put b
                        { state := .opened, arrived := [], pending := r.pending, mass := 0, value := 0 } } })).answered
              0x50 .ok (bytesOf 1 r.arrived.length ++ bytesOf 4 (s.cover.committed - sum))))

/-- BIN_WITHDRAW takes a bin out of use unless it is needed; BIN_RESTORE returns it FULL or OPEN. -/
def Obligations.BinWithdrawAndRestore : Prop :=
  ∀ s : State, s.Ready →
    (∀ v, 30 ≤ v →
        exec (.binWithdraw (.fits v)) s = .next (s.answered 0x51 .range [])
        ∧ exec (.binRestore (.fits v)) s = .next (s.answered 0x52 .range []))
    ∧ ∀ b : BinNo,
        let r := s.bin b
        let cap := if b = 0 then 24 else 12
        let room := cap - r.arrived.length - r.pending
        let become (x : BinState) : State :=
          State.evalIntake (State.evalStore
            { s with store := { s.store with bins := s.store.bins.put b { r with state := x } } })
        exec (.binWithdraw (.fits b.val)) s = .next
          (if r.state = .unknown ∨ 0 < r.pending ∨ r.state = .opened ∧ s.freePlaces < s.store.holds + room then
            s.answered 0x51 .state []
          else if r.state = .withdrawn then s.answered 0x51 .ok []
          else (become .withdrawn).answered 0x51 .ok [])
        ∧ exec (.binRestore (.fits b.val)) s = .next
          (if r.state = .withdrawn then
            if r.arrived.length = cap then (become .full).answered 0x52 .ok (bytesOf 1 1)
            else (become .opened).answered 0x52 .ok (bytesOf 1 0)
          else s.answered 0x52 .state [])

/-- An accepted bag goes to its light home bin, a light, any regular bin, then bin 0; a quarantined one to bin 0 first.
Where no bin fits nothing is said (log entry 6). -/
def Obligations.BagIsAssignedByTheOrderOfCandidates : Prop :=
  ∀ (s : State) (home n : Nat),
    let fits (b : BinNo) : Prop :=
      (s.bin b).state = .opened
        ∧ (s.bin b).arrived.length + (s.bin b).pending < (if b = 0 then 24 else 12)
    let light (b : BinNo) : Prop := (s.bin b).mass < 15000
    let homeFits := ∃ b : BinNo, b.val = home ∧ b ≠ 0 ∧ fits b ∧ light b
    let anyLight := ∃ b : BinNo, b ≠ 0 ∧ fits b ∧ light b
    let anyRegular := ∃ b : BinNo, b ≠ 0 ∧ fits b
    let leastLight (b : BinNo) := b ≠ 0 ∧ fits b ∧ light b ∧ ∀ c < b, ¬(c ≠ 0 ∧ fits c ∧ light c)
    let leastRegular (b : BinNo) := b ≠ 0 ∧ fits b ∧ ∀ c < b, ¬(c ≠ 0 ∧ fits c)
    (∀ b : BinNo, b.val = home → b ≠ 0 → fits b → light b → s.chooseBin .accepted home n = (b, ⟨false, false⟩))
    ∧ (¬homeFits → ∀ b, leastLight b → s.chooseBin .accepted home n = (b, ⟨false, false⟩))
    ∧ (¬homeFits → ¬anyLight → ∀ b, leastRegular b → s.chooseBin .accepted home n = (b, ⟨false, true⟩))
    ∧ (¬homeFits → ¬anyRegular → fits 0 → s.chooseBin .accepted home n = (0, ⟨true, false⟩))
    ∧ (fits 0 → s.chooseBin .quarantined home n = (0, ⟨false, false⟩))
    ∧ (¬fits 0 → ∀ b, leastLight b → s.chooseBin .quarantined home n = (b, ⟨true, false⟩))
    ∧ (¬fits 0 → ¬anyLight → ∀ b, leastRegular b → s.chooseBin .quarantined home n = (b, ⟨true, true⟩))

/-- The arbiter grants the first competing hatch after the last-granted one; pressed candidates alone compete if any. -/
def Obligations.ArbiterServesInTurnThePressedFirst : Prop :=
  (∀ s : State,
      let after (h : Hatch) : Nat := (h.num + 3 - s.store.lastGranted.num) % 4
      let candidate (h : Hatch) : Prop :=
        s.queue h ≠ [] ∧ (s.port h).link = .up ∧ (s.port h).release.isSome = true
      let pressed (h : Hatch) : Prop := (s.queue h).length = (s.port h).depth
      (s.arbiterChoice = none ↔ ∀ h, ¬candidate h)
      ∧ ∀ h, s.arbiterChoice = some h →
          candidate h
          ∧ ((∃ k, candidate k ∧ pressed k) → pressed h)
          ∧ ∀ k, candidate k → (pressed k ∨ ¬∃ j, candidate j ∧ pressed j) → after h ≤ after k)
    ∧ (∀ s : State, s.store.carousel ≠ .idle ∨ s.store.doorOpen = true ∨ s.arbiterChoice = none → s.arbiter = s)
    ∧ ∀ (s : State) (h : Hatch) (n : Nat) (rest : List Nat), s.store.carousel = .idle → s.store.doorOpen = false →
        s.arbiterChoice = some h → s.queue h = n :: rest →
        (s.store.position ≠ some (s.binOfEntry n) →
          s.arbiter = { s with
            store :=
              { s.store with
                lastGranted := h, carousel := .moving (s.binOfEntry n) (some ⟨h, n⟩) (s.now + 25000) } })
        ∧ ∀ k, s.store.position = some (s.binOfEntry n) → (s.port h).release = some k →
          s.arbiter = { s with
            ports := s.ports.set h { s.port h with release := some ⟨k.seen, k.allowed + 1⟩ }
            store :=
              { s.store with
                lastGranted := h
                carousel := .delivering ⟨h, n⟩ (s.binOfEntry n) (k.allowed + 1) (s.now + 8000) } }

/-- CAROUSEL_HOME homes a carousel that stands; HOME ends a homing at position 0; a homing or move that times out faults.
That an event not in force has no effect is the model's reading (log entry 8). -/
def Obligations.HomingAndItsEnd : Prop :=
  (∀ s : State, s.Ready →
      let homing : State :=
        { s with
          store :=
            { s.store with
              position := none
              carousel := if s.store.doorOpen then .haltedHoming else .homing (s.now + 40000) } }
      exec (.carouselHome (.fits ())) s = .next
        (match s.store.carousel with
        | .unhomed | .idle | .fault => homing.answered 0x54 .ok []
        | .homing _ => s.answered 0x54 .ok []
        | .moving _ _ _ | .haltedHoming | .haltedMove _ _ | .delivering _ _ _ _ => s.answered 0x54 .state []))
    ∧ (∀ s : State, s.Settled →
        exec .home s = .next
          (match s.store.carousel with
          | .homing _ => State.arbiter { s with store := { s.store with position := some 0, carousel := .idle } }
          | .haltedHoming | .haltedMove _ _ => { s with store := { s.store with position := some 0 } }
          | .unhomed | .idle | .moving _ _ _ | .delivering _ _ _ _ | .fault => s))
    ∧ ∀ s : State, s.Settled →
        let faulted (deadline : Nat) : State :=
          State.pump (State.raise
            { s with
              now := max s.now deadline, store := { s.store with position := none, carousel := .fault } }
            .carouselFault)
        exec .homingTimeout s = .next (match s.store.carousel with | .homing d => faulted d | _ => s)
        ∧ exec .moveTimeout s = .next (match s.store.carousel with | .moving _ _ d => faulted d | _ => s)

/-- AT_POSITION records where the carousel may turn, ends a move at its target, and shows an uncommanded turn elsewhere. -/
def Obligations.PositionReports : Prop :=
  ∀ (s : State) (b : BinNo), s.Settled →
    let recorded : State := { s with store := { s.store with position := some b } }
    let turned : State :=
      State.pump (State.raise { s with store := { s.store with position := none, carousel := .unhomed } } .carouselFault)
    (∀ (n : Nat) (e : Entry) (c : BinNo), s.findEntry n = some e → e.bin = some c →
        s.releasePlace n = { s with
          store :=
            { s.store with
              bins :=
                s.store.bins.put c
                  { s.bin c with
                    pending := (s.bin c).pending - 1
                    mass := (s.bin c).mass - (e.mass.getD e.expected)
                    value := (s.bin c).value - e.total } } })
    ∧ match s.store.carousel with
    | .unhomed => exec (.atPosition b) s = .next s
    | .homing _ | .haltedHoming | .haltedMove _ _ => exec (.atPosition b) s = .next recorded
    | .idle => exec (.atPosition b) s = .next (if s.store.position = some b then s else turned)
    | .fault =>
      exec (.atPosition b) s = .next (if s.store.position = some b ∨ s.store.position = none then s else turned)
    | .moving target grant _ =>
      exec (.atPosition b) s = .next
        (if b ≠ target then recorded
        else
          match grant with
          | some g =>
            if (s.port g.hatch).link = .up ∧ (s.queue g.hatch).head? = some g.entry then recorded.deliver g b
            else State.arbiter { recorded with store := { recorded.store with carousel := .idle } }
          | none => State.arbiter { recorded with store := { recorded.store with carousel := .idle } })
    | .delivering g bin release _ =>
      let blamed := ∃ k, (s.port g.hatch).release = some k ∧ k.seen ≠ release
      (b = bin → exec (.atPosition b) s = .next s)
      ∧ (b ≠ bin → ∃ t, exec (.atPosition b) s = .next t
          ∧ (∀ e ∈ s.journal.entries, e.number = g.entry → { e with state := .stranded } ∈ t.journal.entries)
          ∧ t.queue g.hatch = (s.queue g.hatch).tail ∧ (∀ h, h ≠ g.hatch → t.queue h = s.queue h)
          ∧ t.store.carousel = .unhomed ∧ t.store.position = none
          ∧ t.latched .stranded = true ∧ t.latched .carouselFault = true
          ∧ t.tables = s.tables ∧ t.cover.committed = s.cover.committed
          ∧ (blamed → (t.port g.hatch).faultFlag = true ∧ t.latched .trayFault = true)
          ∧ (¬blamed → (t.port g.hatch).faultFlag = (s.port g.hatch).faultFlag)
          ∧ ((s.drop g.hatch).code ≠ 5 ∨ ¬blamed → t.store.bins = (s.releasePlace g.entry).store.bins)
          ∧ ∀ tr x n aim dl, s.drop g.hatch = .tipping tr x n aim dl → blamed →
              t.store.bins = ((s.releasePlace g.entry).releasePlace n).store.bins)

/-- A drop pulse files the bag under delivery; the deadline strands it and faults the carousel; a stray pulse is unexpected.
That an event not in force has no effect is the model's reading (log entry 8). -/
def Obligations.DeliveriesEnd : Prop :=
  ((∀ (s : State) (g : Grant) (b : BinNo) (release : BitVec 8) (deadline : Nat) (c : ClockTime), s.Settled →
        s.store.carousel = .delivering g b release deadline → s.intake.clock = some c →
        let r := s.bin b
        exec .dropPulse s = .next (State.arbiter
          { s with
            journal :=
              { s.journal with
                entries :=
                  s.journal.entries.map fun e =>
                    if e.number = g.entry then { e with state := .binned, binned := some c } else e }
            store :=
              { s.store with
                bins := s.store.bins.put b { r with arrived := r.arrived ++ [g.entry], pending := r.pending - 1 }
                queues := s.store.queues.set g.hatch (s.queue g.hatch).tail
                carousel := .idle
                position := some b } }))
      ∧ ∀ s : State, s.running = true → s.store.carousel.code ≠ 5 →
          exec .dropPulse s = .next (State.pump (State.raise
            { s with office := { s.office with unexpectedDrops := min (s.office.unexpectedDrops + 1) 65535 } }
            .unexpectedDrop)))
    ∧ ((∀ (s : State) (g : Grant) (b : BinNo) (target : BitVec 8) (deadline : Nat), s.running = true →
        s.store.carousel = .delivering g b target deadline →
        ∃ t, exec .deliveryTimeout s = .next t
          ∧ (∀ e ∈ s.journal.entries, e.number = g.entry → { e with state := .stranded } ∈ t.journal.entries)
          ∧ t.queue g.hatch = (s.queue g.hatch).tail ∧ (∀ h, h ≠ g.hatch → t.queue h = s.queue h)
          ∧ t.store.carousel = .fault ∧ t.store.position = s.store.position
          ∧ t.latched .stranded = true ∧ t.latched .carouselFault = true
          ∧ t.cover.committed = s.cover.committed ∧ t.tables = s.tables ∧ t.now = max s.now deadline
          ∧ (∀ k, (s.port g.hatch).release = some k → k.seen ≠ target →
              (t.port g.hatch).faultFlag = true ∧ t.latched .trayFault = true)
          ∧ ((s.port g.hatch).release = none ∨ (∃ k, (s.port g.hatch).release = some k ∧ k.seen = target) →
              (t.port g.hatch).faultFlag = (s.port g.hatch).faultFlag)
          ∧ (let blamed := ∃ k, (s.port g.hatch).release = some k ∧ k.seen ≠ target
            ((s.drop g.hatch).code ≠ 5 ∨ ¬blamed → t.store.bins = (s.releasePlace g.entry).store.bins)
            ∧ ∀ tr x n aim dl, s.drop g.hatch = .tipping tr x n aim dl → blamed →
                t.store.bins = ((s.releasePlace g.entry).releasePlace n).store.bins))
      ∧ ∀ s : State, s.Settled → s.store.carousel.code ≠ 5 → exec .deliveryTimeout s = .next s)
    ∧ ∀ s : State,
      (∀ (n : Nat) (e : Entry) (c : BinNo), s.findEntry n = some e → e.bin = some c →
        s.releasePlace n = { s with
          store :=
            { s.store with
              bins :=
                s.store.bins.put c
                  { s.bin c with
                    pending := (s.bin c).pending - 1
                    mass := (s.bin c).mass - (e.mass.getD e.expected)
                    value := (s.bin c).value - e.total } } })

/-- The opening door halts a homing or a move and alarms during intake; the closing door resumes what was halted.
That an event not in force has no effect is the model's reading (log entry 8). -/
def Obligations.InnerDoor : Prop :=
  (∀ s : State, s.Settled → s.store.doorOpen = false →
      let halted : Carousel :=
        match s.store.carousel with
        | .homing _ => .haltedHoming
        | .moving b g _ => .haltedMove b g
        | other => other
      let t : State := { s with store := { s.store with doorOpen := true, carousel := halted } }
      exec .doorOpens s = .next
        (if s.intake.state = .running ∨ s.intake.state = .suspended ∨ s.intake.state = .stopping then
          State.pump (t.raise .doorOpenInIntake)
        else t))
    ∧ (∀ s : State, s.Settled → s.store.doorOpen = true →
        let t : State := { s with store := { s.store with doorOpen := false } }
        exec .doorCloses s = .next
          (match s.store.carousel with
          | .haltedHoming => { t with store := { t.store with carousel := .homing (s.now + 40000) } }
          | .haltedMove b g =>
            if s.store.position = some b then t.endMove b g
            else { t with store := { t.store with carousel := .moving b g (s.now + 25000) } }
          | .idle => t.arbiter
          | _ => t))
    ∧ (∀ s : State, s.Settled → s.store.doorOpen = true → exec .doorOpens s = .next s)
    ∧ ∀ s : State, s.Settled → s.store.doorOpen = false → exec .doorCloses s = .next s

/-- A failed tray verification strands every entry of the queue, empties it and faults the hatch; a passing one agrees. -/
def Obligations.FailedTrayVerificationEmptiesTheQueue : Prop :=
  (∀ (s : State) (h : Hatch) (count : Nat), s.trayAgrees h count = true
      ↔ (count = (s.queue h).length
          ∨ (∃ n b release deadline, s.store.carousel = .delivering ⟨h, n⟩ b release deadline)
            ∧ count + 1 = (s.queue h).length)
        ∧ (s.queue h).length ≤ (s.port h).depth)
    ∧ ∀ (s : State) (h : Hatch),
        (s.failVerification h).journal.entries
            = (s.journal.entries.map fun e => if e.number ∈ s.queue h then { e with state := .stranded } else e)
        ∧ (s.failVerification h).queue h = [] ∧ (∀ k, k ≠ h → (s.failVerification h).queue k = s.queue k)
        ∧ ((s.failVerification h).port h).faultFlag = true ∧ (s.failVerification h).latched .trayFault = true
        ∧ (s.queue h ≠ [] → (s.failVerification h).latched .stranded = true)
        ∧ (∀ g, (s.failVerification h).store.carousel.grant = some g → g.hatch ≠ h)
        ∧ (s.failVerification h).store.bins = ((s.queue h).foldl State.releasePlace s).store.bins
        ∧ (∀ (n : Nat) (e : Entry) (c : BinNo), s.findEntry n = some e → e.bin = some c →
            s.releasePlace n = { s with
              store :=
                { s.store with
                  bins :=
                    s.store.bins.put c
                      { s.bin c with
                        pending := (s.bin c).pending - 1
                        mass := (s.bin c).mass - (e.mass.getD e.expected)
                        value := (s.bin c).value - e.total } } })
        ∧ (s.failVerification h).cover = s.cover ∧ (s.failVerification h).tables = s.tables

/-- A release counter up to the allowed count is recorded; any other advance is a fault of the tray. -/
def Obligations.ReleaseCountsJudgeAnAdvance : Prop :=
  ∀ (s : State) (h : Hatch) (c : BitVec 8),
    ((s.port h).release = none → s.examineRelease h c = s)
    ∧ (∀ k, (s.port h).release = some k →
        (c = k.seen → s.examineRelease h c = s)
        ∧ (∀ ahead, 0 < ahead → ahead ≤ (k.allowed - k.seen).toNat → c = k.seen + BitVec.ofNat 8 ahead →
            s.examineRelease h c = { s with ports := s.ports.set h { s.port h with release := some ⟨c, k.allowed⟩ } })
        ∧ ((k.allowed - k.seen).toNat < (c - k.seen).toNat →
            ((s.examineRelease h c).port h).release = some ⟨c, c⟩
            ∧ ((s.examineRelease h c).port h).faultFlag = true ∧ (s.examineRelease h c).latched .trayFault = true
            ∧ (s.examineRelease h c).drop h = (if s.drop h = .offline then .offline else .fault)
            ∧ (s.examineRelease h c).store.queues = s.store.queues))
    ∧ (∀ n b target deadline, s.store.carousel = .delivering ⟨h, n⟩ b target deadline →
        s.baselineRelease h c = { s with ports := s.ports.set h { s.port h with release := some ⟨c, target⟩ } })
    ∧ ((∀ n b target deadline, s.store.carousel ≠ .delivering ⟨h, n⟩ b target deadline) →
        let counted : State := { s with ports := s.ports.set h { s.port h with release := some ⟨c, c⟩ } }
        s.baselineRelease h c = if s.queue h = [] then counted else counted.arbiter)

/-- RESET and STORE_TABLES keep the hand; the write ends with the copy taken and the epoch as it stands; LOAD_TABLES loads it.
That STORE_TABLES_DONE without a write in flight has no effect is the model's reading (log entry 8); that a
timer deadline at the present moment counts as passed is its choice (log entry 19), and so is the flag of an
epoch write under way, which the end of the write clears (log entry 21). -/
def Obligations.StoreAndLoadTables : Prop :=
  (∀ s : State, s.Ready →
      exec (.reset (.fits ())) s = .next { s with
        office :=
          match s.office.transmitter with
          | none => { s.office with hand := some .resetSending, transmitter := some (.reply ⟨0x08, .ok, []⟩) }
          | some _ =>
            { s.office with hand := some .resetWaiting, replies := s.office.replies ++ [.own ⟨0x08, .ok, []⟩] } }
      ∧ exec (.storeTables (.fits ())) s
        = .next { s with office := { s.office with hand := some (.storing s.tables) } })
    ∧ (∀ (s : State) (copy : Tables), s.Settled → s.office.hand = some (.storing copy) →
        exec .storeTablesDone s = .next
          (State.answered
            { s with tableStore := ⟨true, copy, s.journal.epoch, false⟩, office := { s.office with hand := none } }
            0x70 .ok (bytesOf 2 s.journal.epoch)))
    ∧ (∀ s : State, s.Settled → (∀ copy, s.office.hand ≠ some (.storing copy)) →
        exec .storeTablesDone s = .next s)
    ∧ (∀ s : State, s.Ready → s.intake.state ≠ .stopped →
        exec (.loadTables (.fits ())) s = .next (s.answered 0x71 .state []))
    ∧ (∀ s : State, s.Ready → s.intake.state = .stopped → s.tableStore.good = false →
        exec (.loadTables (.fits ())) s = .next ((s.raise .tableStoreBad).answered 0x71 .ok [1]))
    ∧ ∀ s : State, s.Ready → s.intake.state = .stopped → s.tableStore.good = true →
        ∃ t : State, exec (.loadTables (.fits ())) s = .next (t.answered 0x71 .ok [0])
          ∧ t.tables
            = { s.tableStore.tables with
                limit := max s.tableStore.tables.limit (s.cover.committed + s.cover.held) }
          ∧ (∀ h, (t.port h).zeroArmed = false) ∧ t.journal.epoch = s.journal.epoch
          ∧ t.tableStore = s.tableStore ∧ t.mapAccess = s.mapAccess ∧ t.intake.clock = s.intake.clock
          ∧ t.intake.enable = s.intake.enable
          ∧ t.intake.windowMark = t.inWindow 0 ∧ t.intake.state = t.intakeTarget
          ∧ (∀ i,
              let old := s.counts.get i
              let matched : NightCount :=
                match s.tableStore.tables.depositors.get i with
                | none => ⟨0, 0, none⟩
                | some e => if old.token = some e.token then old else ⟨0, 0, some e.token⟩
              t.counts.get i
                = if t.inWindow 0 = true ∧ s.intake.windowMark = false then ⟨0, 0, matched.token⟩ else matched)
          ∧ t.office.timer
            = (match s.office.timer with
              | none => none
              | some x =>
                let deadline := x.started + s.tableStore.tables.noticeTime * 1000
                if s.tableStore.tables.noticeTime = 0 ∨ deadline ≤ s.now then none else some ⟨x.started, deadline⟩)
          ∧ ((∀ h, (s.drop h).inFlight = false) →
              t.cover
                = { s.cover with near := decide (9 * t.tables.limit ≤ 10 * (s.cover.committed + s.cover.held)) })
          ∧ ∀ h,
              let new := s.tableStore.tables.configs.get h
              (new = s.config h → (t.port h).link = (s.port h).link ∧ (t.port h).snapshot = (s.port h).snapshot)
              ∧ (s.straps.hatches < h.num → (t.port h).link = (s.port h).link)
              ∧ (new ≠ s.config h → h.num ≤ s.straps.hatches →
                (t.port h).link = (if new.enable then .holdOff (s.now + 1500) else .disabled)
                ∧ ((s.port h).link = .up →
                  t.drop h = .offline ∧ (t.port h).snapshot = none ∧ (t.port h).release = none))

/-- A POLL opens its window, a window that closes is a miss, the third loses the link, and HOLD_OFF leads to OFFERs.
That the window closes 15 ms after the moment of sending, with no time for the bytes, is the model's choice (log
entry 11); that an expiry not in force has no effect is its reading (log entry 8). -/
def Obligations.PollsMissesAndOffers : Prop :=
  ∀ (s : State) (h : Hatch), s.Settled →
    let p := s.port h
    let offered (now : Nat) (bad : Bool) : State :=
      { s with
        now := now
        ports :=
          s.ports.set h
            { p with
              badFrames := if bad then min (p.badFrames + 1) 65535 else p.badFrames
              link := .exchange (now + 100)
              lineOut := some (.offer ⟨true, true, (s.config h).printOffered, true⟩ (s.config h).depth) } }
    (∀ b, exec (.poll h b) s = .next
      (if p.link = .up ∧ p.window = none then
        let now := max s.now (p.pollStart + 10 * ((s.config h).divider + 1))
        { s with
          now := now
          ports :=
            s.ports.set h
              { p with
                badFrames := if b then min (p.badFrames + 1) 65535 else p.badFrames
                lineOut := some (.poll (s.pollCommands h)), window := some (now + 15), pollStart := now
                showDue := none, receiptDue := none } }
      else s))
    ∧ (∀ close, p.link = .up → p.window = some close →
        let missed : State :=
          { s with
            now := max s.now close
            ports :=
              s.ports.set h
                { p with window := none, missCount := min (p.missCount + 1) 65535, misses := p.misses + 1 } }
        exec (.miss h) s = .next
          (if p.misses + 1 < 3 then missed else State.pump ((missed.raise .linkLost).enterHoldOff h)))
    ∧ (p.link ≠ .up ∨ p.window = none → exec (.miss h) s = .next s)
    ∧ ∀ b, exec (.holdOffExpiry h b) s
            = .next (match p.link with | .holdOff e => offered (max s.now e) b | _ => s)
          ∧ exec (.offer h b) s
            = .next (match p.link with | .exchange e => offered (max s.now e) b | _ => s)

/-- The commands of a POLL are those that the state and the last report ask: UNLOCK in OPEN alone, at most four. -/
def Obligations.PollCommandsFollowTheState : Prop :=
  ∀ (s : State) (h : Hatch),
    let p := s.port h
    let cs := s.pollCommands h
    let isOpen := (s.drop h).code = 3
    let flap (f : Flap) : Prop := ∃ r, p.snapshot = some r ∧ r.flap = f
    let past := ∃ t d o dl, s.drop h = .opened t d o true dl
    let tips (x : BitVec 8) : Prop :=
      (∃ t d n dl, s.drop h = .tipping t d n x dl) ∧ ∃ r, p.snapshot = some r ∧ r.arrival ≠ x
    let releases (x : BitVec 8) : Prop :=
      (∃ n b dl, s.store.carousel = .delivering ⟨h, n⟩ b x dl) ∧ ∃ r, p.snapshot = some r ∧ r.release ≠ x
    let named (r : HeadReport) (t d a : Bool) : Prop :=
      p.snapshot = some r ∧ t = (r.token.isSome && p.takenToken.isSome)
        ∧ d = (r.declaration.isSome && p.takenDecl.isSome) ∧ a = (r.tamper || r.chuteBlocked || r.printerFault)
        ∧ (t = true ∨ d = true ∨ a = true)
    cs.length ≤ 4
    ∧ (∀ r, p.receiptDue = some r → PollCommand.receipt r p.receiptMode ∈ cs)
    ∧ (∀ x, p.showDue = some x → PollCommand.showCode x ∈ cs)
    ∧ (PollCommand.unlock ∈ cs → isOpen ∧ flap .shutLocked)
    ∧ (PollCommand.lock ∈ cs → ¬isOpen ∧ flap .shutUnlocked)
    ∧ (PollCommand.closeFlap ∈ cs → past ∧ flap .opened ∧ p.caps.flapDrive = true)
    ∧ (∀ x, PollCommand.tip x ∈ cs → tips x)
    ∧ (∀ x, PollCommand.trayRelease x ∈ cs → releases x)
    ∧ (∀ t d a, PollCommand.consume t d a ∈ cs → ∃ r, named r t d a)
    ∧ (p.receiptDue = none → p.showDue = none →
        (isOpen → flap .shutLocked → PollCommand.unlock ∈ cs)
        ∧ (¬isOpen → flap .shutUnlocked → PollCommand.lock ∈ cs)
        ∧ (past → flap .opened → p.caps.flapDrive = true → PollCommand.closeFlap ∈ cs)
        ∧ (∀ x, tips x → PollCommand.tip x ∈ cs)
        ∧ (∀ x, releases x → PollCommand.trayRelease x ∈ cs)
        ∧ ∀ r t d a, named r t d a → PollCommand.consume t d a ∈ cs)

/-- A valid ANSWER in EXCHANGE resolves the capabilities, brings the link UP and verifies the tray.
That the first window closes 15 ms after the moment of sending is the model's choice (log entry 11). -/
def Obligations.AnswerBringsTheLinkUp : Prop :=
  ∀ (s : State) (h : Hatch) (a : HeadAnswer), s.Settled →
    let p := s.port h
    let print := (s.config h).printOffered && a.caps.print
    let depth := min (s.config h).depth a.depth
    let len := (s.queue h).length
    let agrees : Bool :=
      (decide (a.trayCount = len) || (s.deliveringFor h && decide (a.trayCount + 1 = len))) && decide (len ≤ depth)
    match p.link with
    | .exchange _ =>
      ∃ t, exec (.answer h false a) s = .next t
        ∧ (t.port h).link = .up ∧ (t.port h).caps = ⟨a.caps.weigh, a.caps.scan, print, a.caps.flapDrive⟩
        ∧ (t.port h).depth = depth ∧ (t.port h).receiptMode = (if print then .printed else .display)
        ∧ (t.port h).misses = 0 ∧ (t.port h).streak = 0 ∧ (t.port h).inverted = p.inverted
        ∧ (t.port h).window = some (s.now + 15) ∧ (t.port h).showDue = none ∧ (t.port h).receiptDue = none
        ∧ t.drop h = (if p.faultFlag = false ∧ agrees = true then .idle else .fault)
        ∧ (t.port h).faultFlag = (p.faultFlag || !agrees)
        ∧ (p.faultFlag = true ∨ agrees = true → t.journal = s.journal ∧ t.store = s.store)
        ∧ t.tables = s.tables ∧ t.cover = s.cover ∧ t.now = s.now
    | .up =>
      exec (.answer h false a) s
        = .next { s with ports := s.ports.set h { p with badFrames := min (p.badFrames + 1) 65535 } }
    | .holdOff _ | .disabled => exec (.answer h false a) s = .next s

/-- A report that answers a poll is recorded, its fields, an armed zero, and a token and a declaration once, are taken by the drop state.
That the report which completes an arrival leaves a mark armed before it alone is the model's reading (log entry
12). -/
def Obligations.ReportIsTakenByTheDropState : Prop :=
  ∀ (s : State) (h : Hatch) (r : HeadReport), s.QuietReport h r →
    let p := s.port h
    let recorded : Port :=
      { p with
        snapshot := some r, takenToken := r.token, takenDecl := r.declaration, window := none
        misses := 0, streak := 0
        surroundLatch := if (s.config h).aux = .surround then false else p.surroundLatch }
    let s1 : State := { s with ports := s.ports.set h recorded }
    let noToken := r.token = none ∨ r.token = p.takenToken
    let noDecl := r.declaration = none ∨ r.declaration = p.takenDecl
    let refused (u : State) (e : Refuse) (next : Drop) : State :=
      { u with
        office :=
          { u.office with
            refusals := u.office.refusals.put e.counter (min (u.office.refusals.get e.counter + 1) 65535) }
        ports := u.ports.set h { u.port h with drop := next, showDue := some e.code } }
    (p.zeroArmed = true → noToken → noDecl → r.flap ≠ .opened →
      let z := s.calibration h
      let disarmed : State := { s with ports := s.ports.set h { recorded with zeroArmed := false } }
      let captured : State :=
        if r.stable = true ∧ r.bag = false then
          if -(z.band : Int) ≤ r.raw - z.zero ∧ r.raw - z.zero ≤ z.band then
            { disarmed with
              tables := { s.tables with calibrations := s.tables.calibrations.set h { z with zero := r.raw } } }
          else State.pump (disarmed.raise .zeroDrift)
        else s1
      ((s.drop h).code = 1 ∨ (s.drop h).code = 2 ∨ (s.drop h).code = 6 → exec (.report h false r) s = .next captured)
      ∧ (∀ t d past dl, s.drop h = .opened t d false past dl → r.bag = false →
        exec (.report h false r) s = .next captured)
      ∧ ∀ t d n target dl, s.drop h = .tipping t d n target dl →
        exec (.report h false r) s = .next (if r.arrival = target then State.pump (s1.arrive h n) else captured))
    ∧ (p.zeroArmed = false ∨ r.stable = false ∨ r.bag = true →
      (noToken → noDecl →
        (r.flap = .opened → (s.drop h).code ≠ 0 → (s.drop h).code ≠ 3 →
          exec (.report h false r) s = .next (State.pump ((s1.raise .flapForced).faultHatch h)))
        ∧ (r.flap ≠ .opened → (s.drop h).code = 1 ∨ (s.drop h).code = 2 ∨ (s.drop h).code = 6 →
          exec (.report h false r) s = .next s1)
        ∧ (∀ t d o past dl, s.drop h = .opened t d o past dl →
          exec (.report h false r) s = .next
            (if r.flap = .opened then
              { s with ports := s.ports.set h { recorded with drop := .opened t d true past dl } }
            else if r.bag then State.pump (s1.commit h t d)
            else if o then State.pump (s1.cancelDrop h .emptyClose)
            else s1))
        ∧ (∀ t d n dl, s.drop h = .weighing t d n dl → r.flap ≠ .opened →
          exec (.report h false r) s = .next
            (if r.bag = false then State.pump ((s1.raise .jam).faultHatch h)
            else if r.stable then
              let m := Machine.measure (s.calibration h) r.raw
              State.pump (s1.conclude h t d n (weighedReasons d m.1 m.2) (some m.1) r.arrival)
            else s1))
        ∧ (∀ t d n target dl, s.drop h = .tipping t d n target dl → r.flap ≠ .opened →
          exec (.report h false r) s = .next (if r.arrival = target then State.pump (s1.arrive h n) else s1)))
      ∧ (∀ token, r.token = some token → r.token ≠ p.takenToken → noDecl → r.flap ≠ .opened →
          let checked (u : State) : State :=
            match u.checkToken h token with
            | .ok t =>
              { u with
                ports := u.ports.set h { u.port h with drop := .awaitDecl t (u.now + 30000), showDue := some 24 } }
            | .error e => refused u e .idle
          let wait (u : State) : State := { u with ports := u.ports.set h { u.port h with showDue := some 26 } }
          (s.drop h = .idle → exec (.report h false r) s = .next (checked s1))
          ∧ (∀ t dl, s.drop h = .awaitDecl t dl →
            exec (.report h false r) s = .next
              (if t.entry.token = token then s1
              else checked { s with ports := s.ports.set h { recorded with drop := .idle } }))
          ∧ (∀ t d o past dl, s.drop h = .opened t d o past dl →
            (r.bag = false → o = false → exec (.report h false r) s = .next (wait s1))
            ∧ (r.bag = true → exec (.report h false r) s = .next (State.pump (wait (s1.commit h t d)))))
          ∧ (∀ t d n dl, s.drop h = .weighing t d n dl → r.bag = true → r.stable = false →
            exec (.report h false r) s = .next (wait s1))
          ∧ (∀ t d n target dl, s.drop h = .tipping t d n target dl → r.arrival ≠ target →
            exec (.report h false r) s = .next (wait s1))
          ∧ (s.drop h = .fault → exec (.report h false r) s = .next (refused s1 .outOfService .fault)))
      ∧ (∀ decl, r.declaration = some decl → r.declaration ≠ p.takenDecl → noToken → r.flap ≠ .opened →
          (s.drop h = .idle →
            exec (.report h false r) s = .next { s with ports := s.ports.set h { recorded with showDue := some 27 } })
          ∧ (s.drop h = .fault → exec (.report h false r) s = .next s1)
          ∧ (∀ t d o past dl, s.drop h = .opened t d o past dl → r.bag = false → o = false →
            exec (.report h false r) s = .next s1)
          ∧ (∀ t d n dl, s.drop h = .weighing t d n dl → r.bag = true → r.stable = false →
            exec (.report h false r) s = .next s1)
          ∧ (∀ t d n target dl, s.drop h = .tipping t d n target dl → r.arrival ≠ target →
            exec (.report h false r) s = .next s1))
      ∧ ∀ t dl decl, s.drop h = .awaitDecl t dl → r.declaration = some decl → r.declaration ≠ p.takenDecl → noToken →
          r.flap ≠ .opened →
          exec (.report h false r) s = .next
            (match s1.checkDeclaration h t decl with
            | .ok x => State.pump (s1.placeHolds h t x)
            | .error e => refused s1 e .idle))

/-- Bad, complemented and unasked frames, jabber and the contact act by the link state, the configuration and the streak.
That the third complemented frame counts as bad where the link state does not take it is the model's reading
(log entry 29). -/
def Obligations.OtherEventsAtAPort : Prop :=
  (∀ (s : State) (h : Hatch), s.Settled →
      let p := s.port h
      let counted : State := { s with ports := s.ports.set h { p with badFrames := min (p.badFrames + 1) 65535 } }
      (p.link.code = 0 ∨ p.link.code = 1 →
        exec (.hatchBadFrame h) s = .next s ∧ exec (.jabber h) s = .next s
        ∧ (∀ f, exec (.complementedFrame h f) s = .next s) ∧ ∀ r, exec (.report h false r) s = .next s)
      ∧ (p.link.code = 2 ∨ p.link.code = 3 →
        exec (.hatchBadFrame h) s = .next counted
        ∧ exec (.jabber h) s = .next (State.pump ((counted.raise .jabber).enterHoldOff h))
        ∧ (p.link.code = 2 ∨ p.window = none → ∀ r, exec (.report h false r) s = .next counted)
        ∧ ∀ f, exec (.complementedFrame h f) s = .next
            (if (s.config h).autoPolarity = false then counted
            else if p.streak < 2 then { s with ports := s.ports.set h { p with streak := p.streak + 1 } }
            else
              State.pump
                ((State.raise { s with ports := s.ports.set h { p with inverted := !p.inverted, streak := 0 } }
                  .polarity).takeFrame h f)))
      ∧ ∀ b, exec (.surroundOpening h b) s = .next
          { s with
            ports :=
              s.ports.set h
                { p with
                  contactOpen := b
                  surroundLatch :=
                    p.surroundLatch || (b && !p.contactOpen && decide ((s.config h).aux = .surround)) } })
    ∧ ∀ (s : State) (h : Hatch),
        (∀ r, exec (.report h true r) s = exec (.complementedFrame h (.report r)) s)
        ∧ ∀ a, exec (.answer h true a) s = exec (.complementedFrame h (.answer a)) s

/-- The four drop deadlines: a waiting or unopened drop is cancelled, an opened one goes on, a bag is quarantined or stranded.
An opened drop whose flap was last seen shut, or of which no report is held, is a case that R15 says does not
arise; what is said of it is the model's choice (log entry 24). That a deadline not in force has no effect is
its reading (log entry 8). -/
def Obligations.DropTimeouts : Prop :=
  (∀ (s : State) (h : Hatch), s.Settled →
      let p := s.port h
      (∀ t dl, s.drop h = .awaitDecl t dl →
        exec (.declTimeout h) s = .next
          { s with
            now := max s.now dl
            office := { s.office with cancels := s.office.cancels.put 0 (min (s.office.cancels.get 0 + 1) 65535) }
            ports := s.ports.set h { p with drop := .idle, showDue := some 28 } })
      ∧ (∀ t d past dl, s.drop h = .opened t d false past (some dl) →
        ∃ u, exec (.openTimeout h) s = .next u ∧ u.drop h = .idle ∧ (u.port h).showDue = some 28
          ∧ u.office.cancels.get 1 = min (s.office.cancels.get 1 + 1) 65535
          ∧ u.cover.held = s.cover.held - d.total ∧ u.cover.committed = s.cover.committed
          ∧ u.journal.slotHolds = s.journal.slotHolds - 1 ∧ u.journal.entries = s.journal.entries
          ∧ u.store.holds = s.store.holds - 1 ∧ u.store.bins = s.store.bins ∧ u.store.queues = s.store.queues
          ∧ u.tables = s.tables ∧ u.now = max s.now dl)
      ∧ (∀ t d past dl, s.drop h = .opened t d true past (some dl) →
        let u : State :=
          { s with
            now := max s.now dl, ports := s.ports.set h { p with drop := .opened t d true true none } }
        exec (.openTimeout h) s = .next
          (if p.snapshot.map HeadReport.flap = some .opened ∧ p.caps.flapDrive = false then
            State.pump (u.raise .flapLeftOpen)
          else u))
      ∧ (∀ t d n dl, s.drop h = .weighing t d n dl → ∀ r, p.snapshot = some r →
        exec (.weighingTimeout h) s = .next (State.pump
          (State.conclude { s with now := max s.now dl } h t d n ⟨d.suspect, false, false, false, true⟩ none r.arrival)))
      ∧ (∀ t d n target dl, s.drop h = .tipping t d n target dl →
        exec (.tippingTimeout h) s = .next (State.pump
          ((State.raise { s with now := max s.now dl } .jam).faultHatch h))))
    ∧ ∀ (s : State) (h : Hatch), s.Settled →
        ((s.drop h).code ≠ 2 → exec (.declTimeout h) s = .next s)
        ∧ ((s.drop h).code ≠ 3 ∨ (s.drop h).deadline = none → exec (.openTimeout h) s = .next s)
        ∧ ((s.drop h).code ≠ 4 → exec (.weighingTimeout h) s = .next s)
        ∧ ((s.drop h).code ≠ 5 → exec (.tippingTimeout h) s = .next s)

/-- A declaration that passes places the four holds and enters OPEN; the commit turns D and the slot into an entry.
That the epoch write of a wrap may still be under way after the commit is the model's choice (log entry 21). -/
def Obligations.HoldsArePlacedAndCommitted : Prop :=
  (∀ (s : State) (h : Hatch) (t : Snapshot) (x : Declared),
      let u := s.placeHolds h t x
      u.cover.held = s.cover.held + x.total ∧ u.cover.committed = s.cover.committed
      ∧ u.journal.slotHolds = s.journal.slotHolds + 1 ∧ u.journal.entries = s.journal.entries
      ∧ u.store.holds = s.store.holds + 1 ∧ u.store.bins = s.store.bins ∧ u.store.queues = s.store.queues
      ∧ u.drop h = .opened t x false false (some (s.now + 60000)) ∧ (u.port h).showDue = some 25
      ∧ u.tables = s.tables ∧ u.counts = s.counts ∧ ∀ k, (u.port k).link = (s.port k).link)
    ∧ ∀ (s : State) (h : Hatch) (t : Snapshot) (d : Declared) (c : ClockTime), s.intake.clock = some c →
        let u := s.commit h t d
        u.cover.held = s.cover.held - d.total ∧ u.cover.committed = s.cover.committed + d.total
        ∧ u.journal.entries
          = s.journal.entries
            ++ [{ number := s.journal.next, epoch := s.journal.epoch, created := c, hatch := h, slot := t.slot
                  token := t.entry.token, reference := t.entry.reference, serial := d.serial
                  bagClass := d.bagClass, lines := d.lines, total := d.total, expected := d.expected, mass := none
                  verdict := none, reasons := Reasons.empty, route := Route.empty, bin := none, state := .inChute
                  binned := none }]
        ∧ u.journal.slotHolds = s.journal.slotHolds - 1 ∧ u.journal.last = s.journal.next
        ∧ (s.journal.next ≠ 4294967295 → u.journal.next = s.journal.next + 1 ∧ u.journal.epoch = s.journal.epoch
            ∧ u.tableStore = s.tableStore)
        ∧ (s.journal.next = 4294967295 → u.journal.next = 1 ∧ u.journal.epoch = (s.journal.epoch + 1) % 65536
            ∧ (s.tableStore.good = true → s.storing = false →
              u.tableStore = { s.tableStore with epoch := u.journal.epoch, writing := true })
            ∧ (s.tableStore.good = false ∨ s.storing = true → u.tableStore = s.tableStore))
        ∧ (∀ i, u.counts.get i =
            if i = t.slot ∧ (s.tables.depositors.get t.slot).map DepositorEntry.token = some t.entry.token then
              ⟨(s.counts.get i).bags + 1, (s.counts.get i).value + d.total, (s.counts.get i).token⟩
            else s.counts.get i)
        ∧ u.drop h = .weighing t d s.journal.next (s.now + 4000)
        ∧ u.office.count = min (s.office.count + 1) 65535
        ∧ u.store.bins = s.store.bins ∧ u.store.queues = s.store.queues ∧ u.store.holds = s.store.holds
        ∧ u.tables = s.tables ∧ ∀ k, (u.port k).link = (s.port k).link

/-- A verdict fills the entry's fields and turns the store hold into a pending place; an arrival queues the bag. -/
def Obligations.VerdictAndArrival : Prop :=
  (∀ (s : State) (h : Hatch) (t : Snapshot) (d : Declared) (n : Nat) (r : Reasons) (mass : Option Nat)
        (arrival : BitVec 8),
      let u := s.conclude h t d n r mass arrival
      let v : Verdict :=
        if r.tagSuspect || r.overrange || r.low || r.high || r.unstable then .quarantined else .accepted
      let chosen := s.chooseBin v t.entry.homeBin n
      let old := s.bin chosen.1
      u.journal.entries
          = (s.journal.entries.map fun e =>
              if e.number = n then
                { e with mass := mass, verdict := some v, reasons := r, route := chosen.2, bin := some chosen.1 }
              else e)
      ∧ u.drop h = .tipping t d n (arrival + 1) (s.now + 5000)
      ∧ u.store.holds = s.store.holds - 1 ∧ u.store.queues = s.store.queues
      ∧ u.bin chosen.1
          = { state :=
                if old.arrived.length + old.pending + 1 = (if chosen.1 = 0 then 24 else 12) then .full else old.state
              arrived := old.arrived
              pending := old.pending + 1
              mass := old.mass + mass.getD d.expected
              value := old.value + d.total }
      ∧ (∀ b, b ≠ chosen.1 → u.bin b = s.bin b)
      ∧ (v = .quarantined → u.latched .quarantine = true)
      ∧ u.cover = s.cover ∧ u.tables = s.tables ∧ u.journal.slotHolds = s.journal.slotHolds)
    ∧ ∀ (s : State) (h : Hatch) (n : Nat) (e : Entry), s.findEntry n = some e →
        let u := s.arrive h n
        u.journal.entries = (s.journal.entries.map fun x => if x.number = n then { x with state := .inTray } else x)
        ∧ u.queue h = s.queue h ++ [n] ∧ (∀ k, k ≠ h → u.queue k = s.queue k)
        ∧ (u.port h).receiptDue = some ⟨n, e.epoch, e.created, e.total, e.hatch⟩
        ∧ (u.port h).showDue = some 29 ∧ (u.port h).zeroArmed = true ∧ u.drop h = .idle
        ∧ u.cover = s.cover ∧ u.store.bins = s.store.bins ∧ u.store.holds = s.store.holds
        ∧ u.tables = s.tables ∧ u.journal.slotHolds = s.journal.slotHolds

/-- FAULT and the loss of a link end the transaction: an uncommitted one is released, a committed one stranded. -/
def Obligations.FaultsAndLinkLossEndTransactions : Prop :=
  (∀ (s : State) (h : Hatch),
      let ends (u : State) : Prop :=
        u.store.queues = s.store.queues ∧ u.cover.committed = s.cover.committed ∧ u.tables = s.tables
        ∧ match s.drop h with
          | .opened _ d _ _ _ =>
            u.cover.held = s.cover.held - d.total ∧ u.journal.slotHolds = s.journal.slotHolds - 1
            ∧ u.store.holds = s.store.holds - 1 ∧ u.journal.entries = s.journal.entries
            ∧ u.store.bins = s.store.bins
          | .weighing _ _ n _ =>
            u.cover.held = s.cover.held ∧ u.journal.slotHolds = s.journal.slotHolds
            ∧ u.store.holds = s.store.holds - 1 ∧ u.latched .stranded = true ∧ u.store.bins = s.store.bins
            ∧ u.journal.entries
              = (s.journal.entries.map fun e => if e.number = n then { e with state := .stranded } else e)
          | .tipping _ _ n _ _ =>
            u.cover.held = s.cover.held ∧ u.journal.slotHolds = s.journal.slotHolds
            ∧ u.store.holds = s.store.holds ∧ u.latched .stranded = true
            ∧ u.journal.entries
              = (s.journal.entries.map fun e => if e.number = n then { e with state := .stranded } else e)
            ∧ ∀ e b, s.findEntry n = some e → e.bin = some b →
                u.bin b
                  = { s.bin b with
                      pending := (s.bin b).pending - 1
                      mass := (s.bin b).mass - (e.mass.getD e.expected)
                      value := (s.bin b).value - e.total }
          | .awaitDecl _ _ | .idle | .fault | .offline =>
            u.cover = s.cover ∧ u.journal = s.journal ∧ u.store = s.store
      ends (s.faultHatch h) ∧ ends (s.dropLink h)
      ∧ ((s.faultHatch h).port h).faultFlag = true
      ∧ (s.faultHatch h).drop h = (if s.drop h = .offline then .offline else .fault)
      ∧ (s.dropLink h).drop h = .offline
      ∧ ((s.dropLink h).port h).faultFlag
          = ((s.port h).faultFlag || decide ((s.drop h).code = 4 ∨ (s.drop h).code = 5))
      ∧ ((s.drop h).code = 2 ∨ (s.drop h).code = 3 →
          (s.dropLink h).office.cancels.get 3 = min (s.office.cancels.get 3 + 1) 65535)
      ∧ ((s.drop h).code ≠ 2 → (s.drop h).code ≠ 3 →
          (s.dropLink h).office.cancels.get 3 = s.office.cancels.get 3)
      ∧ (s.faultHatch h).office.cancels.get 3 = s.office.cancels.get 3)
    ∧ ∀ (s : State) (h : Hatch) (r : HeadReport) (surround : Bool),
        (r.tamper = true ∨ surround = true → (s.takeAlarms h r surround).latched .headAlarm = true)
        ∧ (r.chuteBlocked = true → (s.takeAlarms h r surround).latched .jam = true)
        ∧ (r.tamper = true ∨ surround = true ∨ r.chuteBlocked = true →
            (s.takeAlarms h r surround).drop h = (if s.drop h = .offline then .offline else .fault))
        ∧ (r.printerFault = true → (s.takeAlarms h r surround).latched .printer = true
            ∧ ((s.takeAlarms h r surround).port h).receiptMode = .display)
        ∧ (r.tamper = false → surround = false → r.chuteBlocked = false →
            (s.takeAlarms h r surround).drop h = s.drop h)

/-- The measured mass is |d| × K / 65,536 g rounded to the nearest gram, half away from zero, clamped to 0 and 20,000. -/
def Obligations.MeasuredMassIsRoundedAndClamped : Prop :=
  ∀ (c : Calibration) (raw : Int),
    (raw < c.zero → Machine.measure c raw = (0, false))
    ∧ (c.zero ≤ raw → ∃ m : Nat, 65536 * (m : Int) ≤ (raw - c.zero) * c.span + 32768
        ∧ (raw - c.zero) * c.span + 32768 < 65536 * ((m : Int) + 1)
        ∧ Machine.measure c raw = (min m 20000, decide (20000 < m)))

/-- Each token and declaration check refuses with its own name what the checks before it pass, and what passes carries what the rules compute. -/
def Obligations.TokensAndDeclarationsMeetTheirChecks : Prop :=
  (∀ (s : State) (d : Declaration), s.formatOk d = true ↔
      1 ≤ d.lines.length ∧ d.lines.length ≤ 6 ∧ (d.lines.map Line.denom).Nodup
      ∧ (∀ l ∈ d.lines, 1 ≤ l.count ∧ l.count ≤ 9999
          ∧ ∃ i : Fin 16, i.val = l.denom ∧ s.tables.denoms.get i ≠ .void)
      ∧ d.bagClass ≤ 3 ∧ 1 ≤ d.total ∧ d.total ≤ 99999999 ∧ d.serial ≤ 9999999999)
    ∧ (∀ (s : State) (h : Hatch) (t : Snapshot) (d : Declaration),
        let e := (s.expectedMg d + 500) / 1000
        let inside := ∃ r ∈ s.tables.ranges, r.first ≤ d.serial ∧ d.serial ≤ r.last
        let fails (x : Refuse) : Prop := s.checkDeclaration h t d = .error x
        let summed := s.formatOk d = true ∧ s.linesTotal d.lines = d.total
        let weighed := summed ∧ e ≤ 20000
        let screened :=
          weighed ∧ (s.tables.screenMode = .revoke → ¬inside) ∧ (s.tables.screenMode = .issue → inside)
        let first := screened ∧ s.repeats h d.serial = false
        let valued := first ∧ s.valueTonight t + d.total ≤ t.entry.maxValue
        let covered := valued ∧ s.cover.committed + s.cover.held + d.total ≤ s.tables.limit
        (covered → s.journalRoom ≠ 0 → s.storeRoom ≠ 0 → s.checkDeclaration h t d
          = .ok ⟨d.serial, d.bagClass, d.lines, d.total, e, s.tables.fixedPart + e * s.tables.perMille / 1000,
              s.tables.suspectMap.get ⟨d.serial % 1021, Nat.mod_lt _ (by decide)⟩⟩)
        ∧ (covered → s.journalRoom ≠ 0 → s.storeRoom = 0 → fails .storeFullDecl)
        ∧ (covered → s.journalRoom = 0 → fails .journalFullDecl)
        ∧ (valued → ¬covered → fails .cover)
        ∧ (first → ¬valued → fails .valueLimit)
        ∧ (screened → ¬first → fails .tagRepeat)
        ∧ (weighed → s.tables.screenMode = .revoke → inside → fails .tagRevoked)
        ∧ (weighed → s.tables.screenMode = .issue → ¬inside → fails .tagNotIssued)
        ∧ (summed → ¬weighed → fails .declMass)
        ∧ (s.repeats h d.serial = true ↔
            (∃ x ∈ s.journal.entries, x.serial = d.serial)
            ∨ ∃ k, k ≠ h ∧ ∃ tr x o past dl, s.drop k = .opened tr x o past dl ∧ x.serial = d.serial)
        ∧ (s.formatOk d = false → fails .declFormat)
        ∧ (s.formatOk d = true → s.linesTotal d.lines ≠ d.total → fails .declTotal))
    ∧ ∀ (s : State) (h : Hatch) (token : Nat),
        (s.intake.state = .stopped ∨ s.intake.state = .stopping ∨ s.intake.state = .closed →
          s.checkToken h token = .error .notOpen)
        ∧ (s.intake.state = .suspended →
          s.checkToken h token = .error (if s.journalRoom = 0 then .journalFullToken else .storeFullToken))
        ∧ (s.intake.state = .running → s.inService h = false → s.checkToken h token = .error .outOfService)
        ∧ (s.intake.state = .running → s.inService h = true → (s.queue h).length = (s.port h).depth →
          s.checkToken h token = .error .trayFull)
        ∧ (s.intake.state = .running → s.inService h = true → (s.queue h).length ≠ (s.port h).depth →
          token = 0 ∨ s.lookup token = none → s.checkToken h token = .error .unknownToken)
        ∧ ∀ slot e, s.intake.state = .running → s.inService h = true → (s.queue h).length ≠ (s.port h).depth →
            token ≠ 0 → s.lookup token = some (slot, e) →
            (e.state = .suspended → s.checkToken h token = .error .depositorSuspended)
            ∧ (e.state = .active → s.inWindow (State.classWindow e.windowClass) = false →
              s.checkToken h token = .error .outsideHours)
            ∧ (e.state = .active → s.inWindow (State.classWindow e.windowClass) = true →
              ((∃ k, k ≠ h ∧ s.busyWith k e.token = true) → s.checkToken h token = .error .tokenBusy)
              ∧ ((∀ k, k ≠ h → s.busyWith k e.token = false) →
                s.checkToken h token =
                  if e.maxBags < (s.counts.get slot).bags + 1 then .error .bagLimit
                  else .ok ⟨slot, e, (s.counts.get slot).bags, (s.counts.get slot).value⟩))

/-- HATCH_CONFIG replaces the six fields and restarts or disables a fitted port, and leaves one not fitted as it is. -/
def Obligations.HatchConfigReplacesAndRestarts : Prop :=
  ∀ (s : State) (a : HatchConfigArgs), s.Ready →
    (a.hatch = 0 ∨ 4 < a.hatch ∨ 1 < a.enable ∨ 1 < a.printOffered ∨ a.depth = 0 ∨ 3 < a.depth ∨ 31 < a.divider
        ∨ 2 < a.aux ∨ 1 < a.autoPolarity →
      exec (.hatchConfig (.fits a)) s = .next (s.answered 0x60 .range []))
    ∧ ∀ (h : Hatch) (enable print auto : Bool) (x : AuxFunction),
        a.hatch = h.num → a.enable = enable.toNat → a.printOffered = print.toNat → a.autoPolarity = auto.toNat →
        a.aux = x.code → 1 ≤ a.depth → a.depth ≤ 3 → a.divider ≤ 31 →
        let p := s.port h
        let q : Port :=
          { p with
            streak := if auto then p.streak else 0
            surroundLatch := if x = .surround then p.surroundLatch else false }
        let left : Port :=
          if p.link = .up then
            { q with
              window := none, snapshot := none, takenToken := none, takenDecl := none, showDue := none
              receiptDue := none, zeroArmed := false, release := none, drop := .offline }
          else q
        let next : Port :=
          if s.straps.hatches < h.num then q
          else if enable then { left with link := .holdOff (s.now + 1500), streak := 0 }
          else { left with link := .disabled }
        ((s.drop h).code = 2 ∨ (s.drop h).code = 3 ∨ (s.drop h).code = 4 ∨ (s.drop h).code = 5 →
          exec (.hatchConfig (.fits a)) s = .next (s.answered 0x60 .state []))
        ∧ ((s.drop h).code = 0 ∨ (s.drop h).code = 1 ∨ (s.drop h).code = 6 →
          exec (.hatchConfig (.fits a)) s = .next
            (State.answered
              { s with
                tables :=
                  { s.tables with
                    configs := s.tables.configs.set h ⟨enable, print, a.depth, a.divider, x, auto⟩ }
                ports := s.ports.set h next }
              0x60 .ok []))

/-- HATCH_CALIBRATE replaces a calibration and disarms its mark, HATCH_RELINK restarts a link, HATCH_SHOW makes a SHOW due. -/
def Obligations.CalibrateRelinkAndShow : Prop :=
  ∀ s : State, s.Ready →
    (∀ a : CalibrateArgs,
        (a.hatch = 0 ∨ 4 < a.hatch ∨ a.zero < -8388608 ∨ 8388607 < a.zero ∨ a.span = 0 ∨ 65535 < a.span ∨ 4095 < a.band →
          exec (.hatchCalibrate (.fits a)) s = .next (s.answered 0x61 .range []))
        ∧ ∀ h : Hatch, a.hatch = h.num → -8388608 ≤ a.zero → a.zero ≤ 8388607 → 1 ≤ a.span → a.span ≤ 65535 →
            a.band ≤ 4095 →
            exec (.hatchCalibrate (.fits a)) s = .next
              (State.answered
                { s with
                  tables :=
                    { s.tables with calibrations := s.tables.calibrations.set h ⟨a.zero, a.span, a.band⟩ }
                  ports := s.ports.set h { s.port h with zeroArmed := false } }
                0x61 .ok []))
    ∧ (∀ n, n = 0 ∨ 4 < n →
        exec (.hatchRelink (.fits n)) s = .next (s.answered 0x62 .range [])
        ∧ ∀ code, exec (.hatchShow (.fits ⟨n, code⟩)) s = .next (s.answered 0x63 .range []))
    ∧ ∀ h : Hatch,
        let p := s.port h
        (p.link = .disabled → exec (.hatchRelink (.fits h.num)) s = .next (s.answered 0x62 .state []))
        ∧ (p.link.code = 1 ∨ p.link.code = 2 →
          exec (.hatchRelink (.fits h.num)) s = .next
            (State.answered
              { s with ports := s.ports.set h { p with link := .holdOff (s.now + 1500), streak := 0 } } 0x62 .ok []))
        ∧ (p.link = .up →
          ∃ u : State, exec (.hatchRelink (.fits h.num)) s = .next (u.answered 0x62 .ok [])
            ∧ (u.port h).link = .holdOff (s.now + 1500) ∧ (u.port h).streak = 0 ∧ u.drop h = .offline
            ∧ (u.port h).snapshot = none ∧ (u.port h).takenToken = none ∧ (u.port h).takenDecl = none
            ∧ (u.port h).showDue = none ∧ (u.port h).receiptDue = none ∧ (u.port h).release = none
            ∧ (u.port h).zeroArmed = false ∧ u.store.queues = s.store.queues ∧ u.tables = s.tables
            ∧ u.cover.committed = s.cover.committed ∧ u.now = s.now)
        ∧ ∀ code, exec (.hatchShow (.fits ⟨h.num, code⟩)) s = .next
            (if code < 32 ∨ 63 < code then s.answered 0x63 .range []
            else if p.link = .up then
              State.answered { s with ports := s.ports.set h { p with showDue := some code } } 0x63 .ok []
            else s.answered 0x63 .state [])

/-- HATCH_CLEAR returns a faulted hatch to IDLE where its tray agrees, and answers NOT_CLEARED where it does not. -/
def Obligations.HatchClearReturnsToService : Prop :=
  ∀ s : State, s.Ready →
    (∀ n, n = 0 ∨ 4 < n → exec (.hatchClear (.fits n)) s = .next (s.answered 0x64 .range []))
    ∧ ∀ h : Hatch,
        let p := s.port h
        ((s.drop h).code ≠ 6 ∨ p.link ≠ .up ∨ p.snapshot = none →
          exec (.hatchClear (.fits h.num)) s = .next (s.answered 0x64 .state []))
        ∧ ∀ r, (s.drop h).code = 6 → p.link = .up → p.snapshot = some r →
          exec (.hatchClear (.fits h.num)) s = .next
            (if s.trayAgrees h r.trayCount then
              State.answered { s with ports := s.ports.set h { p with faultFlag := false, drop := .idle } } 0x64 .ok [0]
            else (s.failVerification h).answered 0x64 .ok [1])

/-- A power fail or the reset input silences every port, ends what is in flight and keeps both stores' content.
The holds, carousel fields and intake state that stand while off are the model's choice (log entry 15), and so
is when an epoch write is under way (log entry 21). -/
def Obligations.PowerFailSilencesTheController : Prop :=
  ∀ (s : State) (cut : Bool),
    (s.running = true →
      ∃ t : State, exec (.powerFail cut) s = .next { t with mainsGood := false, resetReleased := true }
        ∧ exec (.resetInput cut) s = .next { t with mainsGood := true, resetReleased := false }
        ∧ (∀ h, t.drop h = .offline ∧ (t.port h).link = .disabled ∧ (t.port h).lineOut = none
            ∧ (t.port h).window = none ∧ (t.port h).snapshot = none ∧ (t.port h).release = none
            ∧ (t.port h).zeroArmed = false ∧ (t.port h).showDue = none ∧ (t.port h).receiptDue = none)
        ∧ t.office.hand = none ∧ t.office.replies = [] ∧ t.office.notice = none ∧ t.office.transmitter = none
        ∧ t.store.carousel = .unhomed ∧ t.store.position = none
        ∧ t.cover.held = 0 ∧ t.journal.slotHolds = 0 ∧ t.store.holds = 0
        ∧ t.tableStore
          = { s.tableStore with
              good := s.tableStore.good && !s.storing && !(cut && s.tableStore.writing), writing := false }
        ∧ t.journal.entries = s.journal.entries ∧ t.journal.next = s.journal.next ∧ t.journal.last = s.journal.last
        ∧ t.store.bins = s.store.bins ∧ t.store.queues = s.store.queues
        ∧ t.cover.committed = s.cover.committed ∧ t.counts = s.counts ∧ t.intake = s.intake)
    ∧ (s.running = false →
        exec (.powerFail cut) s = .next { s with mainsGood := false }
        ∧ exec (.resetInput cut) s = .next { s with resetReleased := false })

/-- Start-up rebuilds the controller from its two stores, strands what it cannot vouch for and rejoins hatches and carousel.
That a running controller first meets the reset input, where a start-up may be cut and what falls between its
phases, and the values that stand while off are the model's choices (log entries 13, 14 and 15); the flag of an
epoch write under way, which start-up clears, is the model's own (log entry 21). -/
def Obligations.StartUpRebuildsFromTheStores : Prop :=
  (∀ (a : StartUpArgs) (s : State), a.ending ≠ .completes →
      ∃ t, exec (.startUp a) s = .next t ∧ t.mainsGood = false ∧ t.office.transmitter = none
        ∧ (∀ h, (t.port h).link = .disabled ∧ t.drop h = .offline)
        ∧ (a.retainedIntact = false → a.ending = .cutBeforeEpochWrite →
          t.tableStore = { s.tableStore with good := s.tableStore.good && !s.storing, writing := false })
        ∧ (a.retainedIntact = false → a.ending = .cutInEpochWrite → t.tableStore.good = false))
    ∧ ∀ (a : StartUpArgs) (s : State), a.ending = .completes →
    let lost := a.retainedIntact = false
    let good : Bool := s.tableStore.good && !s.storing
    let loaded : Tables := if good then s.tableStore.tables else Tables.defaults
    let matched (i : Slot) : NightCount :=
      let old := if lost then ⟨0, 0, none⟩ else s.counts.get i
      match loaded.depositors.get i with
      | none => ⟨0, 0, none⟩
      | some e => if old.token = some e.token then old else ⟨0, 0, some e.token⟩
    let advances := (a.during.filter fun e => decide (1 ≤ e.1 ∧ e.1 ≤ 6 ∧ e.2 = .clockAdvance)).length
    let pulses := (a.during.filter fun e => decide (5 ≤ e.1 ∧ e.1 ≤ 6 ∧ e.2 = .dropPulse)).length
    ∃ t, exec (.startUp a) s = .next t
      ∧ t.running = true ∧ t.straps = ⟨a.hatches, a.rate⟩
      ∧ t.tables = { loaded with limit := max loaded.limit t.cover.committed }
      ∧ t.cover.committed = (if lost then 0 else s.cover.committed) ∧ t.cover.held = 0
      ∧ t.journal.slotHolds = 0 ∧ t.store.holds = 0
      ∧ t.journal.next = (if lost then 1 else s.journal.next)
      ∧ t.journal.last = (if lost then 0 else s.journal.last)
      ∧ t.journal.entries
        = (if lost then []
          else
            s.journal.entries.map fun e =>
              if ∃ x ∈ s.journal.entries, x.number = e.number ∧ x.state = .inChute then { e with state := .stranded }
              else e)
      ∧ t.journal.epoch
        = (if good then if lost then (s.tableStore.epoch + 1) % 65536 else s.tableStore.epoch
          else if lost then 1 else 0)
      ∧ t.tableStore
        = { s.tableStore with
            good := good, epoch := if good then t.journal.epoch else s.tableStore.epoch, writing := false }
      ∧ (lost → ∀ b, t.bin b = ⟨.unknown, [], 0, 0, 0⟩)
      ∧ (¬lost →
        t.store.bins
          = (((s.journal.entries.filter fun e => decide (e.state = .inChute)).map Entry.number).foldl
              State.releasePlace s).store.bins)
      ∧ t.store.queues = (if lost then PerHatch.all [] else s.store.queues)
      ∧ (lost ∨ s.intake.clock = none → t.intake.clock = none)
      ∧ (∀ c, ¬lost → s.intake.clock = some c → ∃ c', t.intake.clock = some c'
          ∧ c'.day.val * 86400 + c'.sec.val = (c.day.val * 86400 + c.sec.val + advances) % 604800)
      ∧ t.intake.enable = (if lost then false else s.intake.enable)
      ∧ t.intake.state = t.intakeTarget ∧ t.intake.windowMark = t.inWindow 0
      ∧ (∀ i, (t.counts.get i).token = (matched i).token)
      ∧ t.store.lastGranted = .h4
      ∧ (∀ h, t.drop h = .offline ∧ (t.port h).faultFlag = false ∧ (t.port h).inverted = false
          ∧ (t.port h).depth = (loaded.configs.get h).depth ∧ (t.port h).zeroArmed = false
          ∧ (if h.num ≤ a.hatches ∧ (loaded.configs.get h).enable = true then ∃ x, (t.port h).link = .holdOff x
            else (t.port h).link = .disabled))
      ∧ t.mapAccess = ⟨0, 1020, 0⟩ ∧ t.office.hand = none ∧ t.office.timer = none ∧ t.office.count = 0
      ∧ t.office.unexpectedDrops = min pulses 65535 ∧ t.latched .unexpectedDrop = decide (0 < pulses)
      ∧ t.latched .powerRestart = true
      ∧ t.latched .retainedLost = decide lost
      ∧ t.latched .tableStoreBad = !good
      ∧ t.office.transmitter = some (.notice (t.noticeContent
          (Cause.intake.bit
            ||| (if t.office.flags &&& ~~~loaded.alertMask &&& 0x1FFF00#21 ≠ 0 then Cause.alarm.bit else 0)
            ||| (if t.office.flags &&& ~~~loaded.alertMask &&& 0x0000FF#21 ≠ 0 then Cause.attention.bit else 0))))
      ∧ t.office.notice = none ∧ t.office.replies = []
      ∧ t.Sound ∧ t.NothingWaits
      ∧ (a.during = [] →
        t.now = s.now ∧ t.store.position = none ∧ t.store.doorOpen = s.store.doorOpen
        ∧ t.store.carousel = (if s.store.doorOpen then .haltedHoming else .homing (s.now + 40000))
        ∧ (∀ h, h.num ≤ a.hatches → (loaded.configs.get h).enable = true →
          (t.port h).link = .holdOff (s.now + 1500))
        ∧ ∀ i, t.counts.get i
            = if t.inWindow 0 = true ∧ ¬lost ∧ s.intake.windowMark = false then ⟨0, 0, (matched i).token⟩
              else matched i)
end

