-- ==== Sys2Proof/Laws/State.lean ====
section
/-! SUPPORT. What each update of the state leaves: one lemma per field per update, and the small laws of
tables, of values per hatch, and of a port replaced. -/

namespace Sys2Proof

/-! ## Tables -/

@[simp] theorem Tab.get_put_self {α : Type} {n : Nat} (t : Tab α n) (i : Fin n) (a : α) : (t.put i a).get i = a := by
  simp [Tab.get, Tab.put]

theorem Tab.get_put_ne {α : Type} {n : Nat} (t : Tab α n) {i j : Fin n} (h : i ≠ j) (a : α) :
    (t.put i a).get j = t.get j := by
  simp only [Tab.get, Tab.put]
  exact List.getElem_set_ne (fun e => h (Fin.ext e)) _

@[simp] theorem Tab.get_fill {α : Type} (n : Nat) (a : α) (i : Fin n) : (Tab.fill n a).get i = a := by
  simp [Tab.get, Tab.fill]

@[simp] theorem Tab.get_map {α β : Type} {n : Nat} (f : α → β) (t : Tab α n) (i : Fin n) :
    (t.map f).get i = f (t.get i) := by
  simp [Tab.get, Tab.map]

@[simp] theorem Tab.get_zipWith {α β γ : Type} {n : Nat} (f : α → β → γ) (t : Tab α n) (u : Tab β n) (i : Fin n) :
    (Tab.zipWith f t u).get i = f (t.get i) (u.get i) := by
  simp [Tab.get, Tab.zipWith]

end Sys2Proof

namespace Sys2Proof.Machine

open Sys2Proof

/-! ## Values per hatch -/

@[simp] theorem PerHatch.get_all {α : Type} (a : α) (h : Hatch) : (PerHatch.all a).get h = a := by cases h <;> rfl

@[simp] theorem PerHatch.get_set_self {α : Type} (p : PerHatch α) (h : Hatch) (a : α) : (p.set h a).get h = a := by
  cases h <;> rfl

theorem PerHatch.get_set_ne {α : Type} (p : PerHatch α) {h k : Hatch} (e : h ≠ k) (a : α) :
    (p.set h a).get k = p.get k := by
  cases h <;> cases k <;> first | rfl | exact absurd rfl e

theorem PerHatch.get_set {α : Type} (p : PerHatch α) (h k : Hatch) (a : α) :
    (p.set h a).get k = if h = k then a else p.get k := by
  by_cases e : h = k
  · subst e; simp
  · simp [e, PerHatch.get_set_ne p e]

@[simp] theorem PerHatch.set_get {α : Type} (p : PerHatch α) (h : Hatch) : p.set h (p.get h) = p := by cases h <;> rfl

@[simp] theorem PerHatch.set_set {α : Type} (p : PerHatch α) (h : Hatch) (a b : α) :
    (p.set h a).set h b = p.set h b := by cases h <;> rfl

theorem PerHatch.ext_get {α : Type} {p q : PerHatch α} (e : ∀ h, p.get h = q.get h) : p = q := by
  cases p; cases q
  have h1 := e .h1; have h2 := e .h2; have h3 := e .h3; have h4 := e .h4
  simp only [PerHatch.get] at h1 h2 h3 h4
  subst h1; subst h2; subst h3; subst h4; rfl

theorem Hatch.mem_all (h : Hatch) : h ∈ Hatch.all := by cases h <;> decide

namespace State

/-! ## Updates of the whole state -/

@[simp] theorem setNow_now (s : State) (x : Nat) : (s.setNow x).now = x := rfl
@[simp] theorem setNow_mainsGood (s : State) (x : Nat) : (s.setNow x).mainsGood = s.mainsGood := rfl
@[simp] theorem setNow_resetReleased (s : State) (x : Nat) : (s.setNow x).resetReleased = s.resetReleased := rfl
@[simp] theorem setNow_straps (s : State) (x : Nat) : (s.setNow x).straps = s.straps := rfl
@[simp] theorem setNow_tables (s : State) (x : Nat) : (s.setNow x).tables = s.tables := rfl
@[simp] theorem setNow_tableStore (s : State) (x : Nat) : (s.setNow x).tableStore = s.tableStore := rfl
@[simp] theorem setNow_counts (s : State) (x : Nat) : (s.setNow x).counts = s.counts := rfl
@[simp] theorem setNow_mapAccess (s : State) (x : Nat) : (s.setNow x).mapAccess = s.mapAccess := rfl
@[simp] theorem setNow_cover (s : State) (x : Nat) : (s.setNow x).cover = s.cover := rfl
@[simp] theorem setNow_journal (s : State) (x : Nat) : (s.setNow x).journal = s.journal := rfl
@[simp] theorem setNow_store (s : State) (x : Nat) : (s.setNow x).store = s.store := rfl
@[simp] theorem setNow_intake (s : State) (x : Nat) : (s.setNow x).intake = s.intake := rfl
@[simp] theorem setNow_office (s : State) (x : Nat) : (s.setNow x).office = s.office := rfl
@[simp] theorem setNow_ports (s : State) (x : Nat) : (s.setNow x).ports = s.ports := rfl
@[simp] theorem setNow_pending (s : State) (x : Nat) : (s.setNow x).pending = s.pending := rfl

@[simp] theorem setMainsGood_now (s : State) (x : Bool) : (s.setMainsGood x).now = s.now := rfl
@[simp] theorem setMainsGood_mainsGood (s : State) (x : Bool) : (s.setMainsGood x).mainsGood = x := rfl
@[simp] theorem setMainsGood_resetReleased (s : State) (x : Bool) : (s.setMainsGood x).resetReleased = s.resetReleased := rfl
@[simp] theorem setMainsGood_straps (s : State) (x : Bool) : (s.setMainsGood x).straps = s.straps := rfl
@[simp] theorem setMainsGood_tables (s : State) (x : Bool) : (s.setMainsGood x).tables = s.tables := rfl
@[simp] theorem setMainsGood_tableStore (s : State) (x : Bool) : (s.setMainsGood x).tableStore = s.tableStore := rfl
@[simp] theorem setMainsGood_counts (s : State) (x : Bool) : (s.setMainsGood x).counts = s.counts := rfl
@[simp] theorem setMainsGood_mapAccess (s : State) (x : Bool) : (s.setMainsGood x).mapAccess = s.mapAccess := rfl
@[simp] theorem setMainsGood_cover (s : State) (x : Bool) : (s.setMainsGood x).cover = s.cover := rfl
@[simp] theorem setMainsGood_journal (s : State) (x : Bool) : (s.setMainsGood x).journal = s.journal := rfl
@[simp] theorem setMainsGood_store (s : State) (x : Bool) : (s.setMainsGood x).store = s.store := rfl
@[simp] theorem setMainsGood_intake (s : State) (x : Bool) : (s.setMainsGood x).intake = s.intake := rfl
@[simp] theorem setMainsGood_office (s : State) (x : Bool) : (s.setMainsGood x).office = s.office := rfl
@[simp] theorem setMainsGood_ports (s : State) (x : Bool) : (s.setMainsGood x).ports = s.ports := rfl
@[simp] theorem setMainsGood_pending (s : State) (x : Bool) : (s.setMainsGood x).pending = s.pending := rfl

@[simp] theorem setResetReleased_now (s : State) (x : Bool) : (s.setResetReleased x).now = s.now := rfl
@[simp] theorem setResetReleased_mainsGood (s : State) (x : Bool) : (s.setResetReleased x).mainsGood = s.mainsGood := rfl
@[simp] theorem setResetReleased_resetReleased (s : State) (x : Bool) : (s.setResetReleased x).resetReleased = x := rfl
@[simp] theorem setResetReleased_straps (s : State) (x : Bool) : (s.setResetReleased x).straps = s.straps := rfl
@[simp] theorem setResetReleased_tables (s : State) (x : Bool) : (s.setResetReleased x).tables = s.tables := rfl
@[simp] theorem setResetReleased_tableStore (s : State) (x : Bool) : (s.setResetReleased x).tableStore = s.tableStore := rfl
@[simp] theorem setResetReleased_counts (s : State) (x : Bool) : (s.setResetReleased x).counts = s.counts := rfl
@[simp] theorem setResetReleased_mapAccess (s : State) (x : Bool) : (s.setResetReleased x).mapAccess = s.mapAccess := rfl
@[simp] theorem setResetReleased_cover (s : State) (x : Bool) : (s.setResetReleased x).cover = s.cover := rfl
@[simp] theorem setResetReleased_journal (s : State) (x : Bool) : (s.setResetReleased x).journal = s.journal := rfl
@[simp] theorem setResetReleased_store (s : State) (x : Bool) : (s.setResetReleased x).store = s.store := rfl
@[simp] theorem setResetReleased_intake (s : State) (x : Bool) : (s.setResetReleased x).intake = s.intake := rfl
@[simp] theorem setResetReleased_office (s : State) (x : Bool) : (s.setResetReleased x).office = s.office := rfl
@[simp] theorem setResetReleased_ports (s : State) (x : Bool) : (s.setResetReleased x).ports = s.ports := rfl
@[simp] theorem setResetReleased_pending (s : State) (x : Bool) : (s.setResetReleased x).pending = s.pending := rfl

@[simp] theorem setStraps_now (s : State) (x : Straps) : (s.setStraps x).now = s.now := rfl
@[simp] theorem setStraps_mainsGood (s : State) (x : Straps) : (s.setStraps x).mainsGood = s.mainsGood := rfl
@[simp] theorem setStraps_resetReleased (s : State) (x : Straps) : (s.setStraps x).resetReleased = s.resetReleased := rfl
@[simp] theorem setStraps_straps (s : State) (x : Straps) : (s.setStraps x).straps = x := rfl
@[simp] theorem setStraps_tables (s : State) (x : Straps) : (s.setStraps x).tables = s.tables := rfl
@[simp] theorem setStraps_tableStore (s : State) (x : Straps) : (s.setStraps x).tableStore = s.tableStore := rfl
@[simp] theorem setStraps_counts (s : State) (x : Straps) : (s.setStraps x).counts = s.counts := rfl
@[simp] theorem setStraps_mapAccess (s : State) (x : Straps) : (s.setStraps x).mapAccess = s.mapAccess := rfl
@[simp] theorem setStraps_cover (s : State) (x : Straps) : (s.setStraps x).cover = s.cover := rfl
@[simp] theorem setStraps_journal (s : State) (x : Straps) : (s.setStraps x).journal = s.journal := rfl
@[simp] theorem setStraps_store (s : State) (x : Straps) : (s.setStraps x).store = s.store := rfl
@[simp] theorem setStraps_intake (s : State) (x : Straps) : (s.setStraps x).intake = s.intake := rfl
@[simp] theorem setStraps_office (s : State) (x : Straps) : (s.setStraps x).office = s.office := rfl
@[simp] theorem setStraps_ports (s : State) (x : Straps) : (s.setStraps x).ports = s.ports := rfl
@[simp] theorem setStraps_pending (s : State) (x : Straps) : (s.setStraps x).pending = s.pending := rfl

@[simp] theorem setTables_now (s : State) (x : Tables) : (s.setTables x).now = s.now := rfl
@[simp] theorem setTables_mainsGood (s : State) (x : Tables) : (s.setTables x).mainsGood = s.mainsGood := rfl
@[simp] theorem setTables_resetReleased (s : State) (x : Tables) : (s.setTables x).resetReleased = s.resetReleased := rfl
@[simp] theorem setTables_straps (s : State) (x : Tables) : (s.setTables x).straps = s.straps := rfl
@[simp] theorem setTables_tables (s : State) (x : Tables) : (s.setTables x).tables = x := rfl
@[simp] theorem setTables_tableStore (s : State) (x : Tables) : (s.setTables x).tableStore = s.tableStore := rfl
@[simp] theorem setTables_counts (s : State) (x : Tables) : (s.setTables x).counts = s.counts := rfl
@[simp] theorem setTables_mapAccess (s : State) (x : Tables) : (s.setTables x).mapAccess = s.mapAccess := rfl
@[simp] theorem setTables_cover (s : State) (x : Tables) : (s.setTables x).cover = s.cover := rfl
@[simp] theorem setTables_journal (s : State) (x : Tables) : (s.setTables x).journal = s.journal := rfl
@[simp] theorem setTables_store (s : State) (x : Tables) : (s.setTables x).store = s.store := rfl
@[simp] theorem setTables_intake (s : State) (x : Tables) : (s.setTables x).intake = s.intake := rfl
@[simp] theorem setTables_office (s : State) (x : Tables) : (s.setTables x).office = s.office := rfl
@[simp] theorem setTables_ports (s : State) (x : Tables) : (s.setTables x).ports = s.ports := rfl
@[simp] theorem setTables_pending (s : State) (x : Tables) : (s.setTables x).pending = s.pending := rfl

@[simp] theorem setTableStore_now (s : State) (x : TableStore) : (s.setTableStore x).now = s.now := rfl
@[simp] theorem setTableStore_mainsGood (s : State) (x : TableStore) : (s.setTableStore x).mainsGood = s.mainsGood := rfl
@[simp] theorem setTableStore_resetReleased (s : State) (x : TableStore) : (s.setTableStore x).resetReleased = s.resetReleased := rfl
@[simp] theorem setTableStore_straps (s : State) (x : TableStore) : (s.setTableStore x).straps = s.straps := rfl
@[simp] theorem setTableStore_tables (s : State) (x : TableStore) : (s.setTableStore x).tables = s.tables := rfl
@[simp] theorem setTableStore_tableStore (s : State) (x : TableStore) : (s.setTableStore x).tableStore = x := rfl
@[simp] theorem setTableStore_counts (s : State) (x : TableStore) : (s.setTableStore x).counts = s.counts := rfl
@[simp] theorem setTableStore_mapAccess (s : State) (x : TableStore) : (s.setTableStore x).mapAccess = s.mapAccess := rfl
@[simp] theorem setTableStore_cover (s : State) (x : TableStore) : (s.setTableStore x).cover = s.cover := rfl
@[simp] theorem setTableStore_journal (s : State) (x : TableStore) : (s.setTableStore x).journal = s.journal := rfl
@[simp] theorem setTableStore_store (s : State) (x : TableStore) : (s.setTableStore x).store = s.store := rfl
@[simp] theorem setTableStore_intake (s : State) (x : TableStore) : (s.setTableStore x).intake = s.intake := rfl
@[simp] theorem setTableStore_office (s : State) (x : TableStore) : (s.setTableStore x).office = s.office := rfl
@[simp] theorem setTableStore_ports (s : State) (x : TableStore) : (s.setTableStore x).ports = s.ports := rfl
@[simp] theorem setTableStore_pending (s : State) (x : TableStore) : (s.setTableStore x).pending = s.pending := rfl

@[simp] theorem setCounts_now (s : State) (x : Tab NightCount 512) : (s.setCounts x).now = s.now := rfl
@[simp] theorem setCounts_mainsGood (s : State) (x : Tab NightCount 512) : (s.setCounts x).mainsGood = s.mainsGood := rfl
@[simp] theorem setCounts_resetReleased (s : State) (x : Tab NightCount 512) : (s.setCounts x).resetReleased = s.resetReleased := rfl
@[simp] theorem setCounts_straps (s : State) (x : Tab NightCount 512) : (s.setCounts x).straps = s.straps := rfl
@[simp] theorem setCounts_tables (s : State) (x : Tab NightCount 512) : (s.setCounts x).tables = s.tables := rfl
@[simp] theorem setCounts_tableStore (s : State) (x : Tab NightCount 512) : (s.setCounts x).tableStore = s.tableStore := rfl
@[simp] theorem setCounts_counts (s : State) (x : Tab NightCount 512) : (s.setCounts x).counts = x := rfl
@[simp] theorem setCounts_mapAccess (s : State) (x : Tab NightCount 512) : (s.setCounts x).mapAccess = s.mapAccess := rfl
@[simp] theorem setCounts_cover (s : State) (x : Tab NightCount 512) : (s.setCounts x).cover = s.cover := rfl
@[simp] theorem setCounts_journal (s : State) (x : Tab NightCount 512) : (s.setCounts x).journal = s.journal := rfl
@[simp] theorem setCounts_store (s : State) (x : Tab NightCount 512) : (s.setCounts x).store = s.store := rfl
@[simp] theorem setCounts_intake (s : State) (x : Tab NightCount 512) : (s.setCounts x).intake = s.intake := rfl
@[simp] theorem setCounts_office (s : State) (x : Tab NightCount 512) : (s.setCounts x).office = s.office := rfl
@[simp] theorem setCounts_ports (s : State) (x : Tab NightCount 512) : (s.setCounts x).ports = s.ports := rfl
@[simp] theorem setCounts_pending (s : State) (x : Tab NightCount 512) : (s.setCounts x).pending = s.pending := rfl

@[simp] theorem setMapAccess_now (s : State) (x : MapAccess) : (s.setMapAccess x).now = s.now := rfl
@[simp] theorem setMapAccess_mainsGood (s : State) (x : MapAccess) : (s.setMapAccess x).mainsGood = s.mainsGood := rfl
@[simp] theorem setMapAccess_resetReleased (s : State) (x : MapAccess) : (s.setMapAccess x).resetReleased = s.resetReleased := rfl
@[simp] theorem setMapAccess_straps (s : State) (x : MapAccess) : (s.setMapAccess x).straps = s.straps := rfl
@[simp] theorem setMapAccess_tables (s : State) (x : MapAccess) : (s.setMapAccess x).tables = s.tables := rfl
@[simp] theorem setMapAccess_tableStore (s : State) (x : MapAccess) : (s.setMapAccess x).tableStore = s.tableStore := rfl
@[simp] theorem setMapAccess_counts (s : State) (x : MapAccess) : (s.setMapAccess x).counts = s.counts := rfl
@[simp] theorem setMapAccess_mapAccess (s : State) (x : MapAccess) : (s.setMapAccess x).mapAccess = x := rfl
@[simp] theorem setMapAccess_cover (s : State) (x : MapAccess) : (s.setMapAccess x).cover = s.cover := rfl
@[simp] theorem setMapAccess_journal (s : State) (x : MapAccess) : (s.setMapAccess x).journal = s.journal := rfl
@[simp] theorem setMapAccess_store (s : State) (x : MapAccess) : (s.setMapAccess x).store = s.store := rfl
@[simp] theorem setMapAccess_intake (s : State) (x : MapAccess) : (s.setMapAccess x).intake = s.intake := rfl
@[simp] theorem setMapAccess_office (s : State) (x : MapAccess) : (s.setMapAccess x).office = s.office := rfl
@[simp] theorem setMapAccess_ports (s : State) (x : MapAccess) : (s.setMapAccess x).ports = s.ports := rfl
@[simp] theorem setMapAccess_pending (s : State) (x : MapAccess) : (s.setMapAccess x).pending = s.pending := rfl

@[simp] theorem setCover_now (s : State) (x : Cover) : (s.setCover x).now = s.now := rfl
@[simp] theorem setCover_mainsGood (s : State) (x : Cover) : (s.setCover x).mainsGood = s.mainsGood := rfl
@[simp] theorem setCover_resetReleased (s : State) (x : Cover) : (s.setCover x).resetReleased = s.resetReleased := rfl
@[simp] theorem setCover_straps (s : State) (x : Cover) : (s.setCover x).straps = s.straps := rfl
@[simp] theorem setCover_tables (s : State) (x : Cover) : (s.setCover x).tables = s.tables := rfl
@[simp] theorem setCover_tableStore (s : State) (x : Cover) : (s.setCover x).tableStore = s.tableStore := rfl
@[simp] theorem setCover_counts (s : State) (x : Cover) : (s.setCover x).counts = s.counts := rfl
@[simp] theorem setCover_mapAccess (s : State) (x : Cover) : (s.setCover x).mapAccess = s.mapAccess := rfl
@[simp] theorem setCover_cover (s : State) (x : Cover) : (s.setCover x).cover = x := rfl
@[simp] theorem setCover_journal (s : State) (x : Cover) : (s.setCover x).journal = s.journal := rfl
@[simp] theorem setCover_store (s : State) (x : Cover) : (s.setCover x).store = s.store := rfl
@[simp] theorem setCover_intake (s : State) (x : Cover) : (s.setCover x).intake = s.intake := rfl
@[simp] theorem setCover_office (s : State) (x : Cover) : (s.setCover x).office = s.office := rfl
@[simp] theorem setCover_ports (s : State) (x : Cover) : (s.setCover x).ports = s.ports := rfl
@[simp] theorem setCover_pending (s : State) (x : Cover) : (s.setCover x).pending = s.pending := rfl

@[simp] theorem setJournal_now (s : State) (x : Journal) : (s.setJournal x).now = s.now := rfl
@[simp] theorem setJournal_mainsGood (s : State) (x : Journal) : (s.setJournal x).mainsGood = s.mainsGood := rfl
@[simp] theorem setJournal_resetReleased (s : State) (x : Journal) : (s.setJournal x).resetReleased = s.resetReleased := rfl
@[simp] theorem setJournal_straps (s : State) (x : Journal) : (s.setJournal x).straps = s.straps := rfl
@[simp] theorem setJournal_tables (s : State) (x : Journal) : (s.setJournal x).tables = s.tables := rfl
@[simp] theorem setJournal_tableStore (s : State) (x : Journal) : (s.setJournal x).tableStore = s.tableStore := rfl
@[simp] theorem setJournal_counts (s : State) (x : Journal) : (s.setJournal x).counts = s.counts := rfl
@[simp] theorem setJournal_mapAccess (s : State) (x : Journal) : (s.setJournal x).mapAccess = s.mapAccess := rfl
@[simp] theorem setJournal_cover (s : State) (x : Journal) : (s.setJournal x).cover = s.cover := rfl
@[simp] theorem setJournal_journal (s : State) (x : Journal) : (s.setJournal x).journal = x := rfl
@[simp] theorem setJournal_store (s : State) (x : Journal) : (s.setJournal x).store = s.store := rfl
@[simp] theorem setJournal_intake (s : State) (x : Journal) : (s.setJournal x).intake = s.intake := rfl
@[simp] theorem setJournal_office (s : State) (x : Journal) : (s.setJournal x).office = s.office := rfl
@[simp] theorem setJournal_ports (s : State) (x : Journal) : (s.setJournal x).ports = s.ports := rfl
@[simp] theorem setJournal_pending (s : State) (x : Journal) : (s.setJournal x).pending = s.pending := rfl

@[simp] theorem setStore_now (s : State) (x : Store) : (s.setStore x).now = s.now := rfl
@[simp] theorem setStore_mainsGood (s : State) (x : Store) : (s.setStore x).mainsGood = s.mainsGood := rfl
@[simp] theorem setStore_resetReleased (s : State) (x : Store) : (s.setStore x).resetReleased = s.resetReleased := rfl
@[simp] theorem setStore_straps (s : State) (x : Store) : (s.setStore x).straps = s.straps := rfl
@[simp] theorem setStore_tables (s : State) (x : Store) : (s.setStore x).tables = s.tables := rfl
@[simp] theorem setStore_tableStore (s : State) (x : Store) : (s.setStore x).tableStore = s.tableStore := rfl
@[simp] theorem setStore_counts (s : State) (x : Store) : (s.setStore x).counts = s.counts := rfl
@[simp] theorem setStore_mapAccess (s : State) (x : Store) : (s.setStore x).mapAccess = s.mapAccess := rfl
@[simp] theorem setStore_cover (s : State) (x : Store) : (s.setStore x).cover = s.cover := rfl
@[simp] theorem setStore_journal (s : State) (x : Store) : (s.setStore x).journal = s.journal := rfl
@[simp] theorem setStore_store (s : State) (x : Store) : (s.setStore x).store = x := rfl
@[simp] theorem setStore_intake (s : State) (x : Store) : (s.setStore x).intake = s.intake := rfl
@[simp] theorem setStore_office (s : State) (x : Store) : (s.setStore x).office = s.office := rfl
@[simp] theorem setStore_ports (s : State) (x : Store) : (s.setStore x).ports = s.ports := rfl
@[simp] theorem setStore_pending (s : State) (x : Store) : (s.setStore x).pending = s.pending := rfl

@[simp] theorem setIntake_now (s : State) (x : Intake) : (s.setIntake x).now = s.now := rfl
@[simp] theorem setIntake_mainsGood (s : State) (x : Intake) : (s.setIntake x).mainsGood = s.mainsGood := rfl
@[simp] theorem setIntake_resetReleased (s : State) (x : Intake) : (s.setIntake x).resetReleased = s.resetReleased := rfl
@[simp] theorem setIntake_straps (s : State) (x : Intake) : (s.setIntake x).straps = s.straps := rfl
@[simp] theorem setIntake_tables (s : State) (x : Intake) : (s.setIntake x).tables = s.tables := rfl
@[simp] theorem setIntake_tableStore (s : State) (x : Intake) : (s.setIntake x).tableStore = s.tableStore := rfl
@[simp] theorem setIntake_counts (s : State) (x : Intake) : (s.setIntake x).counts = s.counts := rfl
@[simp] theorem setIntake_mapAccess (s : State) (x : Intake) : (s.setIntake x).mapAccess = s.mapAccess := rfl
@[simp] theorem setIntake_cover (s : State) (x : Intake) : (s.setIntake x).cover = s.cover := rfl
@[simp] theorem setIntake_journal (s : State) (x : Intake) : (s.setIntake x).journal = s.journal := rfl
@[simp] theorem setIntake_store (s : State) (x : Intake) : (s.setIntake x).store = s.store := rfl
@[simp] theorem setIntake_intake (s : State) (x : Intake) : (s.setIntake x).intake = x := rfl
@[simp] theorem setIntake_office (s : State) (x : Intake) : (s.setIntake x).office = s.office := rfl
@[simp] theorem setIntake_ports (s : State) (x : Intake) : (s.setIntake x).ports = s.ports := rfl
@[simp] theorem setIntake_pending (s : State) (x : Intake) : (s.setIntake x).pending = s.pending := rfl

@[simp] theorem setOffice_now (s : State) (x : Office) : (s.setOffice x).now = s.now := rfl
@[simp] theorem setOffice_mainsGood (s : State) (x : Office) : (s.setOffice x).mainsGood = s.mainsGood := rfl
@[simp] theorem setOffice_resetReleased (s : State) (x : Office) : (s.setOffice x).resetReleased = s.resetReleased := rfl
@[simp] theorem setOffice_straps (s : State) (x : Office) : (s.setOffice x).straps = s.straps := rfl
@[simp] theorem setOffice_tables (s : State) (x : Office) : (s.setOffice x).tables = s.tables := rfl
@[simp] theorem setOffice_tableStore (s : State) (x : Office) : (s.setOffice x).tableStore = s.tableStore := rfl
@[simp] theorem setOffice_counts (s : State) (x : Office) : (s.setOffice x).counts = s.counts := rfl
@[simp] theorem setOffice_mapAccess (s : State) (x : Office) : (s.setOffice x).mapAccess = s.mapAccess := rfl
@[simp] theorem setOffice_cover (s : State) (x : Office) : (s.setOffice x).cover = s.cover := rfl
@[simp] theorem setOffice_journal (s : State) (x : Office) : (s.setOffice x).journal = s.journal := rfl
@[simp] theorem setOffice_store (s : State) (x : Office) : (s.setOffice x).store = s.store := rfl
@[simp] theorem setOffice_intake (s : State) (x : Office) : (s.setOffice x).intake = s.intake := rfl
@[simp] theorem setOffice_office (s : State) (x : Office) : (s.setOffice x).office = x := rfl
@[simp] theorem setOffice_ports (s : State) (x : Office) : (s.setOffice x).ports = s.ports := rfl
@[simp] theorem setOffice_pending (s : State) (x : Office) : (s.setOffice x).pending = s.pending := rfl

@[simp] theorem setPorts_now (s : State) (x : PerHatch Port) : (s.setPorts x).now = s.now := rfl
@[simp] theorem setPorts_mainsGood (s : State) (x : PerHatch Port) : (s.setPorts x).mainsGood = s.mainsGood := rfl
@[simp] theorem setPorts_resetReleased (s : State) (x : PerHatch Port) : (s.setPorts x).resetReleased = s.resetReleased := rfl
@[simp] theorem setPorts_straps (s : State) (x : PerHatch Port) : (s.setPorts x).straps = s.straps := rfl
@[simp] theorem setPorts_tables (s : State) (x : PerHatch Port) : (s.setPorts x).tables = s.tables := rfl
@[simp] theorem setPorts_tableStore (s : State) (x : PerHatch Port) : (s.setPorts x).tableStore = s.tableStore := rfl
@[simp] theorem setPorts_counts (s : State) (x : PerHatch Port) : (s.setPorts x).counts = s.counts := rfl
@[simp] theorem setPorts_mapAccess (s : State) (x : PerHatch Port) : (s.setPorts x).mapAccess = s.mapAccess := rfl
@[simp] theorem setPorts_cover (s : State) (x : PerHatch Port) : (s.setPorts x).cover = s.cover := rfl
@[simp] theorem setPorts_journal (s : State) (x : PerHatch Port) : (s.setPorts x).journal = s.journal := rfl
@[simp] theorem setPorts_store (s : State) (x : PerHatch Port) : (s.setPorts x).store = s.store := rfl
@[simp] theorem setPorts_intake (s : State) (x : PerHatch Port) : (s.setPorts x).intake = s.intake := rfl
@[simp] theorem setPorts_office (s : State) (x : PerHatch Port) : (s.setPorts x).office = s.office := rfl
@[simp] theorem setPorts_ports (s : State) (x : PerHatch Port) : (s.setPorts x).ports = x := rfl
@[simp] theorem setPorts_pending (s : State) (x : PerHatch Port) : (s.setPorts x).pending = s.pending := rfl

@[simp] theorem setPending_now (s : State) (x : List Instr) : (s.setPending x).now = s.now := rfl
@[simp] theorem setPending_mainsGood (s : State) (x : List Instr) : (s.setPending x).mainsGood = s.mainsGood := rfl
@[simp] theorem setPending_resetReleased (s : State) (x : List Instr) : (s.setPending x).resetReleased = s.resetReleased := rfl
@[simp] theorem setPending_straps (s : State) (x : List Instr) : (s.setPending x).straps = s.straps := rfl
@[simp] theorem setPending_tables (s : State) (x : List Instr) : (s.setPending x).tables = s.tables := rfl
@[simp] theorem setPending_tableStore (s : State) (x : List Instr) : (s.setPending x).tableStore = s.tableStore := rfl
@[simp] theorem setPending_counts (s : State) (x : List Instr) : (s.setPending x).counts = s.counts := rfl
@[simp] theorem setPending_mapAccess (s : State) (x : List Instr) : (s.setPending x).mapAccess = s.mapAccess := rfl
@[simp] theorem setPending_cover (s : State) (x : List Instr) : (s.setPending x).cover = s.cover := rfl
@[simp] theorem setPending_journal (s : State) (x : List Instr) : (s.setPending x).journal = s.journal := rfl
@[simp] theorem setPending_store (s : State) (x : List Instr) : (s.setPending x).store = s.store := rfl
@[simp] theorem setPending_intake (s : State) (x : List Instr) : (s.setPending x).intake = s.intake := rfl
@[simp] theorem setPending_office (s : State) (x : List Instr) : (s.setPending x).office = s.office := rfl
@[simp] theorem setPending_ports (s : State) (x : List Instr) : (s.setPending x).ports = s.ports := rfl
@[simp] theorem setPending_pending (s : State) (x : List Instr) : (s.setPending x).pending = x := rfl

/-! ## A port replaced -/

@[simp] theorem setPort_now (s : State) (h : Hatch) (p : Port) : (s.setPort h p).now = s.now := rfl
@[simp] theorem setPort_mainsGood (s : State) (h : Hatch) (p : Port) : (s.setPort h p).mainsGood = s.mainsGood := rfl
@[simp] theorem setPort_resetReleased (s : State) (h : Hatch) (p : Port) : (s.setPort h p).resetReleased = s.resetReleased := rfl
@[simp] theorem setPort_straps (s : State) (h : Hatch) (p : Port) : (s.setPort h p).straps = s.straps := rfl
@[simp] theorem setPort_tables (s : State) (h : Hatch) (p : Port) : (s.setPort h p).tables = s.tables := rfl
@[simp] theorem setPort_tableStore (s : State) (h : Hatch) (p : Port) : (s.setPort h p).tableStore = s.tableStore := rfl
@[simp] theorem setPort_counts (s : State) (h : Hatch) (p : Port) : (s.setPort h p).counts = s.counts := rfl
@[simp] theorem setPort_mapAccess (s : State) (h : Hatch) (p : Port) : (s.setPort h p).mapAccess = s.mapAccess := rfl
@[simp] theorem setPort_cover (s : State) (h : Hatch) (p : Port) : (s.setPort h p).cover = s.cover := rfl
@[simp] theorem setPort_journal (s : State) (h : Hatch) (p : Port) : (s.setPort h p).journal = s.journal := rfl
@[simp] theorem setPort_store (s : State) (h : Hatch) (p : Port) : (s.setPort h p).store = s.store := rfl
@[simp] theorem setPort_intake (s : State) (h : Hatch) (p : Port) : (s.setPort h p).intake = s.intake := rfl
@[simp] theorem setPort_office (s : State) (h : Hatch) (p : Port) : (s.setPort h p).office = s.office := rfl
@[simp] theorem setPort_pending (s : State) (h : Hatch) (p : Port) : (s.setPort h p).pending = s.pending := rfl
@[simp] theorem setPort_ports (s : State) (h : Hatch) (p : Port) : (s.setPort h p).ports = s.ports.set h p := rfl

@[simp] theorem modPort_now (s : State) (h : Hatch) (f : Port → Port) : (s.modPort h f).now = s.now := rfl
@[simp] theorem modPort_mainsGood (s : State) (h : Hatch) (f : Port → Port) : (s.modPort h f).mainsGood = s.mainsGood := rfl
@[simp] theorem modPort_resetReleased (s : State) (h : Hatch) (f : Port → Port) : (s.modPort h f).resetReleased = s.resetReleased := rfl
@[simp] theorem modPort_straps (s : State) (h : Hatch) (f : Port → Port) : (s.modPort h f).straps = s.straps := rfl
@[simp] theorem modPort_tables (s : State) (h : Hatch) (f : Port → Port) : (s.modPort h f).tables = s.tables := rfl
@[simp] theorem modPort_tableStore (s : State) (h : Hatch) (f : Port → Port) : (s.modPort h f).tableStore = s.tableStore := rfl
@[simp] theorem modPort_counts (s : State) (h : Hatch) (f : Port → Port) : (s.modPort h f).counts = s.counts := rfl
@[simp] theorem modPort_mapAccess (s : State) (h : Hatch) (f : Port → Port) : (s.modPort h f).mapAccess = s.mapAccess := rfl
@[simp] theorem modPort_cover (s : State) (h : Hatch) (f : Port → Port) : (s.modPort h f).cover = s.cover := rfl
@[simp] theorem modPort_journal (s : State) (h : Hatch) (f : Port → Port) : (s.modPort h f).journal = s.journal := rfl
@[simp] theorem modPort_store (s : State) (h : Hatch) (f : Port → Port) : (s.modPort h f).store = s.store := rfl
@[simp] theorem modPort_intake (s : State) (h : Hatch) (f : Port → Port) : (s.modPort h f).intake = s.intake := rfl
@[simp] theorem modPort_office (s : State) (h : Hatch) (f : Port → Port) : (s.modPort h f).office = s.office := rfl
@[simp] theorem modPort_pending (s : State) (h : Hatch) (f : Port → Port) : (s.modPort h f).pending = s.pending := rfl

@[simp] theorem setPort_port_self (s : State) (h : Hatch) (p : Port) : (s.setPort h p).port h = p :=
  PerHatch.get_set_self _ _ _

theorem setPort_port_ne (s : State) {h k : Hatch} (e : h ≠ k) (p : Port) : (s.setPort h p).port k = s.port k :=
  PerHatch.get_set_ne _ e _

@[simp] theorem modPort_port_self (s : State) (h : Hatch) (f : Port → Port) :
    (s.modPort h f).port h = f (s.port h) := PerHatch.get_set_self _ _ _

theorem modPort_port_ne (s : State) {h k : Hatch} (e : h ≠ k) (f : Port → Port) :
    (s.modPort h f).port k = s.port k := PerHatch.get_set_ne _ e _

@[simp] theorem setDrop_drop_self (s : State) (h : Hatch) (d : Drop) : (s.setDrop h d).drop h = d := by
  simp [setDrop, drop]

theorem setDrop_drop_ne (s : State) {h k : Hatch} (e : h ≠ k) (d : Drop) : (s.setDrop h d).drop k = s.drop k := by
  simp [setDrop, drop, modPort_port_ne s e]

/-! ## Queues and bins -/

@[simp] theorem setQueue_queue_self (s : State) (h : Hatch) (q : List Nat) : (s.setQueue h q).queue h = q :=
  PerHatch.get_set_self _ _ _

theorem setQueue_queue_ne (s : State) {h k : Hatch} (e : h ≠ k) (q : List Nat) :
    (s.setQueue h q).queue k = s.queue k := PerHatch.get_set_ne _ e _

@[simp] theorem setBin_bin_self (s : State) (b : BinNo) (r : Bin) : (s.setBin b r).bin b = r :=
  Tab.get_put_self _ _ _

theorem setBin_bin_ne (s : State) {b c : BinNo} (e : b ≠ c) (r : Bin) : (s.setBin b r).bin c = s.bin c :=
  Tab.get_put_ne _ e _

end State

end Sys2Proof.Machine
end

