-- ==== Sys2Proof/Laws/Fields.lean ====
section
/-! SUPPORT. The parts of the state that each shared operation leaves alone, one lemma for each. -/

namespace Sys2Proof.Machine

open Sys2Proof

namespace State

/-! ## Flags, counters, mitigation -/

@[simp] theorem trigger_now (s : State) (c : Cause) : (s.trigger c).now = s.now := rfl
@[simp] theorem trigger_mainsGood (s : State) (c : Cause) : (s.trigger c).mainsGood = s.mainsGood := rfl
@[simp] theorem trigger_resetReleased (s : State) (c : Cause) : (s.trigger c).resetReleased = s.resetReleased := rfl
@[simp] theorem trigger_straps (s : State) (c : Cause) : (s.trigger c).straps = s.straps := rfl
@[simp] theorem trigger_tables (s : State) (c : Cause) : (s.trigger c).tables = s.tables := rfl
@[simp] theorem trigger_tableStore (s : State) (c : Cause) : (s.trigger c).tableStore = s.tableStore := rfl
@[simp] theorem trigger_counts (s : State) (c : Cause) : (s.trigger c).counts = s.counts := rfl
@[simp] theorem trigger_mapAccess (s : State) (c : Cause) : (s.trigger c).mapAccess = s.mapAccess := rfl
@[simp] theorem trigger_cover (s : State) (c : Cause) : (s.trigger c).cover = s.cover := rfl
@[simp] theorem trigger_journal (s : State) (c : Cause) : (s.trigger c).journal = s.journal := rfl
@[simp] theorem trigger_store (s : State) (c : Cause) : (s.trigger c).store = s.store := rfl
@[simp] theorem trigger_intake (s : State) (c : Cause) : (s.trigger c).intake = s.intake := rfl
@[simp] theorem trigger_ports (s : State) (c : Cause) : (s.trigger c).ports = s.ports := rfl
@[simp] theorem trigger_pending (s : State) (c : Cause) : (s.trigger c).pending = s.pending := rfl

@[simp] theorem latch_now (s : State) (f : Flag) : (s.latch f).now = s.now := rfl
@[simp] theorem latch_mainsGood (s : State) (f : Flag) : (s.latch f).mainsGood = s.mainsGood := rfl
@[simp] theorem latch_resetReleased (s : State) (f : Flag) : (s.latch f).resetReleased = s.resetReleased := rfl
@[simp] theorem latch_straps (s : State) (f : Flag) : (s.latch f).straps = s.straps := rfl
@[simp] theorem latch_tables (s : State) (f : Flag) : (s.latch f).tables = s.tables := rfl
@[simp] theorem latch_tableStore (s : State) (f : Flag) : (s.latch f).tableStore = s.tableStore := rfl
@[simp] theorem latch_counts (s : State) (f : Flag) : (s.latch f).counts = s.counts := rfl
@[simp] theorem latch_mapAccess (s : State) (f : Flag) : (s.latch f).mapAccess = s.mapAccess := rfl
@[simp] theorem latch_cover (s : State) (f : Flag) : (s.latch f).cover = s.cover := rfl
@[simp] theorem latch_journal (s : State) (f : Flag) : (s.latch f).journal = s.journal := rfl
@[simp] theorem latch_store (s : State) (f : Flag) : (s.latch f).store = s.store := rfl
@[simp] theorem latch_intake (s : State) (f : Flag) : (s.latch f).intake = s.intake := rfl
@[simp] theorem latch_ports (s : State) (f : Flag) : (s.latch f).ports = s.ports := rfl
@[simp] theorem latch_pending (s : State) (f : Flag) : (s.latch f).pending = s.pending := rfl

@[simp] theorem raise_now (s : State) (f : Flag) : (s.raise f).now = s.now := by unfold raise; (repeat' split) <;> simp
@[simp] theorem raise_mainsGood (s : State) (f : Flag) : (s.raise f).mainsGood = s.mainsGood := by unfold raise; (repeat' split) <;> simp
@[simp] theorem raise_resetReleased (s : State) (f : Flag) : (s.raise f).resetReleased = s.resetReleased := by unfold raise; (repeat' split) <;> simp
@[simp] theorem raise_straps (s : State) (f : Flag) : (s.raise f).straps = s.straps := by unfold raise; (repeat' split) <;> simp
@[simp] theorem raise_tables (s : State) (f : Flag) : (s.raise f).tables = s.tables := by unfold raise; (repeat' split) <;> simp
@[simp] theorem raise_tableStore (s : State) (f : Flag) : (s.raise f).tableStore = s.tableStore := by unfold raise; (repeat' split) <;> simp
@[simp] theorem raise_counts (s : State) (f : Flag) : (s.raise f).counts = s.counts := by unfold raise; (repeat' split) <;> simp
@[simp] theorem raise_mapAccess (s : State) (f : Flag) : (s.raise f).mapAccess = s.mapAccess := by unfold raise; (repeat' split) <;> simp
@[simp] theorem raise_cover (s : State) (f : Flag) : (s.raise f).cover = s.cover := by unfold raise; (repeat' split) <;> simp
@[simp] theorem raise_journal (s : State) (f : Flag) : (s.raise f).journal = s.journal := by unfold raise; (repeat' split) <;> simp
@[simp] theorem raise_store (s : State) (f : Flag) : (s.raise f).store = s.store := by unfold raise; (repeat' split) <;> simp
@[simp] theorem raise_intake (s : State) (f : Flag) : (s.raise f).intake = s.intake := by unfold raise; (repeat' split) <;> simp
@[simp] theorem raise_ports (s : State) (f : Flag) : (s.raise f).ports = s.ports := by unfold raise; (repeat' split) <;> simp
@[simp] theorem raise_pending (s : State) (f : Flag) : (s.raise f).pending = s.pending := by unfold raise; (repeat' split) <;> simp

@[simp] theorem countRefusal_now (s : State) (r : Refuse) : (s.countRefusal r).now = s.now := rfl
@[simp] theorem countRefusal_mainsGood (s : State) (r : Refuse) : (s.countRefusal r).mainsGood = s.mainsGood := rfl
@[simp] theorem countRefusal_resetReleased (s : State) (r : Refuse) : (s.countRefusal r).resetReleased = s.resetReleased := rfl
@[simp] theorem countRefusal_straps (s : State) (r : Refuse) : (s.countRefusal r).straps = s.straps := rfl
@[simp] theorem countRefusal_tables (s : State) (r : Refuse) : (s.countRefusal r).tables = s.tables := rfl
@[simp] theorem countRefusal_tableStore (s : State) (r : Refuse) : (s.countRefusal r).tableStore = s.tableStore := rfl
@[simp] theorem countRefusal_counts (s : State) (r : Refuse) : (s.countRefusal r).counts = s.counts := rfl
@[simp] theorem countRefusal_mapAccess (s : State) (r : Refuse) : (s.countRefusal r).mapAccess = s.mapAccess := rfl
@[simp] theorem countRefusal_cover (s : State) (r : Refuse) : (s.countRefusal r).cover = s.cover := rfl
@[simp] theorem countRefusal_journal (s : State) (r : Refuse) : (s.countRefusal r).journal = s.journal := rfl
@[simp] theorem countRefusal_store (s : State) (r : Refuse) : (s.countRefusal r).store = s.store := rfl
@[simp] theorem countRefusal_intake (s : State) (r : Refuse) : (s.countRefusal r).intake = s.intake := rfl
@[simp] theorem countRefusal_ports (s : State) (r : Refuse) : (s.countRefusal r).ports = s.ports := rfl
@[simp] theorem countRefusal_pending (s : State) (r : Refuse) : (s.countRefusal r).pending = s.pending := rfl

@[simp] theorem countCancel_now (s : State) (c : Cancel) : (s.countCancel c).now = s.now := rfl
@[simp] theorem countCancel_mainsGood (s : State) (c : Cancel) : (s.countCancel c).mainsGood = s.mainsGood := rfl
@[simp] theorem countCancel_resetReleased (s : State) (c : Cancel) : (s.countCancel c).resetReleased = s.resetReleased := rfl
@[simp] theorem countCancel_straps (s : State) (c : Cancel) : (s.countCancel c).straps = s.straps := rfl
@[simp] theorem countCancel_tables (s : State) (c : Cancel) : (s.countCancel c).tables = s.tables := rfl
@[simp] theorem countCancel_tableStore (s : State) (c : Cancel) : (s.countCancel c).tableStore = s.tableStore := rfl
@[simp] theorem countCancel_counts (s : State) (c : Cancel) : (s.countCancel c).counts = s.counts := rfl
@[simp] theorem countCancel_mapAccess (s : State) (c : Cancel) : (s.countCancel c).mapAccess = s.mapAccess := rfl
@[simp] theorem countCancel_cover (s : State) (c : Cancel) : (s.countCancel c).cover = s.cover := rfl
@[simp] theorem countCancel_journal (s : State) (c : Cancel) : (s.countCancel c).journal = s.journal := rfl
@[simp] theorem countCancel_store (s : State) (c : Cancel) : (s.countCancel c).store = s.store := rfl
@[simp] theorem countCancel_intake (s : State) (c : Cancel) : (s.countCancel c).intake = s.intake := rfl
@[simp] theorem countCancel_ports (s : State) (c : Cancel) : (s.countCancel c).ports = s.ports := rfl
@[simp] theorem countCancel_pending (s : State) (c : Cancel) : (s.countCancel c).pending = s.pending := rfl

@[simp] theorem startTimer_now (s : State) : s.startTimer.now = s.now := by unfold startTimer; (repeat' split) <;> simp
@[simp] theorem startTimer_mainsGood (s : State) : s.startTimer.mainsGood = s.mainsGood := by unfold startTimer; (repeat' split) <;> simp
@[simp] theorem startTimer_resetReleased (s : State) : s.startTimer.resetReleased = s.resetReleased := by unfold startTimer; (repeat' split) <;> simp
@[simp] theorem startTimer_straps (s : State) : s.startTimer.straps = s.straps := by unfold startTimer; (repeat' split) <;> simp
@[simp] theorem startTimer_tables (s : State) : s.startTimer.tables = s.tables := by unfold startTimer; (repeat' split) <;> simp
@[simp] theorem startTimer_tableStore (s : State) : s.startTimer.tableStore = s.tableStore := by unfold startTimer; (repeat' split) <;> simp
@[simp] theorem startTimer_counts (s : State) : s.startTimer.counts = s.counts := by unfold startTimer; (repeat' split) <;> simp
@[simp] theorem startTimer_mapAccess (s : State) : s.startTimer.mapAccess = s.mapAccess := by unfold startTimer; (repeat' split) <;> simp
@[simp] theorem startTimer_cover (s : State) : s.startTimer.cover = s.cover := by unfold startTimer; (repeat' split) <;> simp
@[simp] theorem startTimer_journal (s : State) : s.startTimer.journal = s.journal := by unfold startTimer; (repeat' split) <;> simp
@[simp] theorem startTimer_store (s : State) : s.startTimer.store = s.store := by unfold startTimer; (repeat' split) <;> simp
@[simp] theorem startTimer_intake (s : State) : s.startTimer.intake = s.intake := by unfold startTimer; (repeat' split) <;> simp
@[simp] theorem startTimer_ports (s : State) : s.startTimer.ports = s.ports := by unfold startTimer; (repeat' split) <;> simp
@[simp] theorem startTimer_pending (s : State) : s.startTimer.pending = s.pending := by unfold startTimer; (repeat' split) <;> simp

@[simp] theorem countTriggers_now (s : State) : s.countTriggers.now = s.now := by unfold countTriggers; (repeat' split) <;> simp
@[simp] theorem countTriggers_mainsGood (s : State) : s.countTriggers.mainsGood = s.mainsGood := by unfold countTriggers; (repeat' split) <;> simp
@[simp] theorem countTriggers_resetReleased (s : State) : s.countTriggers.resetReleased = s.resetReleased := by unfold countTriggers; (repeat' split) <;> simp
@[simp] theorem countTriggers_straps (s : State) : s.countTriggers.straps = s.straps := by unfold countTriggers; (repeat' split) <;> simp
@[simp] theorem countTriggers_tables (s : State) : s.countTriggers.tables = s.tables := by unfold countTriggers; (repeat' split) <;> simp
@[simp] theorem countTriggers_tableStore (s : State) : s.countTriggers.tableStore = s.tableStore := by unfold countTriggers; (repeat' split) <;> simp
@[simp] theorem countTriggers_counts (s : State) : s.countTriggers.counts = s.counts := by unfold countTriggers; (repeat' split) <;> simp
@[simp] theorem countTriggers_mapAccess (s : State) : s.countTriggers.mapAccess = s.mapAccess := by unfold countTriggers; (repeat' split) <;> simp
@[simp] theorem countTriggers_cover (s : State) : s.countTriggers.cover = s.cover := by unfold countTriggers; (repeat' split) <;> simp
@[simp] theorem countTriggers_journal (s : State) : s.countTriggers.journal = s.journal := by unfold countTriggers; (repeat' split) <;> simp
@[simp] theorem countTriggers_store (s : State) : s.countTriggers.store = s.store := by unfold countTriggers; (repeat' split) <;> simp
@[simp] theorem countTriggers_intake (s : State) : s.countTriggers.intake = s.intake := by unfold countTriggers; (repeat' split) <;> simp
@[simp] theorem countTriggers_ports (s : State) : s.countTriggers.ports = s.ports := by unfold countTriggers; (repeat' split) <;> simp
@[simp] theorem countTriggers_pending (s : State) : s.countTriggers.pending = s.pending := by unfold countTriggers; (repeat' split) <;> simp

@[simp] theorem noteCommit_now (s : State) : s.noteCommit.now = s.now := by simp [noteCommit]
@[simp] theorem noteCommit_mainsGood (s : State) : s.noteCommit.mainsGood = s.mainsGood := by simp [noteCommit]
@[simp] theorem noteCommit_resetReleased (s : State) : s.noteCommit.resetReleased = s.resetReleased := by simp [noteCommit]
@[simp] theorem noteCommit_straps (s : State) : s.noteCommit.straps = s.straps := by simp [noteCommit]
@[simp] theorem noteCommit_tables (s : State) : s.noteCommit.tables = s.tables := by simp [noteCommit]
@[simp] theorem noteCommit_tableStore (s : State) : s.noteCommit.tableStore = s.tableStore := by simp [noteCommit]
@[simp] theorem noteCommit_counts (s : State) : s.noteCommit.counts = s.counts := by simp [noteCommit]
@[simp] theorem noteCommit_mapAccess (s : State) : s.noteCommit.mapAccess = s.mapAccess := by simp [noteCommit]
@[simp] theorem noteCommit_cover (s : State) : s.noteCommit.cover = s.cover := by simp [noteCommit]
@[simp] theorem noteCommit_journal (s : State) : s.noteCommit.journal = s.journal := by simp [noteCommit]
@[simp] theorem noteCommit_store (s : State) : s.noteCommit.store = s.store := by simp [noteCommit]
@[simp] theorem noteCommit_intake (s : State) : s.noteCommit.intake = s.intake := by simp [noteCommit]
@[simp] theorem noteCommit_ports (s : State) : s.noteCommit.ports = s.ports := by simp [noteCommit]
@[simp] theorem noteCommit_pending (s : State) : s.noteCommit.pending = s.pending := by simp [noteCommit]

@[simp] theorem retimeMitigation_now (s : State) : s.retimeMitigation.now = s.now := by unfold retimeMitigation; (repeat' split) <;> simp
@[simp] theorem retimeMitigation_mainsGood (s : State) : s.retimeMitigation.mainsGood = s.mainsGood := by unfold retimeMitigation; (repeat' split) <;> simp
@[simp] theorem retimeMitigation_resetReleased (s : State) : s.retimeMitigation.resetReleased = s.resetReleased := by unfold retimeMitigation; (repeat' split) <;> simp
@[simp] theorem retimeMitigation_straps (s : State) : s.retimeMitigation.straps = s.straps := by unfold retimeMitigation; (repeat' split) <;> simp
@[simp] theorem retimeMitigation_tables (s : State) : s.retimeMitigation.tables = s.tables := by unfold retimeMitigation; (repeat' split) <;> simp
@[simp] theorem retimeMitigation_tableStore (s : State) : s.retimeMitigation.tableStore = s.tableStore := by unfold retimeMitigation; (repeat' split) <;> simp
@[simp] theorem retimeMitigation_counts (s : State) : s.retimeMitigation.counts = s.counts := by unfold retimeMitigation; (repeat' split) <;> simp
@[simp] theorem retimeMitigation_mapAccess (s : State) : s.retimeMitigation.mapAccess = s.mapAccess := by unfold retimeMitigation; (repeat' split) <;> simp
@[simp] theorem retimeMitigation_cover (s : State) : s.retimeMitigation.cover = s.cover := by unfold retimeMitigation; (repeat' split) <;> simp
@[simp] theorem retimeMitigation_journal (s : State) : s.retimeMitigation.journal = s.journal := by unfold retimeMitigation; (repeat' split) <;> simp
@[simp] theorem retimeMitigation_store (s : State) : s.retimeMitigation.store = s.store := by unfold retimeMitigation; (repeat' split) <;> simp
@[simp] theorem retimeMitigation_intake (s : State) : s.retimeMitigation.intake = s.intake := by unfold retimeMitigation; (repeat' split) <;> simp
@[simp] theorem retimeMitigation_ports (s : State) : s.retimeMitigation.ports = s.ports := by unfold retimeMitigation; (repeat' split) <;> simp
@[simp] theorem retimeMitigation_pending (s : State) : s.retimeMitigation.pending = s.pending := by unfold retimeMitigation; (repeat' split) <;> simp

@[simp] theorem applyNoticeSettings_now (s : State) : s.applyNoticeSettings.now = s.now := by unfold applyNoticeSettings; dsimp only; split <;> simp
@[simp] theorem applyNoticeSettings_mainsGood (s : State) : s.applyNoticeSettings.mainsGood = s.mainsGood := by unfold applyNoticeSettings; dsimp only; split <;> simp
@[simp] theorem applyNoticeSettings_resetReleased (s : State) : s.applyNoticeSettings.resetReleased = s.resetReleased := by unfold applyNoticeSettings; dsimp only; split <;> simp
@[simp] theorem applyNoticeSettings_straps (s : State) : s.applyNoticeSettings.straps = s.straps := by unfold applyNoticeSettings; dsimp only; split <;> simp
@[simp] theorem applyNoticeSettings_tables (s : State) : s.applyNoticeSettings.tables = s.tables := by unfold applyNoticeSettings; dsimp only; split <;> simp
@[simp] theorem applyNoticeSettings_tableStore (s : State) : s.applyNoticeSettings.tableStore = s.tableStore := by unfold applyNoticeSettings; dsimp only; split <;> simp
@[simp] theorem applyNoticeSettings_counts (s : State) : s.applyNoticeSettings.counts = s.counts := by unfold applyNoticeSettings; dsimp only; split <;> simp
@[simp] theorem applyNoticeSettings_mapAccess (s : State) : s.applyNoticeSettings.mapAccess = s.mapAccess := by unfold applyNoticeSettings; dsimp only; split <;> simp
@[simp] theorem applyNoticeSettings_cover (s : State) : s.applyNoticeSettings.cover = s.cover := by unfold applyNoticeSettings; dsimp only; split <;> simp
@[simp] theorem applyNoticeSettings_journal (s : State) : s.applyNoticeSettings.journal = s.journal := by unfold applyNoticeSettings; dsimp only; split <;> simp
@[simp] theorem applyNoticeSettings_store (s : State) : s.applyNoticeSettings.store = s.store := by unfold applyNoticeSettings; dsimp only; split <;> simp
@[simp] theorem applyNoticeSettings_intake (s : State) : s.applyNoticeSettings.intake = s.intake := by unfold applyNoticeSettings; dsimp only; split <;> simp
@[simp] theorem applyNoticeSettings_ports (s : State) : s.applyNoticeSettings.ports = s.ports := by unfold applyNoticeSettings; dsimp only; split <;> simp
@[simp] theorem applyNoticeSettings_pending (s : State) : s.applyNoticeSettings.pending = s.pending := by unfold applyNoticeSettings; dsimp only; split <;> simp

/-! ## Time and ports -/

@[simp] theorem reach_mainsGood (s : State) (t : Nat) : (s.reach t).mainsGood = s.mainsGood := rfl
@[simp] theorem reach_resetReleased (s : State) (t : Nat) : (s.reach t).resetReleased = s.resetReleased := rfl
@[simp] theorem reach_straps (s : State) (t : Nat) : (s.reach t).straps = s.straps := rfl
@[simp] theorem reach_tables (s : State) (t : Nat) : (s.reach t).tables = s.tables := rfl
@[simp] theorem reach_tableStore (s : State) (t : Nat) : (s.reach t).tableStore = s.tableStore := rfl
@[simp] theorem reach_counts (s : State) (t : Nat) : (s.reach t).counts = s.counts := rfl
@[simp] theorem reach_mapAccess (s : State) (t : Nat) : (s.reach t).mapAccess = s.mapAccess := rfl
@[simp] theorem reach_cover (s : State) (t : Nat) : (s.reach t).cover = s.cover := rfl
@[simp] theorem reach_journal (s : State) (t : Nat) : (s.reach t).journal = s.journal := rfl
@[simp] theorem reach_store (s : State) (t : Nat) : (s.reach t).store = s.store := rfl
@[simp] theorem reach_intake (s : State) (t : Nat) : (s.reach t).intake = s.intake := rfl
@[simp] theorem reach_office (s : State) (t : Nat) : (s.reach t).office = s.office := rfl
@[simp] theorem reach_ports (s : State) (t : Nat) : (s.reach t).ports = s.ports := rfl
@[simp] theorem reach_pending (s : State) (t : Nat) : (s.reach t).pending = s.pending := rfl

@[simp] theorem setDrop_now (s : State) (h : Hatch) (d : Drop) : (s.setDrop h d).now = s.now := rfl
@[simp] theorem setDrop_mainsGood (s : State) (h : Hatch) (d : Drop) : (s.setDrop h d).mainsGood = s.mainsGood := rfl
@[simp] theorem setDrop_resetReleased (s : State) (h : Hatch) (d : Drop) : (s.setDrop h d).resetReleased = s.resetReleased := rfl
@[simp] theorem setDrop_straps (s : State) (h : Hatch) (d : Drop) : (s.setDrop h d).straps = s.straps := rfl
@[simp] theorem setDrop_tables (s : State) (h : Hatch) (d : Drop) : (s.setDrop h d).tables = s.tables := rfl
@[simp] theorem setDrop_tableStore (s : State) (h : Hatch) (d : Drop) : (s.setDrop h d).tableStore = s.tableStore := rfl
@[simp] theorem setDrop_counts (s : State) (h : Hatch) (d : Drop) : (s.setDrop h d).counts = s.counts := rfl
@[simp] theorem setDrop_mapAccess (s : State) (h : Hatch) (d : Drop) : (s.setDrop h d).mapAccess = s.mapAccess := rfl
@[simp] theorem setDrop_cover (s : State) (h : Hatch) (d : Drop) : (s.setDrop h d).cover = s.cover := rfl
@[simp] theorem setDrop_journal (s : State) (h : Hatch) (d : Drop) : (s.setDrop h d).journal = s.journal := rfl
@[simp] theorem setDrop_store (s : State) (h : Hatch) (d : Drop) : (s.setDrop h d).store = s.store := rfl
@[simp] theorem setDrop_intake (s : State) (h : Hatch) (d : Drop) : (s.setDrop h d).intake = s.intake := rfl
@[simp] theorem setDrop_office (s : State) (h : Hatch) (d : Drop) : (s.setDrop h d).office = s.office := rfl
@[simp] theorem setDrop_pending (s : State) (h : Hatch) (d : Drop) : (s.setDrop h d).pending = s.pending := rfl

@[simp] theorem showAt_now (s : State) (h : Hatch) (c : Nat) : (s.showAt h c).now = s.now := rfl
@[simp] theorem showAt_mainsGood (s : State) (h : Hatch) (c : Nat) : (s.showAt h c).mainsGood = s.mainsGood := rfl
@[simp] theorem showAt_resetReleased (s : State) (h : Hatch) (c : Nat) : (s.showAt h c).resetReleased = s.resetReleased := rfl
@[simp] theorem showAt_straps (s : State) (h : Hatch) (c : Nat) : (s.showAt h c).straps = s.straps := rfl
@[simp] theorem showAt_tables (s : State) (h : Hatch) (c : Nat) : (s.showAt h c).tables = s.tables := rfl
@[simp] theorem showAt_tableStore (s : State) (h : Hatch) (c : Nat) : (s.showAt h c).tableStore = s.tableStore := rfl
@[simp] theorem showAt_counts (s : State) (h : Hatch) (c : Nat) : (s.showAt h c).counts = s.counts := rfl
@[simp] theorem showAt_mapAccess (s : State) (h : Hatch) (c : Nat) : (s.showAt h c).mapAccess = s.mapAccess := rfl
@[simp] theorem showAt_cover (s : State) (h : Hatch) (c : Nat) : (s.showAt h c).cover = s.cover := rfl
@[simp] theorem showAt_journal (s : State) (h : Hatch) (c : Nat) : (s.showAt h c).journal = s.journal := rfl
@[simp] theorem showAt_store (s : State) (h : Hatch) (c : Nat) : (s.showAt h c).store = s.store := rfl
@[simp] theorem showAt_intake (s : State) (h : Hatch) (c : Nat) : (s.showAt h c).intake = s.intake := rfl
@[simp] theorem showAt_office (s : State) (h : Hatch) (c : Nat) : (s.showAt h c).office = s.office := rfl
@[simp] theorem showAt_pending (s : State) (h : Hatch) (c : Nat) : (s.showAt h c).pending = s.pending := rfl

/-! ## Near marks -/

@[simp] theorem evalCover_now (s : State) : s.evalCover.now = s.now := by unfold evalCover; dsimp only; split <;> simp
@[simp] theorem evalCover_mainsGood (s : State) : s.evalCover.mainsGood = s.mainsGood := by unfold evalCover; dsimp only; split <;> simp
@[simp] theorem evalCover_resetReleased (s : State) : s.evalCover.resetReleased = s.resetReleased := by unfold evalCover; dsimp only; split <;> simp
@[simp] theorem evalCover_straps (s : State) : s.evalCover.straps = s.straps := by unfold evalCover; dsimp only; split <;> simp
@[simp] theorem evalCover_tables (s : State) : s.evalCover.tables = s.tables := by unfold evalCover; dsimp only; split <;> simp
@[simp] theorem evalCover_tableStore (s : State) : s.evalCover.tableStore = s.tableStore := by unfold evalCover; dsimp only; split <;> simp
@[simp] theorem evalCover_counts (s : State) : s.evalCover.counts = s.counts := by unfold evalCover; dsimp only; split <;> simp
@[simp] theorem evalCover_mapAccess (s : State) : s.evalCover.mapAccess = s.mapAccess := by unfold evalCover; dsimp only; split <;> simp
@[simp] theorem evalCover_journal (s : State) : s.evalCover.journal = s.journal := by unfold evalCover; dsimp only; split <;> simp
@[simp] theorem evalCover_store (s : State) : s.evalCover.store = s.store := by unfold evalCover; dsimp only; split <;> simp
@[simp] theorem evalCover_intake (s : State) : s.evalCover.intake = s.intake := by unfold evalCover; dsimp only; split <;> simp
@[simp] theorem evalCover_ports (s : State) : s.evalCover.ports = s.ports := by unfold evalCover; dsimp only; split <;> simp
@[simp] theorem evalCover_pending (s : State) : s.evalCover.pending = s.pending := by unfold evalCover; dsimp only; split <;> simp

@[simp] theorem evalJournal_now (s : State) : s.evalJournal.now = s.now := by unfold evalJournal; dsimp only; split <;> simp
@[simp] theorem evalJournal_mainsGood (s : State) : s.evalJournal.mainsGood = s.mainsGood := by unfold evalJournal; dsimp only; split <;> simp
@[simp] theorem evalJournal_resetReleased (s : State) : s.evalJournal.resetReleased = s.resetReleased := by unfold evalJournal; dsimp only; split <;> simp
@[simp] theorem evalJournal_straps (s : State) : s.evalJournal.straps = s.straps := by unfold evalJournal; dsimp only; split <;> simp
@[simp] theorem evalJournal_tables (s : State) : s.evalJournal.tables = s.tables := by unfold evalJournal; dsimp only; split <;> simp
@[simp] theorem evalJournal_tableStore (s : State) : s.evalJournal.tableStore = s.tableStore := by unfold evalJournal; dsimp only; split <;> simp
@[simp] theorem evalJournal_counts (s : State) : s.evalJournal.counts = s.counts := by unfold evalJournal; dsimp only; split <;> simp
@[simp] theorem evalJournal_mapAccess (s : State) : s.evalJournal.mapAccess = s.mapAccess := by unfold evalJournal; dsimp only; split <;> simp
@[simp] theorem evalJournal_cover (s : State) : s.evalJournal.cover = s.cover := by unfold evalJournal; dsimp only; split <;> simp
@[simp] theorem evalJournal_store (s : State) : s.evalJournal.store = s.store := by unfold evalJournal; dsimp only; split <;> simp
@[simp] theorem evalJournal_intake (s : State) : s.evalJournal.intake = s.intake := by unfold evalJournal; dsimp only; split <;> simp
@[simp] theorem evalJournal_ports (s : State) : s.evalJournal.ports = s.ports := by unfold evalJournal; dsimp only; split <;> simp
@[simp] theorem evalJournal_pending (s : State) : s.evalJournal.pending = s.pending := by unfold evalJournal; dsimp only; split <;> simp

@[simp] theorem evalStore_now (s : State) : s.evalStore.now = s.now := by unfold evalStore; dsimp only; split <;> simp
@[simp] theorem evalStore_mainsGood (s : State) : s.evalStore.mainsGood = s.mainsGood := by unfold evalStore; dsimp only; split <;> simp
@[simp] theorem evalStore_resetReleased (s : State) : s.evalStore.resetReleased = s.resetReleased := by unfold evalStore; dsimp only; split <;> simp
@[simp] theorem evalStore_straps (s : State) : s.evalStore.straps = s.straps := by unfold evalStore; dsimp only; split <;> simp
@[simp] theorem evalStore_tables (s : State) : s.evalStore.tables = s.tables := by unfold evalStore; dsimp only; split <;> simp
@[simp] theorem evalStore_tableStore (s : State) : s.evalStore.tableStore = s.tableStore := by unfold evalStore; dsimp only; split <;> simp
@[simp] theorem evalStore_counts (s : State) : s.evalStore.counts = s.counts := by unfold evalStore; dsimp only; split <;> simp
@[simp] theorem evalStore_mapAccess (s : State) : s.evalStore.mapAccess = s.mapAccess := by unfold evalStore; dsimp only; split <;> simp
@[simp] theorem evalStore_cover (s : State) : s.evalStore.cover = s.cover := by unfold evalStore; dsimp only; split <;> simp
@[simp] theorem evalStore_journal (s : State) : s.evalStore.journal = s.journal := by unfold evalStore; dsimp only; split <;> simp
@[simp] theorem evalStore_intake (s : State) : s.evalStore.intake = s.intake := by unfold evalStore; dsimp only; split <;> simp
@[simp] theorem evalStore_ports (s : State) : s.evalStore.ports = s.ports := by unfold evalStore; dsimp only; split <;> simp
@[simp] theorem evalStore_pending (s : State) : s.evalStore.pending = s.pending := by unfold evalStore; dsimp only; split <;> simp

/-! ## Cover account -/

@[simp] theorem holdCover_now (s : State) (d : Nat) : (s.holdCover d).now = s.now := by simp [holdCover]
@[simp] theorem holdCover_mainsGood (s : State) (d : Nat) : (s.holdCover d).mainsGood = s.mainsGood := by simp [holdCover]
@[simp] theorem holdCover_resetReleased (s : State) (d : Nat) : (s.holdCover d).resetReleased = s.resetReleased := by simp [holdCover]
@[simp] theorem holdCover_straps (s : State) (d : Nat) : (s.holdCover d).straps = s.straps := by simp [holdCover]
@[simp] theorem holdCover_tables (s : State) (d : Nat) : (s.holdCover d).tables = s.tables := by simp [holdCover]
@[simp] theorem holdCover_tableStore (s : State) (d : Nat) : (s.holdCover d).tableStore = s.tableStore := by simp [holdCover]
@[simp] theorem holdCover_counts (s : State) (d : Nat) : (s.holdCover d).counts = s.counts := by simp [holdCover]
@[simp] theorem holdCover_mapAccess (s : State) (d : Nat) : (s.holdCover d).mapAccess = s.mapAccess := by simp [holdCover]
@[simp] theorem holdCover_journal (s : State) (d : Nat) : (s.holdCover d).journal = s.journal := by simp [holdCover]
@[simp] theorem holdCover_store (s : State) (d : Nat) : (s.holdCover d).store = s.store := by simp [holdCover]
@[simp] theorem holdCover_intake (s : State) (d : Nat) : (s.holdCover d).intake = s.intake := by simp [holdCover]
@[simp] theorem holdCover_ports (s : State) (d : Nat) : (s.holdCover d).ports = s.ports := by simp [holdCover]
@[simp] theorem holdCover_pending (s : State) (d : Nat) : (s.holdCover d).pending = s.pending := by simp [holdCover]

@[simp] theorem releaseCover_now (s : State) (d : Nat) : (s.releaseCover d).now = s.now := by simp [releaseCover]
@[simp] theorem releaseCover_mainsGood (s : State) (d : Nat) : (s.releaseCover d).mainsGood = s.mainsGood := by simp [releaseCover]
@[simp] theorem releaseCover_resetReleased (s : State) (d : Nat) : (s.releaseCover d).resetReleased = s.resetReleased := by simp [releaseCover]
@[simp] theorem releaseCover_straps (s : State) (d : Nat) : (s.releaseCover d).straps = s.straps := by simp [releaseCover]
@[simp] theorem releaseCover_tables (s : State) (d : Nat) : (s.releaseCover d).tables = s.tables := by simp [releaseCover]
@[simp] theorem releaseCover_tableStore (s : State) (d : Nat) : (s.releaseCover d).tableStore = s.tableStore := by simp [releaseCover]
@[simp] theorem releaseCover_counts (s : State) (d : Nat) : (s.releaseCover d).counts = s.counts := by simp [releaseCover]
@[simp] theorem releaseCover_mapAccess (s : State) (d : Nat) : (s.releaseCover d).mapAccess = s.mapAccess := by simp [releaseCover]
@[simp] theorem releaseCover_journal (s : State) (d : Nat) : (s.releaseCover d).journal = s.journal := by simp [releaseCover]
@[simp] theorem releaseCover_store (s : State) (d : Nat) : (s.releaseCover d).store = s.store := by simp [releaseCover]
@[simp] theorem releaseCover_intake (s : State) (d : Nat) : (s.releaseCover d).intake = s.intake := by simp [releaseCover]
@[simp] theorem releaseCover_ports (s : State) (d : Nat) : (s.releaseCover d).ports = s.ports := by simp [releaseCover]
@[simp] theorem releaseCover_pending (s : State) (d : Nat) : (s.releaseCover d).pending = s.pending := by simp [releaseCover]

@[simp] theorem commitCover_now (s : State) (d : Nat) : (s.commitCover d).now = s.now := by simp [commitCover]
@[simp] theorem commitCover_mainsGood (s : State) (d : Nat) : (s.commitCover d).mainsGood = s.mainsGood := by simp [commitCover]
@[simp] theorem commitCover_resetReleased (s : State) (d : Nat) : (s.commitCover d).resetReleased = s.resetReleased := by simp [commitCover]
@[simp] theorem commitCover_straps (s : State) (d : Nat) : (s.commitCover d).straps = s.straps := by simp [commitCover]
@[simp] theorem commitCover_tables (s : State) (d : Nat) : (s.commitCover d).tables = s.tables := by simp [commitCover]
@[simp] theorem commitCover_tableStore (s : State) (d : Nat) : (s.commitCover d).tableStore = s.tableStore := by simp [commitCover]
@[simp] theorem commitCover_counts (s : State) (d : Nat) : (s.commitCover d).counts = s.counts := by simp [commitCover]
@[simp] theorem commitCover_mapAccess (s : State) (d : Nat) : (s.commitCover d).mapAccess = s.mapAccess := by simp [commitCover]
@[simp] theorem commitCover_journal (s : State) (d : Nat) : (s.commitCover d).journal = s.journal := by simp [commitCover]
@[simp] theorem commitCover_store (s : State) (d : Nat) : (s.commitCover d).store = s.store := by simp [commitCover]
@[simp] theorem commitCover_intake (s : State) (d : Nat) : (s.commitCover d).intake = s.intake := by simp [commitCover]
@[simp] theorem commitCover_ports (s : State) (d : Nat) : (s.commitCover d).ports = s.ports := by simp [commitCover]
@[simp] theorem commitCover_pending (s : State) (d : Nat) : (s.commitCover d).pending = s.pending := by simp [commitCover]

@[simp] theorem reconcileCover_now (s : State) (d : Nat) : (s.reconcileCover d).now = s.now := by simp [reconcileCover]
@[simp] theorem reconcileCover_mainsGood (s : State) (d : Nat) : (s.reconcileCover d).mainsGood = s.mainsGood := by simp [reconcileCover]
@[simp] theorem reconcileCover_resetReleased (s : State) (d : Nat) : (s.reconcileCover d).resetReleased = s.resetReleased := by simp [reconcileCover]
@[simp] theorem reconcileCover_straps (s : State) (d : Nat) : (s.reconcileCover d).straps = s.straps := by simp [reconcileCover]
@[simp] theorem reconcileCover_tables (s : State) (d : Nat) : (s.reconcileCover d).tables = s.tables := by simp [reconcileCover]
@[simp] theorem reconcileCover_tableStore (s : State) (d : Nat) : (s.reconcileCover d).tableStore = s.tableStore := by simp [reconcileCover]
@[simp] theorem reconcileCover_counts (s : State) (d : Nat) : (s.reconcileCover d).counts = s.counts := by simp [reconcileCover]
@[simp] theorem reconcileCover_mapAccess (s : State) (d : Nat) : (s.reconcileCover d).mapAccess = s.mapAccess := by simp [reconcileCover]
@[simp] theorem reconcileCover_journal (s : State) (d : Nat) : (s.reconcileCover d).journal = s.journal := by simp [reconcileCover]
@[simp] theorem reconcileCover_store (s : State) (d : Nat) : (s.reconcileCover d).store = s.store := by simp [reconcileCover]
@[simp] theorem reconcileCover_intake (s : State) (d : Nat) : (s.reconcileCover d).intake = s.intake := by simp [reconcileCover]
@[simp] theorem reconcileCover_ports (s : State) (d : Nat) : (s.reconcileCover d).ports = s.ports := by simp [reconcileCover]
@[simp] theorem reconcileCover_pending (s : State) (d : Nat) : (s.reconcileCover d).pending = s.pending := by simp [reconcileCover]

/-! ## Journal -/

@[simp] theorem modEntry_now (s : State) (n : Nat) (f : Entry → Entry) : (s.modEntry n f).now = s.now := rfl
@[simp] theorem modEntry_mainsGood (s : State) (n : Nat) (f : Entry → Entry) : (s.modEntry n f).mainsGood = s.mainsGood := rfl
@[simp] theorem modEntry_resetReleased (s : State) (n : Nat) (f : Entry → Entry) : (s.modEntry n f).resetReleased = s.resetReleased := rfl
@[simp] theorem modEntry_straps (s : State) (n : Nat) (f : Entry → Entry) : (s.modEntry n f).straps = s.straps := rfl
@[simp] theorem modEntry_tables (s : State) (n : Nat) (f : Entry → Entry) : (s.modEntry n f).tables = s.tables := rfl
@[simp] theorem modEntry_tableStore (s : State) (n : Nat) (f : Entry → Entry) : (s.modEntry n f).tableStore = s.tableStore := rfl
@[simp] theorem modEntry_counts (s : State) (n : Nat) (f : Entry → Entry) : (s.modEntry n f).counts = s.counts := rfl
@[simp] theorem modEntry_mapAccess (s : State) (n : Nat) (f : Entry → Entry) : (s.modEntry n f).mapAccess = s.mapAccess := rfl
@[simp] theorem modEntry_cover (s : State) (n : Nat) (f : Entry → Entry) : (s.modEntry n f).cover = s.cover := rfl
@[simp] theorem modEntry_store (s : State) (n : Nat) (f : Entry → Entry) : (s.modEntry n f).store = s.store := rfl
@[simp] theorem modEntry_intake (s : State) (n : Nat) (f : Entry → Entry) : (s.modEntry n f).intake = s.intake := rfl
@[simp] theorem modEntry_office (s : State) (n : Nat) (f : Entry → Entry) : (s.modEntry n f).office = s.office := rfl
@[simp] theorem modEntry_ports (s : State) (n : Nat) (f : Entry → Entry) : (s.modEntry n f).ports = s.ports := rfl
@[simp] theorem modEntry_pending (s : State) (n : Nat) (f : Entry → Entry) : (s.modEntry n f).pending = s.pending := rfl

@[simp] theorem strandEntry_now (s : State) (n : Nat) : (s.strandEntry n).now = s.now := by simp [strandEntry]
@[simp] theorem strandEntry_mainsGood (s : State) (n : Nat) : (s.strandEntry n).mainsGood = s.mainsGood := by simp [strandEntry]
@[simp] theorem strandEntry_resetReleased (s : State) (n : Nat) : (s.strandEntry n).resetReleased = s.resetReleased := by simp [strandEntry]
@[simp] theorem strandEntry_straps (s : State) (n : Nat) : (s.strandEntry n).straps = s.straps := by simp [strandEntry]
@[simp] theorem strandEntry_tables (s : State) (n : Nat) : (s.strandEntry n).tables = s.tables := by simp [strandEntry]
@[simp] theorem strandEntry_tableStore (s : State) (n : Nat) : (s.strandEntry n).tableStore = s.tableStore := by simp [strandEntry]
@[simp] theorem strandEntry_counts (s : State) (n : Nat) : (s.strandEntry n).counts = s.counts := by simp [strandEntry]
@[simp] theorem strandEntry_mapAccess (s : State) (n : Nat) : (s.strandEntry n).mapAccess = s.mapAccess := by simp [strandEntry]
@[simp] theorem strandEntry_cover (s : State) (n : Nat) : (s.strandEntry n).cover = s.cover := by simp [strandEntry]
@[simp] theorem strandEntry_store (s : State) (n : Nat) : (s.strandEntry n).store = s.store := by simp [strandEntry]
@[simp] theorem strandEntry_intake (s : State) (n : Nat) : (s.strandEntry n).intake = s.intake := by simp [strandEntry]
@[simp] theorem strandEntry_ports (s : State) (n : Nat) : (s.strandEntry n).ports = s.ports := by simp [strandEntry]
@[simp] theorem strandEntry_pending (s : State) (n : Nat) : (s.strandEntry n).pending = s.pending := by simp [strandEntry]

@[simp] theorem placeSlot_now (s : State) : s.placeSlot.now = s.now := rfl
@[simp] theorem placeSlot_mainsGood (s : State) : s.placeSlot.mainsGood = s.mainsGood := rfl
@[simp] theorem placeSlot_resetReleased (s : State) : s.placeSlot.resetReleased = s.resetReleased := rfl
@[simp] theorem placeSlot_straps (s : State) : s.placeSlot.straps = s.straps := rfl
@[simp] theorem placeSlot_tables (s : State) : s.placeSlot.tables = s.tables := rfl
@[simp] theorem placeSlot_tableStore (s : State) : s.placeSlot.tableStore = s.tableStore := rfl
@[simp] theorem placeSlot_counts (s : State) : s.placeSlot.counts = s.counts := rfl
@[simp] theorem placeSlot_mapAccess (s : State) : s.placeSlot.mapAccess = s.mapAccess := rfl
@[simp] theorem placeSlot_cover (s : State) : s.placeSlot.cover = s.cover := rfl
@[simp] theorem placeSlot_store (s : State) : s.placeSlot.store = s.store := rfl
@[simp] theorem placeSlot_intake (s : State) : s.placeSlot.intake = s.intake := rfl
@[simp] theorem placeSlot_office (s : State) : s.placeSlot.office = s.office := rfl
@[simp] theorem placeSlot_ports (s : State) : s.placeSlot.ports = s.ports := rfl
@[simp] theorem placeSlot_pending (s : State) : s.placeSlot.pending = s.pending := rfl

@[simp] theorem removeSlot_now (s : State) : s.removeSlot.now = s.now := rfl
@[simp] theorem removeSlot_mainsGood (s : State) : s.removeSlot.mainsGood = s.mainsGood := rfl
@[simp] theorem removeSlot_resetReleased (s : State) : s.removeSlot.resetReleased = s.resetReleased := rfl
@[simp] theorem removeSlot_straps (s : State) : s.removeSlot.straps = s.straps := rfl
@[simp] theorem removeSlot_tables (s : State) : s.removeSlot.tables = s.tables := rfl
@[simp] theorem removeSlot_tableStore (s : State) : s.removeSlot.tableStore = s.tableStore := rfl
@[simp] theorem removeSlot_counts (s : State) : s.removeSlot.counts = s.counts := rfl
@[simp] theorem removeSlot_mapAccess (s : State) : s.removeSlot.mapAccess = s.mapAccess := rfl
@[simp] theorem removeSlot_cover (s : State) : s.removeSlot.cover = s.cover := rfl
@[simp] theorem removeSlot_store (s : State) : s.removeSlot.store = s.store := rfl
@[simp] theorem removeSlot_intake (s : State) : s.removeSlot.intake = s.intake := rfl
@[simp] theorem removeSlot_office (s : State) : s.removeSlot.office = s.office := rfl
@[simp] theorem removeSlot_ports (s : State) : s.removeSlot.ports = s.ports := rfl
@[simp] theorem removeSlot_pending (s : State) : s.removeSlot.pending = s.pending := rfl

@[simp] theorem epochWrite_now (s : State) : s.epochWrite.now = s.now := by unfold epochWrite; (repeat' split) <;> simp
@[simp] theorem epochWrite_mainsGood (s : State) : s.epochWrite.mainsGood = s.mainsGood := by unfold epochWrite; (repeat' split) <;> simp
@[simp] theorem epochWrite_resetReleased (s : State) : s.epochWrite.resetReleased = s.resetReleased := by unfold epochWrite; (repeat' split) <;> simp
@[simp] theorem epochWrite_straps (s : State) : s.epochWrite.straps = s.straps := by unfold epochWrite; (repeat' split) <;> simp
@[simp] theorem epochWrite_tables (s : State) : s.epochWrite.tables = s.tables := by unfold epochWrite; (repeat' split) <;> simp
@[simp] theorem epochWrite_counts (s : State) : s.epochWrite.counts = s.counts := by unfold epochWrite; (repeat' split) <;> simp
@[simp] theorem epochWrite_mapAccess (s : State) : s.epochWrite.mapAccess = s.mapAccess := by unfold epochWrite; (repeat' split) <;> simp
@[simp] theorem epochWrite_cover (s : State) : s.epochWrite.cover = s.cover := by unfold epochWrite; (repeat' split) <;> simp
@[simp] theorem epochWrite_journal (s : State) : s.epochWrite.journal = s.journal := by unfold epochWrite; (repeat' split) <;> simp
@[simp] theorem epochWrite_store (s : State) : s.epochWrite.store = s.store := by unfold epochWrite; (repeat' split) <;> simp
@[simp] theorem epochWrite_intake (s : State) : s.epochWrite.intake = s.intake := by unfold epochWrite; (repeat' split) <;> simp
@[simp] theorem epochWrite_office (s : State) : s.epochWrite.office = s.office := by unfold epochWrite; (repeat' split) <;> simp
@[simp] theorem epochWrite_ports (s : State) : s.epochWrite.ports = s.ports := by unfold epochWrite; (repeat' split) <;> simp
@[simp] theorem epochWrite_pending (s : State) : s.epochWrite.pending = s.pending := by unfold epochWrite; (repeat' split) <;> simp

@[simp] theorem wrapWrite_now (s : State) : s.wrapWrite.now = s.now := by unfold wrapWrite; (repeat' split) <;> simp
@[simp] theorem wrapWrite_mainsGood (s : State) : s.wrapWrite.mainsGood = s.mainsGood := by unfold wrapWrite; (repeat' split) <;> simp
@[simp] theorem wrapWrite_resetReleased (s : State) : s.wrapWrite.resetReleased = s.resetReleased := by unfold wrapWrite; (repeat' split) <;> simp
@[simp] theorem wrapWrite_straps (s : State) : s.wrapWrite.straps = s.straps := by unfold wrapWrite; (repeat' split) <;> simp
@[simp] theorem wrapWrite_tables (s : State) : s.wrapWrite.tables = s.tables := by unfold wrapWrite; (repeat' split) <;> simp
@[simp] theorem wrapWrite_counts (s : State) : s.wrapWrite.counts = s.counts := by unfold wrapWrite; (repeat' split) <;> simp
@[simp] theorem wrapWrite_mapAccess (s : State) : s.wrapWrite.mapAccess = s.mapAccess := by unfold wrapWrite; (repeat' split) <;> simp
@[simp] theorem wrapWrite_cover (s : State) : s.wrapWrite.cover = s.cover := by unfold wrapWrite; (repeat' split) <;> simp
@[simp] theorem wrapWrite_journal (s : State) : s.wrapWrite.journal = s.journal := by unfold wrapWrite; (repeat' split) <;> simp
@[simp] theorem wrapWrite_store (s : State) : s.wrapWrite.store = s.store := by unfold wrapWrite; (repeat' split) <;> simp
@[simp] theorem wrapWrite_intake (s : State) : s.wrapWrite.intake = s.intake := by unfold wrapWrite; (repeat' split) <;> simp
@[simp] theorem wrapWrite_office (s : State) : s.wrapWrite.office = s.office := by unfold wrapWrite; (repeat' split) <;> simp
@[simp] theorem wrapWrite_ports (s : State) : s.wrapWrite.ports = s.ports := by unfold wrapWrite; (repeat' split) <;> simp
@[simp] theorem wrapWrite_pending (s : State) : s.wrapWrite.pending = s.pending := by unfold wrapWrite; (repeat' split) <;> simp

@[simp] theorem advanceNumber_now (s : State) : s.advanceNumber.now = s.now := by unfold advanceNumber; (repeat' split) <;> simp
@[simp] theorem advanceNumber_mainsGood (s : State) : s.advanceNumber.mainsGood = s.mainsGood := by unfold advanceNumber; (repeat' split) <;> simp
@[simp] theorem advanceNumber_resetReleased (s : State) : s.advanceNumber.resetReleased = s.resetReleased := by unfold advanceNumber; (repeat' split) <;> simp
@[simp] theorem advanceNumber_straps (s : State) : s.advanceNumber.straps = s.straps := by unfold advanceNumber; (repeat' split) <;> simp
@[simp] theorem advanceNumber_tables (s : State) : s.advanceNumber.tables = s.tables := by unfold advanceNumber; (repeat' split) <;> simp
@[simp] theorem advanceNumber_counts (s : State) : s.advanceNumber.counts = s.counts := by unfold advanceNumber; (repeat' split) <;> simp
@[simp] theorem advanceNumber_mapAccess (s : State) : s.advanceNumber.mapAccess = s.mapAccess := by unfold advanceNumber; (repeat' split) <;> simp
@[simp] theorem advanceNumber_cover (s : State) : s.advanceNumber.cover = s.cover := by unfold advanceNumber; (repeat' split) <;> simp
@[simp] theorem advanceNumber_store (s : State) : s.advanceNumber.store = s.store := by unfold advanceNumber; (repeat' split) <;> simp
@[simp] theorem advanceNumber_intake (s : State) : s.advanceNumber.intake = s.intake := by unfold advanceNumber; (repeat' split) <;> simp
@[simp] theorem advanceNumber_office (s : State) : s.advanceNumber.office = s.office := by unfold advanceNumber; (repeat' split) <;> simp
@[simp] theorem advanceNumber_ports (s : State) : s.advanceNumber.ports = s.ports := by unfold advanceNumber; (repeat' split) <;> simp
@[simp] theorem advanceNumber_pending (s : State) : s.advanceNumber.pending = s.pending := by unfold advanceNumber; (repeat' split) <;> simp

@[simp] theorem appendEntry_now (s : State) (e : Entry) : (s.appendEntry e).now = s.now := by simp [appendEntry]
@[simp] theorem appendEntry_mainsGood (s : State) (e : Entry) : (s.appendEntry e).mainsGood = s.mainsGood := by simp [appendEntry]
@[simp] theorem appendEntry_resetReleased (s : State) (e : Entry) : (s.appendEntry e).resetReleased = s.resetReleased := by simp [appendEntry]
@[simp] theorem appendEntry_straps (s : State) (e : Entry) : (s.appendEntry e).straps = s.straps := by simp [appendEntry]
@[simp] theorem appendEntry_tables (s : State) (e : Entry) : (s.appendEntry e).tables = s.tables := by simp [appendEntry]
@[simp] theorem appendEntry_counts (s : State) (e : Entry) : (s.appendEntry e).counts = s.counts := by simp [appendEntry]
@[simp] theorem appendEntry_mapAccess (s : State) (e : Entry) : (s.appendEntry e).mapAccess = s.mapAccess := by simp [appendEntry]
@[simp] theorem appendEntry_cover (s : State) (e : Entry) : (s.appendEntry e).cover = s.cover := by simp [appendEntry]
@[simp] theorem appendEntry_store (s : State) (e : Entry) : (s.appendEntry e).store = s.store := by simp [appendEntry]
@[simp] theorem appendEntry_intake (s : State) (e : Entry) : (s.appendEntry e).intake = s.intake := by simp [appendEntry]
@[simp] theorem appendEntry_ports (s : State) (e : Entry) : (s.appendEntry e).ports = s.ports := by simp [appendEntry]
@[simp] theorem appendEntry_pending (s : State) (e : Entry) : (s.appendEntry e).pending = s.pending := by simp [appendEntry]

/-! ## Store -/

@[simp] theorem setQueue_now (s : State) (h : Hatch) (q : List Nat) : (s.setQueue h q).now = s.now := rfl
@[simp] theorem setQueue_mainsGood (s : State) (h : Hatch) (q : List Nat) : (s.setQueue h q).mainsGood = s.mainsGood := rfl
@[simp] theorem setQueue_resetReleased (s : State) (h : Hatch) (q : List Nat) : (s.setQueue h q).resetReleased = s.resetReleased := rfl
@[simp] theorem setQueue_straps (s : State) (h : Hatch) (q : List Nat) : (s.setQueue h q).straps = s.straps := rfl
@[simp] theorem setQueue_tables (s : State) (h : Hatch) (q : List Nat) : (s.setQueue h q).tables = s.tables := rfl
@[simp] theorem setQueue_tableStore (s : State) (h : Hatch) (q : List Nat) : (s.setQueue h q).tableStore = s.tableStore := rfl
@[simp] theorem setQueue_counts (s : State) (h : Hatch) (q : List Nat) : (s.setQueue h q).counts = s.counts := rfl
@[simp] theorem setQueue_mapAccess (s : State) (h : Hatch) (q : List Nat) : (s.setQueue h q).mapAccess = s.mapAccess := rfl
@[simp] theorem setQueue_cover (s : State) (h : Hatch) (q : List Nat) : (s.setQueue h q).cover = s.cover := rfl
@[simp] theorem setQueue_journal (s : State) (h : Hatch) (q : List Nat) : (s.setQueue h q).journal = s.journal := rfl
@[simp] theorem setQueue_intake (s : State) (h : Hatch) (q : List Nat) : (s.setQueue h q).intake = s.intake := rfl
@[simp] theorem setQueue_office (s : State) (h : Hatch) (q : List Nat) : (s.setQueue h q).office = s.office := rfl
@[simp] theorem setQueue_ports (s : State) (h : Hatch) (q : List Nat) : (s.setQueue h q).ports = s.ports := rfl
@[simp] theorem setQueue_pending (s : State) (h : Hatch) (q : List Nat) : (s.setQueue h q).pending = s.pending := rfl

@[simp] theorem setBin_now (s : State) (b : BinNo) (r : Bin) : (s.setBin b r).now = s.now := rfl
@[simp] theorem setBin_mainsGood (s : State) (b : BinNo) (r : Bin) : (s.setBin b r).mainsGood = s.mainsGood := rfl
@[simp] theorem setBin_resetReleased (s : State) (b : BinNo) (r : Bin) : (s.setBin b r).resetReleased = s.resetReleased := rfl
@[simp] theorem setBin_straps (s : State) (b : BinNo) (r : Bin) : (s.setBin b r).straps = s.straps := rfl
@[simp] theorem setBin_tables (s : State) (b : BinNo) (r : Bin) : (s.setBin b r).tables = s.tables := rfl
@[simp] theorem setBin_tableStore (s : State) (b : BinNo) (r : Bin) : (s.setBin b r).tableStore = s.tableStore := rfl
@[simp] theorem setBin_counts (s : State) (b : BinNo) (r : Bin) : (s.setBin b r).counts = s.counts := rfl
@[simp] theorem setBin_mapAccess (s : State) (b : BinNo) (r : Bin) : (s.setBin b r).mapAccess = s.mapAccess := rfl
@[simp] theorem setBin_cover (s : State) (b : BinNo) (r : Bin) : (s.setBin b r).cover = s.cover := rfl
@[simp] theorem setBin_journal (s : State) (b : BinNo) (r : Bin) : (s.setBin b r).journal = s.journal := rfl
@[simp] theorem setBin_intake (s : State) (b : BinNo) (r : Bin) : (s.setBin b r).intake = s.intake := rfl
@[simp] theorem setBin_office (s : State) (b : BinNo) (r : Bin) : (s.setBin b r).office = s.office := rfl
@[simp] theorem setBin_ports (s : State) (b : BinNo) (r : Bin) : (s.setBin b r).ports = s.ports := rfl
@[simp] theorem setBin_pending (s : State) (b : BinNo) (r : Bin) : (s.setBin b r).pending = s.pending := rfl

@[simp] theorem setCarousel_now (s : State) (c : Carousel) : (s.setCarousel c).now = s.now := rfl
@[simp] theorem setCarousel_mainsGood (s : State) (c : Carousel) : (s.setCarousel c).mainsGood = s.mainsGood := rfl
@[simp] theorem setCarousel_resetReleased (s : State) (c : Carousel) : (s.setCarousel c).resetReleased = s.resetReleased := rfl
@[simp] theorem setCarousel_straps (s : State) (c : Carousel) : (s.setCarousel c).straps = s.straps := rfl
@[simp] theorem setCarousel_tables (s : State) (c : Carousel) : (s.setCarousel c).tables = s.tables := rfl
@[simp] theorem setCarousel_tableStore (s : State) (c : Carousel) : (s.setCarousel c).tableStore = s.tableStore := rfl
@[simp] theorem setCarousel_counts (s : State) (c : Carousel) : (s.setCarousel c).counts = s.counts := rfl
@[simp] theorem setCarousel_mapAccess (s : State) (c : Carousel) : (s.setCarousel c).mapAccess = s.mapAccess := rfl
@[simp] theorem setCarousel_cover (s : State) (c : Carousel) : (s.setCarousel c).cover = s.cover := rfl
@[simp] theorem setCarousel_journal (s : State) (c : Carousel) : (s.setCarousel c).journal = s.journal := rfl
@[simp] theorem setCarousel_intake (s : State) (c : Carousel) : (s.setCarousel c).intake = s.intake := rfl
@[simp] theorem setCarousel_office (s : State) (c : Carousel) : (s.setCarousel c).office = s.office := rfl
@[simp] theorem setCarousel_ports (s : State) (c : Carousel) : (s.setCarousel c).ports = s.ports := rfl
@[simp] theorem setCarousel_pending (s : State) (c : Carousel) : (s.setCarousel c).pending = s.pending := rfl

@[simp] theorem setPosition_now (s : State) (p : Option BinNo) : (s.setPosition p).now = s.now := rfl
@[simp] theorem setPosition_mainsGood (s : State) (p : Option BinNo) : (s.setPosition p).mainsGood = s.mainsGood := rfl
@[simp] theorem setPosition_resetReleased (s : State) (p : Option BinNo) : (s.setPosition p).resetReleased = s.resetReleased := rfl
@[simp] theorem setPosition_straps (s : State) (p : Option BinNo) : (s.setPosition p).straps = s.straps := rfl
@[simp] theorem setPosition_tables (s : State) (p : Option BinNo) : (s.setPosition p).tables = s.tables := rfl
@[simp] theorem setPosition_tableStore (s : State) (p : Option BinNo) : (s.setPosition p).tableStore = s.tableStore := rfl
@[simp] theorem setPosition_counts (s : State) (p : Option BinNo) : (s.setPosition p).counts = s.counts := rfl
@[simp] theorem setPosition_mapAccess (s : State) (p : Option BinNo) : (s.setPosition p).mapAccess = s.mapAccess := rfl
@[simp] theorem setPosition_cover (s : State) (p : Option BinNo) : (s.setPosition p).cover = s.cover := rfl
@[simp] theorem setPosition_journal (s : State) (p : Option BinNo) : (s.setPosition p).journal = s.journal := rfl
@[simp] theorem setPosition_intake (s : State) (p : Option BinNo) : (s.setPosition p).intake = s.intake := rfl
@[simp] theorem setPosition_office (s : State) (p : Option BinNo) : (s.setPosition p).office = s.office := rfl
@[simp] theorem setPosition_ports (s : State) (p : Option BinNo) : (s.setPosition p).ports = s.ports := rfl
@[simp] theorem setPosition_pending (s : State) (p : Option BinNo) : (s.setPosition p).pending = s.pending := rfl

@[simp] theorem placeStoreHold_now (s : State) : s.placeStoreHold.now = s.now := by simp [placeStoreHold]
@[simp] theorem placeStoreHold_mainsGood (s : State) : s.placeStoreHold.mainsGood = s.mainsGood := by simp [placeStoreHold]
@[simp] theorem placeStoreHold_resetReleased (s : State) : s.placeStoreHold.resetReleased = s.resetReleased := by simp [placeStoreHold]
@[simp] theorem placeStoreHold_straps (s : State) : s.placeStoreHold.straps = s.straps := by simp [placeStoreHold]
@[simp] theorem placeStoreHold_tables (s : State) : s.placeStoreHold.tables = s.tables := by simp [placeStoreHold]
@[simp] theorem placeStoreHold_tableStore (s : State) : s.placeStoreHold.tableStore = s.tableStore := by simp [placeStoreHold]
@[simp] theorem placeStoreHold_counts (s : State) : s.placeStoreHold.counts = s.counts := by simp [placeStoreHold]
@[simp] theorem placeStoreHold_mapAccess (s : State) : s.placeStoreHold.mapAccess = s.mapAccess := by simp [placeStoreHold]
@[simp] theorem placeStoreHold_cover (s : State) : s.placeStoreHold.cover = s.cover := by simp [placeStoreHold]
@[simp] theorem placeStoreHold_journal (s : State) : s.placeStoreHold.journal = s.journal := by simp [placeStoreHold]
@[simp] theorem placeStoreHold_intake (s : State) : s.placeStoreHold.intake = s.intake := by simp [placeStoreHold]
@[simp] theorem placeStoreHold_ports (s : State) : s.placeStoreHold.ports = s.ports := by simp [placeStoreHold]
@[simp] theorem placeStoreHold_pending (s : State) : s.placeStoreHold.pending = s.pending := by simp [placeStoreHold]

@[simp] theorem removeStoreHold_now (s : State) : s.removeStoreHold.now = s.now := by simp [removeStoreHold]
@[simp] theorem removeStoreHold_mainsGood (s : State) : s.removeStoreHold.mainsGood = s.mainsGood := by simp [removeStoreHold]
@[simp] theorem removeStoreHold_resetReleased (s : State) : s.removeStoreHold.resetReleased = s.resetReleased := by simp [removeStoreHold]
@[simp] theorem removeStoreHold_straps (s : State) : s.removeStoreHold.straps = s.straps := by simp [removeStoreHold]
@[simp] theorem removeStoreHold_tables (s : State) : s.removeStoreHold.tables = s.tables := by simp [removeStoreHold]
@[simp] theorem removeStoreHold_tableStore (s : State) : s.removeStoreHold.tableStore = s.tableStore := by simp [removeStoreHold]
@[simp] theorem removeStoreHold_counts (s : State) : s.removeStoreHold.counts = s.counts := by simp [removeStoreHold]
@[simp] theorem removeStoreHold_mapAccess (s : State) : s.removeStoreHold.mapAccess = s.mapAccess := by simp [removeStoreHold]
@[simp] theorem removeStoreHold_cover (s : State) : s.removeStoreHold.cover = s.cover := by simp [removeStoreHold]
@[simp] theorem removeStoreHold_journal (s : State) : s.removeStoreHold.journal = s.journal := by simp [removeStoreHold]
@[simp] theorem removeStoreHold_intake (s : State) : s.removeStoreHold.intake = s.intake := by simp [removeStoreHold]
@[simp] theorem removeStoreHold_ports (s : State) : s.removeStoreHold.ports = s.ports := by simp [removeStoreHold]
@[simp] theorem removeStoreHold_pending (s : State) : s.removeStoreHold.pending = s.pending := by simp [removeStoreHold]

@[simp] theorem releasePlace_now (s : State) (n : Nat) : (s.releasePlace n).now = s.now := by unfold releasePlace; (repeat' split) <;> simp
@[simp] theorem releasePlace_mainsGood (s : State) (n : Nat) : (s.releasePlace n).mainsGood = s.mainsGood := by unfold releasePlace; (repeat' split) <;> simp
@[simp] theorem releasePlace_resetReleased (s : State) (n : Nat) : (s.releasePlace n).resetReleased = s.resetReleased := by unfold releasePlace; (repeat' split) <;> simp
@[simp] theorem releasePlace_straps (s : State) (n : Nat) : (s.releasePlace n).straps = s.straps := by unfold releasePlace; (repeat' split) <;> simp
@[simp] theorem releasePlace_tables (s : State) (n : Nat) : (s.releasePlace n).tables = s.tables := by unfold releasePlace; (repeat' split) <;> simp
@[simp] theorem releasePlace_tableStore (s : State) (n : Nat) : (s.releasePlace n).tableStore = s.tableStore := by unfold releasePlace; (repeat' split) <;> simp
@[simp] theorem releasePlace_counts (s : State) (n : Nat) : (s.releasePlace n).counts = s.counts := by unfold releasePlace; (repeat' split) <;> simp
@[simp] theorem releasePlace_mapAccess (s : State) (n : Nat) : (s.releasePlace n).mapAccess = s.mapAccess := by unfold releasePlace; (repeat' split) <;> simp
@[simp] theorem releasePlace_cover (s : State) (n : Nat) : (s.releasePlace n).cover = s.cover := by unfold releasePlace; (repeat' split) <;> simp
@[simp] theorem releasePlace_journal (s : State) (n : Nat) : (s.releasePlace n).journal = s.journal := by unfold releasePlace; (repeat' split) <;> simp
@[simp] theorem releasePlace_intake (s : State) (n : Nat) : (s.releasePlace n).intake = s.intake := by unfold releasePlace; (repeat' split) <;> simp
@[simp] theorem releasePlace_office (s : State) (n : Nat) : (s.releasePlace n).office = s.office := by unfold releasePlace; (repeat' split) <;> simp
@[simp] theorem releasePlace_ports (s : State) (n : Nat) : (s.releasePlace n).ports = s.ports := by unfold releasePlace; (repeat' split) <;> simp
@[simp] theorem releasePlace_pending (s : State) (n : Nat) : (s.releasePlace n).pending = s.pending := by unfold releasePlace; (repeat' split) <;> simp

@[simp] theorem releasePending_now (s : State) (n : Nat) : (s.releasePending n).now = s.now := by simp [releasePending]
@[simp] theorem releasePending_mainsGood (s : State) (n : Nat) : (s.releasePending n).mainsGood = s.mainsGood := by simp [releasePending]
@[simp] theorem releasePending_resetReleased (s : State) (n : Nat) : (s.releasePending n).resetReleased = s.resetReleased := by simp [releasePending]
@[simp] theorem releasePending_straps (s : State) (n : Nat) : (s.releasePending n).straps = s.straps := by simp [releasePending]
@[simp] theorem releasePending_tables (s : State) (n : Nat) : (s.releasePending n).tables = s.tables := by simp [releasePending]
@[simp] theorem releasePending_tableStore (s : State) (n : Nat) : (s.releasePending n).tableStore = s.tableStore := by simp [releasePending]
@[simp] theorem releasePending_counts (s : State) (n : Nat) : (s.releasePending n).counts = s.counts := by simp [releasePending]
@[simp] theorem releasePending_mapAccess (s : State) (n : Nat) : (s.releasePending n).mapAccess = s.mapAccess := by simp [releasePending]
@[simp] theorem releasePending_cover (s : State) (n : Nat) : (s.releasePending n).cover = s.cover := by simp [releasePending]
@[simp] theorem releasePending_journal (s : State) (n : Nat) : (s.releasePending n).journal = s.journal := by simp [releasePending]
@[simp] theorem releasePending_intake (s : State) (n : Nat) : (s.releasePending n).intake = s.intake := by simp [releasePending]
@[simp] theorem releasePending_ports (s : State) (n : Nat) : (s.releasePending n).ports = s.ports := by simp [releasePending]
@[simp] theorem releasePending_pending (s : State) (n : Nat) : (s.releasePending n).pending = s.pending := by simp [releasePending]

/-! ## Night counters, windows and intake -/

@[simp] theorem rollover_now (s : State) : s.rollover.now = s.now := rfl
@[simp] theorem rollover_mainsGood (s : State) : s.rollover.mainsGood = s.mainsGood := rfl
@[simp] theorem rollover_resetReleased (s : State) : s.rollover.resetReleased = s.resetReleased := rfl
@[simp] theorem rollover_straps (s : State) : s.rollover.straps = s.straps := rfl
@[simp] theorem rollover_tables (s : State) : s.rollover.tables = s.tables := rfl
@[simp] theorem rollover_tableStore (s : State) : s.rollover.tableStore = s.tableStore := rfl
@[simp] theorem rollover_mapAccess (s : State) : s.rollover.mapAccess = s.mapAccess := rfl
@[simp] theorem rollover_cover (s : State) : s.rollover.cover = s.cover := rfl
@[simp] theorem rollover_journal (s : State) : s.rollover.journal = s.journal := rfl
@[simp] theorem rollover_store (s : State) : s.rollover.store = s.store := rfl
@[simp] theorem rollover_intake (s : State) : s.rollover.intake = s.intake := rfl
@[simp] theorem rollover_office (s : State) : s.rollover.office = s.office := rfl
@[simp] theorem rollover_ports (s : State) : s.rollover.ports = s.ports := rfl
@[simp] theorem rollover_pending (s : State) : s.rollover.pending = s.pending := rfl

@[simp] theorem evalWindow_now (s : State) : s.evalWindow.now = s.now := by unfold evalWindow; dsimp only; split <;> simp
@[simp] theorem evalWindow_mainsGood (s : State) : s.evalWindow.mainsGood = s.mainsGood := by unfold evalWindow; dsimp only; split <;> simp
@[simp] theorem evalWindow_resetReleased (s : State) : s.evalWindow.resetReleased = s.resetReleased := by unfold evalWindow; dsimp only; split <;> simp
@[simp] theorem evalWindow_straps (s : State) : s.evalWindow.straps = s.straps := by unfold evalWindow; dsimp only; split <;> simp
@[simp] theorem evalWindow_tables (s : State) : s.evalWindow.tables = s.tables := by unfold evalWindow; dsimp only; split <;> simp
@[simp] theorem evalWindow_tableStore (s : State) : s.evalWindow.tableStore = s.tableStore := by unfold evalWindow; dsimp only; split <;> simp
@[simp] theorem evalWindow_mapAccess (s : State) : s.evalWindow.mapAccess = s.mapAccess := by unfold evalWindow; dsimp only; split <;> simp
@[simp] theorem evalWindow_cover (s : State) : s.evalWindow.cover = s.cover := by unfold evalWindow; dsimp only; split <;> simp
@[simp] theorem evalWindow_journal (s : State) : s.evalWindow.journal = s.journal := by unfold evalWindow; dsimp only; split <;> simp
@[simp] theorem evalWindow_store (s : State) : s.evalWindow.store = s.store := by unfold evalWindow; dsimp only; split <;> simp
@[simp] theorem evalWindow_office (s : State) : s.evalWindow.office = s.office := by unfold evalWindow; dsimp only; split <;> simp
@[simp] theorem evalWindow_ports (s : State) : s.evalWindow.ports = s.ports := by unfold evalWindow; dsimp only; split <;> simp
@[simp] theorem evalWindow_pending (s : State) : s.evalWindow.pending = s.pending := by unfold evalWindow; dsimp only; split <;> simp

@[simp] theorem countBag_now (s : State) (t : Snapshot) (d : Nat) : (s.countBag t d).now = s.now := by unfold countBag; (repeat' split) <;> simp
@[simp] theorem countBag_mainsGood (s : State) (t : Snapshot) (d : Nat) : (s.countBag t d).mainsGood = s.mainsGood := by unfold countBag; (repeat' split) <;> simp
@[simp] theorem countBag_resetReleased (s : State) (t : Snapshot) (d : Nat) : (s.countBag t d).resetReleased = s.resetReleased := by unfold countBag; (repeat' split) <;> simp
@[simp] theorem countBag_straps (s : State) (t : Snapshot) (d : Nat) : (s.countBag t d).straps = s.straps := by unfold countBag; (repeat' split) <;> simp
@[simp] theorem countBag_tables (s : State) (t : Snapshot) (d : Nat) : (s.countBag t d).tables = s.tables := by unfold countBag; (repeat' split) <;> simp
@[simp] theorem countBag_tableStore (s : State) (t : Snapshot) (d : Nat) : (s.countBag t d).tableStore = s.tableStore := by unfold countBag; (repeat' split) <;> simp
@[simp] theorem countBag_mapAccess (s : State) (t : Snapshot) (d : Nat) : (s.countBag t d).mapAccess = s.mapAccess := by unfold countBag; (repeat' split) <;> simp
@[simp] theorem countBag_cover (s : State) (t : Snapshot) (d : Nat) : (s.countBag t d).cover = s.cover := by unfold countBag; (repeat' split) <;> simp
@[simp] theorem countBag_journal (s : State) (t : Snapshot) (d : Nat) : (s.countBag t d).journal = s.journal := by unfold countBag; (repeat' split) <;> simp
@[simp] theorem countBag_store (s : State) (t : Snapshot) (d : Nat) : (s.countBag t d).store = s.store := by unfold countBag; (repeat' split) <;> simp
@[simp] theorem countBag_intake (s : State) (t : Snapshot) (d : Nat) : (s.countBag t d).intake = s.intake := by unfold countBag; (repeat' split) <;> simp
@[simp] theorem countBag_office (s : State) (t : Snapshot) (d : Nat) : (s.countBag t d).office = s.office := by unfold countBag; (repeat' split) <;> simp
@[simp] theorem countBag_ports (s : State) (t : Snapshot) (d : Nat) : (s.countBag t d).ports = s.ports := by unfold countBag; (repeat' split) <;> simp
@[simp] theorem countBag_pending (s : State) (t : Snapshot) (d : Nat) : (s.countBag t d).pending = s.pending := by unfold countBag; (repeat' split) <;> simp

@[simp] theorem cancelAwaiting_now (s : State) (h : Hatch) : (s.cancelAwaiting h).now = s.now := by unfold cancelAwaiting; (repeat' split) <;> simp
@[simp] theorem cancelAwaiting_mainsGood (s : State) (h : Hatch) : (s.cancelAwaiting h).mainsGood = s.mainsGood := by unfold cancelAwaiting; (repeat' split) <;> simp
@[simp] theorem cancelAwaiting_resetReleased (s : State) (h : Hatch) : (s.cancelAwaiting h).resetReleased = s.resetReleased := by unfold cancelAwaiting; (repeat' split) <;> simp
@[simp] theorem cancelAwaiting_straps (s : State) (h : Hatch) : (s.cancelAwaiting h).straps = s.straps := by unfold cancelAwaiting; (repeat' split) <;> simp
@[simp] theorem cancelAwaiting_tables (s : State) (h : Hatch) : (s.cancelAwaiting h).tables = s.tables := by unfold cancelAwaiting; (repeat' split) <;> simp
@[simp] theorem cancelAwaiting_tableStore (s : State) (h : Hatch) : (s.cancelAwaiting h).tableStore = s.tableStore := by unfold cancelAwaiting; (repeat' split) <;> simp
@[simp] theorem cancelAwaiting_counts (s : State) (h : Hatch) : (s.cancelAwaiting h).counts = s.counts := by unfold cancelAwaiting; (repeat' split) <;> simp
@[simp] theorem cancelAwaiting_mapAccess (s : State) (h : Hatch) : (s.cancelAwaiting h).mapAccess = s.mapAccess := by unfold cancelAwaiting; (repeat' split) <;> simp
@[simp] theorem cancelAwaiting_cover (s : State) (h : Hatch) : (s.cancelAwaiting h).cover = s.cover := by unfold cancelAwaiting; (repeat' split) <;> simp
@[simp] theorem cancelAwaiting_journal (s : State) (h : Hatch) : (s.cancelAwaiting h).journal = s.journal := by unfold cancelAwaiting; (repeat' split) <;> simp
@[simp] theorem cancelAwaiting_store (s : State) (h : Hatch) : (s.cancelAwaiting h).store = s.store := by unfold cancelAwaiting; (repeat' split) <;> simp
@[simp] theorem cancelAwaiting_intake (s : State) (h : Hatch) : (s.cancelAwaiting h).intake = s.intake := by unfold cancelAwaiting; (repeat' split) <;> simp
@[simp] theorem cancelAwaiting_pending (s : State) (h : Hatch) : (s.cancelAwaiting h).pending = s.pending := by unfold cancelAwaiting; (repeat' split) <;> simp

theorem foldl_field {α β : Type} (p : State → β) {f : State → α → State} (k : ∀ s a, p (f s a) = p s) :
    ∀ (l : List α) (s : State), p (l.foldl f s) = p s
  | [], _ => rfl
  | a :: l, s => (foldl_field p k l (f s a)).trans (k s a)

@[simp] theorem evalIntake_now (s : State) : s.evalIntake.now = s.now := by
  unfold evalIntake; dsimp only; (repeat' split) <;> simp [foldl_field State.now cancelAwaiting_now]
@[simp] theorem evalIntake_mainsGood (s : State) : s.evalIntake.mainsGood = s.mainsGood := by
  unfold evalIntake; dsimp only; (repeat' split) <;> simp [foldl_field State.mainsGood cancelAwaiting_mainsGood]
@[simp] theorem evalIntake_resetReleased (s : State) : s.evalIntake.resetReleased = s.resetReleased := by
  unfold evalIntake; dsimp only; (repeat' split) <;> simp [foldl_field State.resetReleased cancelAwaiting_resetReleased]
@[simp] theorem evalIntake_straps (s : State) : s.evalIntake.straps = s.straps := by
  unfold evalIntake; dsimp only; (repeat' split) <;> simp [foldl_field State.straps cancelAwaiting_straps]
@[simp] theorem evalIntake_tables (s : State) : s.evalIntake.tables = s.tables := by
  unfold evalIntake; dsimp only; (repeat' split) <;> simp [foldl_field State.tables cancelAwaiting_tables]
@[simp] theorem evalIntake_tableStore (s : State) : s.evalIntake.tableStore = s.tableStore := by
  unfold evalIntake; dsimp only; (repeat' split) <;> simp [foldl_field State.tableStore cancelAwaiting_tableStore]
@[simp] theorem evalIntake_counts (s : State) : s.evalIntake.counts = s.counts := by
  unfold evalIntake; dsimp only; (repeat' split) <;> simp [foldl_field State.counts cancelAwaiting_counts]
@[simp] theorem evalIntake_mapAccess (s : State) : s.evalIntake.mapAccess = s.mapAccess := by
  unfold evalIntake; dsimp only; (repeat' split) <;> simp [foldl_field State.mapAccess cancelAwaiting_mapAccess]
@[simp] theorem evalIntake_cover (s : State) : s.evalIntake.cover = s.cover := by
  unfold evalIntake; dsimp only; (repeat' split) <;> simp [foldl_field State.cover cancelAwaiting_cover]
@[simp] theorem evalIntake_journal (s : State) : s.evalIntake.journal = s.journal := by
  unfold evalIntake; dsimp only; (repeat' split) <;> simp [foldl_field State.journal cancelAwaiting_journal]
@[simp] theorem evalIntake_store (s : State) : s.evalIntake.store = s.store := by
  unfold evalIntake; dsimp only; (repeat' split) <;> simp [foldl_field State.store cancelAwaiting_store]
@[simp] theorem evalIntake_pending (s : State) : s.evalIntake.pending = s.pending := by
  unfold evalIntake; dsimp only; (repeat' split) <;> simp [foldl_field State.pending cancelAwaiting_pending]

@[simp] theorem placePending_now (s : State) (b : BinNo) (m d : Nat) : (s.placePending b m d).now = s.now := by simp [placePending]
@[simp] theorem placePending_mainsGood (s : State) (b : BinNo) (m d : Nat) : (s.placePending b m d).mainsGood = s.mainsGood := by simp [placePending]
@[simp] theorem placePending_resetReleased (s : State) (b : BinNo) (m d : Nat) : (s.placePending b m d).resetReleased = s.resetReleased := by simp [placePending]
@[simp] theorem placePending_straps (s : State) (b : BinNo) (m d : Nat) : (s.placePending b m d).straps = s.straps := by simp [placePending]
@[simp] theorem placePending_tables (s : State) (b : BinNo) (m d : Nat) : (s.placePending b m d).tables = s.tables := by simp [placePending]
@[simp] theorem placePending_tableStore (s : State) (b : BinNo) (m d : Nat) : (s.placePending b m d).tableStore = s.tableStore := by simp [placePending]
@[simp] theorem placePending_counts (s : State) (b : BinNo) (m d : Nat) : (s.placePending b m d).counts = s.counts := by simp [placePending]
@[simp] theorem placePending_mapAccess (s : State) (b : BinNo) (m d : Nat) : (s.placePending b m d).mapAccess = s.mapAccess := by simp [placePending]
@[simp] theorem placePending_cover (s : State) (b : BinNo) (m d : Nat) : (s.placePending b m d).cover = s.cover := by simp [placePending]
@[simp] theorem placePending_journal (s : State) (b : BinNo) (m d : Nat) : (s.placePending b m d).journal = s.journal := by simp [placePending]
@[simp] theorem placePending_pending (s : State) (b : BinNo) (m d : Nat) : (s.placePending b m d).pending = s.pending := by simp [placePending]

/-! ## The ending of a transaction -/

@[simp] theorem endTransaction_now (s : State) (h : Hatch) (d : Drop) : (s.endTransaction h d).now = s.now := by unfold endTransaction; split <;> simp
@[simp] theorem endTransaction_mainsGood (s : State) (h : Hatch) (d : Drop) : (s.endTransaction h d).mainsGood = s.mainsGood := by unfold endTransaction; split <;> simp
@[simp] theorem endTransaction_resetReleased (s : State) (h : Hatch) (d : Drop) : (s.endTransaction h d).resetReleased = s.resetReleased := by unfold endTransaction; split <;> simp
@[simp] theorem endTransaction_straps (s : State) (h : Hatch) (d : Drop) : (s.endTransaction h d).straps = s.straps := by unfold endTransaction; split <;> simp
@[simp] theorem endTransaction_tables (s : State) (h : Hatch) (d : Drop) : (s.endTransaction h d).tables = s.tables := by unfold endTransaction; split <;> simp
@[simp] theorem endTransaction_tableStore (s : State) (h : Hatch) (d : Drop) : (s.endTransaction h d).tableStore = s.tableStore := by unfold endTransaction; split <;> simp
@[simp] theorem endTransaction_counts (s : State) (h : Hatch) (d : Drop) : (s.endTransaction h d).counts = s.counts := by unfold endTransaction; split <;> simp
@[simp] theorem endTransaction_mapAccess (s : State) (h : Hatch) (d : Drop) : (s.endTransaction h d).mapAccess = s.mapAccess := by unfold endTransaction; split <;> simp
@[simp] theorem endTransaction_pending (s : State) (h : Hatch) (d : Drop) : (s.endTransaction h d).pending = s.pending := by unfold endTransaction; split <;> simp

/-! ## Parts within a part -/

@[simp] theorem evalCover_cover_committed (s : State) : s.evalCover.cover.committed = s.cover.committed := by unfold evalCover; dsimp only; split <;> simp
@[simp] theorem evalCover_cover_held (s : State) : s.evalCover.cover.held = s.cover.held := by unfold evalCover; dsimp only; split <;> simp

@[simp] theorem evalJournal_journal_entries (s : State) : s.evalJournal.journal.entries = s.journal.entries := by unfold evalJournal; dsimp only; split <;> simp
@[simp] theorem evalJournal_journal_next (s : State) : s.evalJournal.journal.next = s.journal.next := by unfold evalJournal; dsimp only; split <;> simp
@[simp] theorem evalJournal_journal_last (s : State) : s.evalJournal.journal.last = s.journal.last := by unfold evalJournal; dsimp only; split <;> simp
@[simp] theorem evalJournal_journal_epoch (s : State) : s.evalJournal.journal.epoch = s.journal.epoch := by unfold evalJournal; dsimp only; split <;> simp
@[simp] theorem evalJournal_journal_slotHolds (s : State) : s.evalJournal.journal.slotHolds = s.journal.slotHolds := by unfold evalJournal; dsimp only; split <;> simp

@[simp] theorem evalStore_store_bins (s : State) : s.evalStore.store.bins = s.store.bins := by unfold evalStore; dsimp only; split <;> simp
@[simp] theorem evalStore_store_queues (s : State) : s.evalStore.store.queues = s.store.queues := by unfold evalStore; dsimp only; split <;> simp
@[simp] theorem evalStore_store_holds (s : State) : s.evalStore.store.holds = s.store.holds := by unfold evalStore; dsimp only; split <;> simp
@[simp] theorem evalStore_store_lastGranted (s : State) : s.evalStore.store.lastGranted = s.store.lastGranted := by unfold evalStore; dsimp only; split <;> simp
@[simp] theorem evalStore_store_carousel (s : State) : s.evalStore.store.carousel = s.store.carousel := by unfold evalStore; dsimp only; split <;> simp
@[simp] theorem evalStore_store_position (s : State) : s.evalStore.store.position = s.store.position := by unfold evalStore; dsimp only; split <;> simp
@[simp] theorem evalStore_store_doorOpen (s : State) : s.evalStore.store.doorOpen = s.store.doorOpen := by unfold evalStore; dsimp only; split <;> simp

@[simp] theorem trigger_office_hand (s : State) (c : Cause) : (s.trigger c).office.hand = s.office.hand := rfl
@[simp] theorem trigger_office_replies (s : State) (c : Cause) : (s.trigger c).office.replies = s.office.replies := rfl
@[simp] theorem trigger_office_transmitter (s : State) (c : Cause) : (s.trigger c).office.transmitter = s.office.transmitter := rfl
@[simp] theorem trigger_office_count (s : State) (c : Cause) : (s.trigger c).office.count = s.office.count := rfl
@[simp] theorem trigger_office_timer (s : State) (c : Cause) : (s.trigger c).office.timer = s.office.timer := rfl
@[simp] theorem trigger_office_refusals (s : State) (c : Cause) : (s.trigger c).office.refusals = s.office.refusals := rfl
@[simp] theorem trigger_office_cancels (s : State) (c : Cause) : (s.trigger c).office.cancels = s.office.cancels := rfl
@[simp] theorem trigger_office_badFrames (s : State) (c : Cause) : (s.trigger c).office.badFrames = s.office.badFrames := rfl
@[simp] theorem trigger_office_unexpectedDrops (s : State) (c : Cause) : (s.trigger c).office.unexpectedDrops = s.office.unexpectedDrops := rfl

@[simp] theorem latch_office_hand (s : State) (f : Flag) : (s.latch f).office.hand = s.office.hand := rfl
@[simp] theorem latch_office_replies (s : State) (f : Flag) : (s.latch f).office.replies = s.office.replies := rfl
@[simp] theorem latch_office_transmitter (s : State) (f : Flag) : (s.latch f).office.transmitter = s.office.transmitter := rfl
@[simp] theorem latch_office_count (s : State) (f : Flag) : (s.latch f).office.count = s.office.count := rfl
@[simp] theorem latch_office_timer (s : State) (f : Flag) : (s.latch f).office.timer = s.office.timer := rfl
@[simp] theorem latch_office_refusals (s : State) (f : Flag) : (s.latch f).office.refusals = s.office.refusals := rfl
@[simp] theorem latch_office_cancels (s : State) (f : Flag) : (s.latch f).office.cancels = s.office.cancels := rfl
@[simp] theorem latch_office_badFrames (s : State) (f : Flag) : (s.latch f).office.badFrames = s.office.badFrames := rfl
@[simp] theorem latch_office_unexpectedDrops (s : State) (f : Flag) : (s.latch f).office.unexpectedDrops = s.office.unexpectedDrops := rfl

@[simp] theorem raise_office_hand (s : State) (f : Flag) : (s.raise f).office.hand = s.office.hand := by unfold raise; (repeat' split) <;> simp
@[simp] theorem raise_office_replies (s : State) (f : Flag) : (s.raise f).office.replies = s.office.replies := by unfold raise; (repeat' split) <;> simp
@[simp] theorem raise_office_transmitter (s : State) (f : Flag) : (s.raise f).office.transmitter = s.office.transmitter := by unfold raise; (repeat' split) <;> simp
@[simp] theorem raise_office_count (s : State) (f : Flag) : (s.raise f).office.count = s.office.count := by unfold raise; (repeat' split) <;> simp
@[simp] theorem raise_office_timer (s : State) (f : Flag) : (s.raise f).office.timer = s.office.timer := by unfold raise; (repeat' split) <;> simp
@[simp] theorem raise_office_refusals (s : State) (f : Flag) : (s.raise f).office.refusals = s.office.refusals := by unfold raise; (repeat' split) <;> simp
@[simp] theorem raise_office_cancels (s : State) (f : Flag) : (s.raise f).office.cancels = s.office.cancels := by unfold raise; (repeat' split) <;> simp
@[simp] theorem raise_office_badFrames (s : State) (f : Flag) : (s.raise f).office.badFrames = s.office.badFrames := by unfold raise; (repeat' split) <;> simp
@[simp] theorem raise_office_unexpectedDrops (s : State) (f : Flag) : (s.raise f).office.unexpectedDrops = s.office.unexpectedDrops := by unfold raise; (repeat' split) <;> simp

end State

end Sys2Proof.Machine
end

