-- ==== Sys2Proof/Laws/Ports.lean ====
section
/-! SUPPORT. What the shared operations do to a hatch port and its drop machine: one lemma for each. -/

namespace Sys2Proof.Machine

open Sys2Proof

namespace State

/-! ## One port changed -/

theorem modPort_port (s : State) (h k : Hatch) (f : Port → Port) :
    (s.modPort h f).port k = if k = h then f (s.port h) else s.port k := by
  by_cases e : k = h
  · subst e; simp
  · simp [e, modPort_port_ne s (Ne.symm e)]

theorem setDrop_port (s : State) (h k : Hatch) (d : Drop) :
    (s.setDrop h d).port k = if k = h then { s.port h with drop := d } else s.port k := modPort_port s h k _

theorem showAt_port (s : State) (h k : Hatch) (c : Nat) :
    (s.showAt h c).port k = if k = h then { s.port h with showDue := some c } else s.port k := modPort_port s h k _

/-- Operations that leave every port alone leave each. -/
theorem port_of_ports {s t : State} (e : t.ports = s.ports) (k : Hatch) : t.port k = s.port k := by simp [port, e]

theorem drop_of_ports {s t : State} (e : t.ports = s.ports) (k : Hatch) : t.drop k = s.drop k := by
  simp [drop, port, e]

/-! ## Intake -/

/-- Only a transaction that awaits its declaration is cancelled, and at its own hatch alone (R16). -/
theorem cancelAwaiting_port (s : State) (h k : Hatch) :
    (s.cancelAwaiting h).port k
      = if k = h ∧ (s.drop h).code = 2 then { s.port h with drop := .idle, showDue := some 28 } else s.port k := by
  unfold cancelAwaiting
  split
  · rename_i e
    rw [showAt_port, port_of_ports (t := (s.setDrop h .idle).countCancel .stopped) (s := s.setDrop h .idle) rfl h,
      port_of_ports (t := (s.setDrop h .idle).countCancel .stopped) (s := s.setDrop h .idle) rfl k]
    by_cases c : k = h
    · subst c; simp [e, Drop.code, setDrop_port]
    · simp [c, setDrop_port]
  · rename_i e
    have : (s.drop h).code ≠ 2 := by
      intro c
      cases d : s.drop h <;> simp [d, Drop.code] at c
      exact e _ _ d
    simp [this]

theorem cancelAwaiting_drop (s : State) (h k : Hatch) :
    (s.cancelAwaiting h).drop k = if k = h ∧ (s.drop h).code = 2 then .idle else s.drop k := by
  have e := congrArg Port.drop (cancelAwaiting_port s h k)
  rw [apply_ite Port.drop] at e
  exact e

/-- The ports after the four cancellations. -/
theorem cancelAll_port (s : State) (k : Hatch) :
    (Hatch.all.foldl cancelAwaiting s).port k
      = if (s.drop k).code = 2 then { s.port k with drop := .idle, showDue := some 28 } else s.port k := by
  cases k <;> simp [Hatch.all, cancelAwaiting_port, cancelAwaiting_drop]

/-- The ports after intake control has evaluated its state (R142). -/
theorem evalIntake_port (s : State) (k : Hatch) :
    s.evalIntake.port k
      = if s.intakeTarget ≠ s.intake.state ∧ leavesIntake s.intake.state s.intakeTarget = true ∧ (s.drop k).code = 2
        then { s.port k with drop := .idle, showDue := some 28 }
        else s.port k := by
  unfold evalIntake
  by_cases e : s.intakeTarget = s.intake.state
  · simp [e]
  · by_cases l : leavesIntake s.intake.state s.intakeTarget = true
    · simp only [e, if_false, l, if_true, cancelAll_port]
      by_cases c : (s.drop k).code = 2
      · exact (if_pos c).trans (if_pos ⟨e, trivial, c⟩).symm
      · exact (if_neg c).trans (if_neg fun x => c x.2.2).symm
    · simp only [e, if_false, l]
      exact (if_neg fun x => absurd x.2.1 (by simp)).symm

/-- A port that does not await a declaration is left alone. -/
theorem evalIntake_port_eq (s : State) (k : Hatch) (e : (s.drop k).code ≠ 2) : s.evalIntake.port k = s.port k := by
  rw [evalIntake_port]
  exact if_neg fun x => e x.2.2

theorem evalIntake_drop_eq (s : State) (k : Hatch) (e : (s.drop k).code ≠ 2) : s.evalIntake.drop k = s.drop k := by
  simp [drop, evalIntake_port_eq s k e]


/-- A part of a port that no change of drop state and due SHOW reaches is kept. -/
theorem evalIntake_port_part {β : Type} (p : Port → β)
    (c : ∀ (q : Port) (d : Drop) (x : Option Nat), p { q with drop := d, showDue := x } = p q) (s : State) (k : Hatch) :
    p (s.evalIntake.port k) = p (s.port k) := by
  rw [evalIntake_port]
  split
  · exact c _ _ _
  · rfl

@[simp] theorem evalIntake_port_link (s : State) (k : Hatch) :
    (s.evalIntake.port k).link = (s.port k).link := evalIntake_port_part Port.link (fun _ _ _ => rfl) s k
@[simp] theorem evalIntake_port_inverted (s : State) (k : Hatch) :
    (s.evalIntake.port k).inverted = (s.port k).inverted := evalIntake_port_part Port.inverted (fun _ _ _ => rfl) s k
@[simp] theorem evalIntake_port_streak (s : State) (k : Hatch) :
    (s.evalIntake.port k).streak = (s.port k).streak := evalIntake_port_part Port.streak (fun _ _ _ => rfl) s k
@[simp] theorem evalIntake_port_caps (s : State) (k : Hatch) :
    (s.evalIntake.port k).caps = (s.port k).caps := evalIntake_port_part Port.caps (fun _ _ _ => rfl) s k
@[simp] theorem evalIntake_port_depth (s : State) (k : Hatch) :
    (s.evalIntake.port k).depth = (s.port k).depth := evalIntake_port_part Port.depth (fun _ _ _ => rfl) s k
@[simp] theorem evalIntake_port_receiptMode (s : State) (k : Hatch) :
    (s.evalIntake.port k).receiptMode = (s.port k).receiptMode := evalIntake_port_part Port.receiptMode (fun _ _ _ => rfl) s k
@[simp] theorem evalIntake_port_misses (s : State) (k : Hatch) :
    (s.evalIntake.port k).misses = (s.port k).misses := evalIntake_port_part Port.misses (fun _ _ _ => rfl) s k
@[simp] theorem evalIntake_port_window (s : State) (k : Hatch) :
    (s.evalIntake.port k).window = (s.port k).window := evalIntake_port_part Port.window (fun _ _ _ => rfl) s k
@[simp] theorem evalIntake_port_pollStart (s : State) (k : Hatch) :
    (s.evalIntake.port k).pollStart = (s.port k).pollStart := evalIntake_port_part Port.pollStart (fun _ _ _ => rfl) s k
@[simp] theorem evalIntake_port_snapshot (s : State) (k : Hatch) :
    (s.evalIntake.port k).snapshot = (s.port k).snapshot := evalIntake_port_part Port.snapshot (fun _ _ _ => rfl) s k
@[simp] theorem evalIntake_port_takenToken (s : State) (k : Hatch) :
    (s.evalIntake.port k).takenToken = (s.port k).takenToken := evalIntake_port_part Port.takenToken (fun _ _ _ => rfl) s k
@[simp] theorem evalIntake_port_takenDecl (s : State) (k : Hatch) :
    (s.evalIntake.port k).takenDecl = (s.port k).takenDecl := evalIntake_port_part Port.takenDecl (fun _ _ _ => rfl) s k
@[simp] theorem evalIntake_port_receiptDue (s : State) (k : Hatch) :
    (s.evalIntake.port k).receiptDue = (s.port k).receiptDue := evalIntake_port_part Port.receiptDue (fun _ _ _ => rfl) s k
@[simp] theorem evalIntake_port_surroundLatch (s : State) (k : Hatch) :
    (s.evalIntake.port k).surroundLatch = (s.port k).surroundLatch := evalIntake_port_part Port.surroundLatch (fun _ _ _ => rfl) s k
@[simp] theorem evalIntake_port_contactOpen (s : State) (k : Hatch) :
    (s.evalIntake.port k).contactOpen = (s.port k).contactOpen := evalIntake_port_part Port.contactOpen (fun _ _ _ => rfl) s k
@[simp] theorem evalIntake_port_badFrames (s : State) (k : Hatch) :
    (s.evalIntake.port k).badFrames = (s.port k).badFrames := evalIntake_port_part Port.badFrames (fun _ _ _ => rfl) s k
@[simp] theorem evalIntake_port_missCount (s : State) (k : Hatch) :
    (s.evalIntake.port k).missCount = (s.port k).missCount := evalIntake_port_part Port.missCount (fun _ _ _ => rfl) s k
@[simp] theorem evalIntake_port_lineOut (s : State) (k : Hatch) :
    (s.evalIntake.port k).lineOut = (s.port k).lineOut := evalIntake_port_part Port.lineOut (fun _ _ _ => rfl) s k
@[simp] theorem evalIntake_port_faultFlag (s : State) (k : Hatch) :
    (s.evalIntake.port k).faultFlag = (s.port k).faultFlag := evalIntake_port_part Port.faultFlag (fun _ _ _ => rfl) s k
@[simp] theorem evalIntake_port_zeroArmed (s : State) (k : Hatch) :
    (s.evalIntake.port k).zeroArmed = (s.port k).zeroArmed := evalIntake_port_part Port.zeroArmed (fun _ _ _ => rfl) s k
@[simp] theorem evalIntake_port_release (s : State) (k : Hatch) :
    (s.evalIntake.port k).release = (s.port k).release := evalIntake_port_part Port.release (fun _ _ _ => rfl) s k

/-! ## The ending of a transaction -/

/-- The machine whose transaction ends is in the state named, and its port is otherwise left alone. -/
theorem endTransaction_port_self (s : State) (h : Hatch) (d : Drop) (e : d.code ≠ 2) :
    (s.endTransaction h d).port h = { s.port h with drop := d } := by
  unfold endTransaction
  split
  all_goals first
    | exact (setDrop_port s h h d).trans (if_pos rfl)
    | rw [evalIntake_port_eq]
      · simp [port, setDrop, modPort]
      · simp [drop, port, setDrop, modPort, e]

theorem endTransaction_drop_self (s : State) (h : Hatch) (d : Drop) (e : d.code ≠ 2) :
    (s.endTransaction h d).drop h = d := by
  simp [drop, endTransaction_port_self s h d e]

theorem endTransaction_port_part {β : Type} (p : Port → β)
    (c : ∀ (q : Port) (d : Drop) (x : Option Nat), p { q with drop := d, showDue := x } = p q) (s : State)
    (h k : Hatch) (d : Drop) : p ((s.endTransaction h d).port k) = p (s.port k) := by
  have set : p ((s.setDrop h d).port k) = p (s.port k) := by
    rw [setDrop_port]
    split
    · rename_i e; subst e; exact c (s.port k) d (s.port k).showDue
    · rfl
  unfold endTransaction
  split <;> first
    | exact set
    | exact (evalIntake_port_part p c _ k).trans ((congrArg p (port_of_ports (by simp) k)).trans set)

@[simp] theorem endTransaction_port_link (s : State) (h k : Hatch) (d : Drop) :
    ((s.endTransaction h d).port k).link = (s.port k).link :=
  endTransaction_port_part Port.link (fun _ _ _ => rfl) s h k d
@[simp] theorem endTransaction_port_inverted (s : State) (h k : Hatch) (d : Drop) :
    ((s.endTransaction h d).port k).inverted = (s.port k).inverted :=
  endTransaction_port_part Port.inverted (fun _ _ _ => rfl) s h k d
@[simp] theorem endTransaction_port_streak (s : State) (h k : Hatch) (d : Drop) :
    ((s.endTransaction h d).port k).streak = (s.port k).streak :=
  endTransaction_port_part Port.streak (fun _ _ _ => rfl) s h k d
@[simp] theorem endTransaction_port_caps (s : State) (h k : Hatch) (d : Drop) :
    ((s.endTransaction h d).port k).caps = (s.port k).caps :=
  endTransaction_port_part Port.caps (fun _ _ _ => rfl) s h k d
@[simp] theorem endTransaction_port_depth (s : State) (h k : Hatch) (d : Drop) :
    ((s.endTransaction h d).port k).depth = (s.port k).depth :=
  endTransaction_port_part Port.depth (fun _ _ _ => rfl) s h k d
@[simp] theorem endTransaction_port_receiptMode (s : State) (h k : Hatch) (d : Drop) :
    ((s.endTransaction h d).port k).receiptMode = (s.port k).receiptMode :=
  endTransaction_port_part Port.receiptMode (fun _ _ _ => rfl) s h k d
@[simp] theorem endTransaction_port_misses (s : State) (h k : Hatch) (d : Drop) :
    ((s.endTransaction h d).port k).misses = (s.port k).misses :=
  endTransaction_port_part Port.misses (fun _ _ _ => rfl) s h k d
@[simp] theorem endTransaction_port_window (s : State) (h k : Hatch) (d : Drop) :
    ((s.endTransaction h d).port k).window = (s.port k).window :=
  endTransaction_port_part Port.window (fun _ _ _ => rfl) s h k d
@[simp] theorem endTransaction_port_pollStart (s : State) (h k : Hatch) (d : Drop) :
    ((s.endTransaction h d).port k).pollStart = (s.port k).pollStart :=
  endTransaction_port_part Port.pollStart (fun _ _ _ => rfl) s h k d
@[simp] theorem endTransaction_port_snapshot (s : State) (h k : Hatch) (d : Drop) :
    ((s.endTransaction h d).port k).snapshot = (s.port k).snapshot :=
  endTransaction_port_part Port.snapshot (fun _ _ _ => rfl) s h k d
@[simp] theorem endTransaction_port_takenToken (s : State) (h k : Hatch) (d : Drop) :
    ((s.endTransaction h d).port k).takenToken = (s.port k).takenToken :=
  endTransaction_port_part Port.takenToken (fun _ _ _ => rfl) s h k d
@[simp] theorem endTransaction_port_takenDecl (s : State) (h k : Hatch) (d : Drop) :
    ((s.endTransaction h d).port k).takenDecl = (s.port k).takenDecl :=
  endTransaction_port_part Port.takenDecl (fun _ _ _ => rfl) s h k d
@[simp] theorem endTransaction_port_receiptDue (s : State) (h k : Hatch) (d : Drop) :
    ((s.endTransaction h d).port k).receiptDue = (s.port k).receiptDue :=
  endTransaction_port_part Port.receiptDue (fun _ _ _ => rfl) s h k d
@[simp] theorem endTransaction_port_surroundLatch (s : State) (h k : Hatch) (d : Drop) :
    ((s.endTransaction h d).port k).surroundLatch = (s.port k).surroundLatch :=
  endTransaction_port_part Port.surroundLatch (fun _ _ _ => rfl) s h k d
@[simp] theorem endTransaction_port_contactOpen (s : State) (h k : Hatch) (d : Drop) :
    ((s.endTransaction h d).port k).contactOpen = (s.port k).contactOpen :=
  endTransaction_port_part Port.contactOpen (fun _ _ _ => rfl) s h k d
@[simp] theorem endTransaction_port_badFrames (s : State) (h k : Hatch) (d : Drop) :
    ((s.endTransaction h d).port k).badFrames = (s.port k).badFrames :=
  endTransaction_port_part Port.badFrames (fun _ _ _ => rfl) s h k d
@[simp] theorem endTransaction_port_missCount (s : State) (h k : Hatch) (d : Drop) :
    ((s.endTransaction h d).port k).missCount = (s.port k).missCount :=
  endTransaction_port_part Port.missCount (fun _ _ _ => rfl) s h k d
@[simp] theorem endTransaction_port_lineOut (s : State) (h k : Hatch) (d : Drop) :
    ((s.endTransaction h d).port k).lineOut = (s.port k).lineOut :=
  endTransaction_port_part Port.lineOut (fun _ _ _ => rfl) s h k d
@[simp] theorem endTransaction_port_faultFlag (s : State) (h k : Hatch) (d : Drop) :
    ((s.endTransaction h d).port k).faultFlag = (s.port k).faultFlag :=
  endTransaction_port_part Port.faultFlag (fun _ _ _ => rfl) s h k d
@[simp] theorem endTransaction_port_zeroArmed (s : State) (h k : Hatch) (d : Drop) :
    ((s.endTransaction h d).port k).zeroArmed = (s.port k).zeroArmed :=
  endTransaction_port_part Port.zeroArmed (fun _ _ _ => rfl) s h k d
@[simp] theorem endTransaction_port_release (s : State) (h k : Hatch) (d : Drop) :
    ((s.endTransaction h d).port k).release = (s.port k).release :=
  endTransaction_port_part Port.release (fun _ _ _ => rfl) s h k d

/-- The faulted machine is in FAULT unless its link is down, and its fault flag is set (R22). -/
theorem faultHatch_port_self (s : State) (h : Hatch) :
    (s.faultHatch h).port h
      = { s.port h with faultFlag := true, drop := if s.drop h = .offline then .offline else .fault } := by
  have same : (s.modPort h fun p => { p with faultFlag := true }).drop h = s.drop h := by simp [drop]
  have ends : ((s.modPort h fun p => { p with faultFlag := true }).endTransaction h .fault).port h
      = { s.port h with faultFlag := true, drop := .fault } := by
    rw [endTransaction_port_self _ _ _ (by decide), modPort_port_self]
  have stays (d : Drop) (e : s.drop h = d) : (s.modPort h fun p => { p with faultFlag := true }).port h
      = { s.port h with faultFlag := true, drop := d } := by
    rw [modPort_port_self, ← e]
    rfl
  unfold faultHatch
  dsimp only
  rw [same]
  cases e : s.drop h <;> first
    | exact ends
    | exact stays _ e

theorem faultHatch_drop_self (s : State) (h : Hatch) :
    (s.faultHatch h).drop h = if s.drop h = .offline then .offline else .fault := by
  unfold drop
  rw [faultHatch_port_self]
  rfl

theorem faultHatch_port_part {β : Type} (p : Port → β)
    (c : ∀ (q : Port) (d : Drop) (x : Option Nat), p { q with drop := d, showDue := x } = p q)
    (f : ∀ q : Port, p { q with faultFlag := true } = p q) (s : State) (h k : Hatch) :
    p ((s.faultHatch h).port k) = p (s.port k) := by
  have set : p ((s.modPort h fun q => { q with faultFlag := true }).port k) = p (s.port k) := by
    rw [modPort_port]
    split
    · rename_i e; subst e; exact f _
    · rfl
  unfold faultHatch
  dsimp only
  split <;> first
    | exact set
    | exact (endTransaction_port_part p c _ _ _ _).trans set

@[simp] theorem faultHatch_port_link (s : State) (h k : Hatch) :
    ((s.faultHatch h).port k).link = (s.port k).link :=
  faultHatch_port_part Port.link (fun _ _ _ => rfl) (fun _ => rfl) s h k
@[simp] theorem faultHatch_port_inverted (s : State) (h k : Hatch) :
    ((s.faultHatch h).port k).inverted = (s.port k).inverted :=
  faultHatch_port_part Port.inverted (fun _ _ _ => rfl) (fun _ => rfl) s h k
@[simp] theorem faultHatch_port_streak (s : State) (h k : Hatch) :
    ((s.faultHatch h).port k).streak = (s.port k).streak :=
  faultHatch_port_part Port.streak (fun _ _ _ => rfl) (fun _ => rfl) s h k
@[simp] theorem faultHatch_port_caps (s : State) (h k : Hatch) :
    ((s.faultHatch h).port k).caps = (s.port k).caps :=
  faultHatch_port_part Port.caps (fun _ _ _ => rfl) (fun _ => rfl) s h k
@[simp] theorem faultHatch_port_depth (s : State) (h k : Hatch) :
    ((s.faultHatch h).port k).depth = (s.port k).depth :=
  faultHatch_port_part Port.depth (fun _ _ _ => rfl) (fun _ => rfl) s h k
@[simp] theorem faultHatch_port_receiptMode (s : State) (h k : Hatch) :
    ((s.faultHatch h).port k).receiptMode = (s.port k).receiptMode :=
  faultHatch_port_part Port.receiptMode (fun _ _ _ => rfl) (fun _ => rfl) s h k
@[simp] theorem faultHatch_port_misses (s : State) (h k : Hatch) :
    ((s.faultHatch h).port k).misses = (s.port k).misses :=
  faultHatch_port_part Port.misses (fun _ _ _ => rfl) (fun _ => rfl) s h k
@[simp] theorem faultHatch_port_window (s : State) (h k : Hatch) :
    ((s.faultHatch h).port k).window = (s.port k).window :=
  faultHatch_port_part Port.window (fun _ _ _ => rfl) (fun _ => rfl) s h k
@[simp] theorem faultHatch_port_pollStart (s : State) (h k : Hatch) :
    ((s.faultHatch h).port k).pollStart = (s.port k).pollStart :=
  faultHatch_port_part Port.pollStart (fun _ _ _ => rfl) (fun _ => rfl) s h k
@[simp] theorem faultHatch_port_snapshot (s : State) (h k : Hatch) :
    ((s.faultHatch h).port k).snapshot = (s.port k).snapshot :=
  faultHatch_port_part Port.snapshot (fun _ _ _ => rfl) (fun _ => rfl) s h k
@[simp] theorem faultHatch_port_takenToken (s : State) (h k : Hatch) :
    ((s.faultHatch h).port k).takenToken = (s.port k).takenToken :=
  faultHatch_port_part Port.takenToken (fun _ _ _ => rfl) (fun _ => rfl) s h k
@[simp] theorem faultHatch_port_takenDecl (s : State) (h k : Hatch) :
    ((s.faultHatch h).port k).takenDecl = (s.port k).takenDecl :=
  faultHatch_port_part Port.takenDecl (fun _ _ _ => rfl) (fun _ => rfl) s h k
@[simp] theorem faultHatch_port_receiptDue (s : State) (h k : Hatch) :
    ((s.faultHatch h).port k).receiptDue = (s.port k).receiptDue :=
  faultHatch_port_part Port.receiptDue (fun _ _ _ => rfl) (fun _ => rfl) s h k
@[simp] theorem faultHatch_port_surroundLatch (s : State) (h k : Hatch) :
    ((s.faultHatch h).port k).surroundLatch = (s.port k).surroundLatch :=
  faultHatch_port_part Port.surroundLatch (fun _ _ _ => rfl) (fun _ => rfl) s h k
@[simp] theorem faultHatch_port_contactOpen (s : State) (h k : Hatch) :
    ((s.faultHatch h).port k).contactOpen = (s.port k).contactOpen :=
  faultHatch_port_part Port.contactOpen (fun _ _ _ => rfl) (fun _ => rfl) s h k
@[simp] theorem faultHatch_port_badFrames (s : State) (h k : Hatch) :
    ((s.faultHatch h).port k).badFrames = (s.port k).badFrames :=
  faultHatch_port_part Port.badFrames (fun _ _ _ => rfl) (fun _ => rfl) s h k
@[simp] theorem faultHatch_port_missCount (s : State) (h k : Hatch) :
    ((s.faultHatch h).port k).missCount = (s.port k).missCount :=
  faultHatch_port_part Port.missCount (fun _ _ _ => rfl) (fun _ => rfl) s h k
@[simp] theorem faultHatch_port_lineOut (s : State) (h k : Hatch) :
    ((s.faultHatch h).port k).lineOut = (s.port k).lineOut :=
  faultHatch_port_part Port.lineOut (fun _ _ _ => rfl) (fun _ => rfl) s h k
@[simp] theorem faultHatch_port_zeroArmed (s : State) (h k : Hatch) :
    ((s.faultHatch h).port k).zeroArmed = (s.port k).zeroArmed :=
  faultHatch_port_part Port.zeroArmed (fun _ _ _ => rfl) (fun _ => rfl) s h k
@[simp] theorem faultHatch_port_release (s : State) (h k : Hatch) :
    ((s.faultHatch h).port k).release = (s.port k).release :=
  faultHatch_port_part Port.release (fun _ _ _ => rfl) (fun _ => rfl) s h k

end State

end Sys2Proof.Machine
end

