-- ==== Sys2Proof/Laws/Ends.lean ====
section
/-! SUPPORT. What the ending of a transaction, a faulted hatch and a link that leaves UP keep of the store
controller, the journal and the cover account. -/

namespace Sys2Proof.Machine

open Sys2Proof

namespace State

/-! ## Pending places and store holds -/

@[simp] theorem setBin_store_queues (s : State) (b : BinNo) (r : Bin) : (s.setBin b r).store.queues = s.store.queues := rfl
@[simp] theorem setBin_store_lastGranted (s : State) (b : BinNo) (r : Bin) : (s.setBin b r).store.lastGranted = s.store.lastGranted := rfl
@[simp] theorem setBin_store_carousel (s : State) (b : BinNo) (r : Bin) : (s.setBin b r).store.carousel = s.store.carousel := rfl
@[simp] theorem setBin_store_position (s : State) (b : BinNo) (r : Bin) : (s.setBin b r).store.position = s.store.position := rfl
@[simp] theorem setBin_store_doorOpen (s : State) (b : BinNo) (r : Bin) : (s.setBin b r).store.doorOpen = s.store.doorOpen := rfl
@[simp] theorem releasePlace_store_queues (s : State) (n : Nat) : (s.releasePlace n).store.queues = s.store.queues := by
  unfold releasePlace; split <;> (try split) <;> rfl
@[simp] theorem releasePlace_store_lastGranted (s : State) (n : Nat) : (s.releasePlace n).store.lastGranted = s.store.lastGranted := by
  unfold releasePlace; split <;> (try split) <;> rfl
@[simp] theorem releasePlace_store_carousel (s : State) (n : Nat) : (s.releasePlace n).store.carousel = s.store.carousel := by
  unfold releasePlace; split <;> (try split) <;> rfl
@[simp] theorem releasePlace_store_position (s : State) (n : Nat) : (s.releasePlace n).store.position = s.store.position := by
  unfold releasePlace; split <;> (try split) <;> rfl
@[simp] theorem releasePlace_store_doorOpen (s : State) (n : Nat) : (s.releasePlace n).store.doorOpen = s.store.doorOpen := by
  unfold releasePlace; split <;> (try split) <;> rfl
@[simp] theorem releasePlace_store_holds (s : State) (n : Nat) : (s.releasePlace n).store.holds = s.store.holds := by
  unfold releasePlace; split <;> (try split) <;> rfl
@[simp] theorem releasePending_store_queues (s : State) (n : Nat) : (s.releasePending n).store.queues = s.store.queues := by
  simp [releasePending]
@[simp] theorem releasePending_store_lastGranted (s : State) (n : Nat) : (s.releasePending n).store.lastGranted = s.store.lastGranted := by
  simp [releasePending]
@[simp] theorem releasePending_store_carousel (s : State) (n : Nat) : (s.releasePending n).store.carousel = s.store.carousel := by
  simp [releasePending]
@[simp] theorem releasePending_store_position (s : State) (n : Nat) : (s.releasePending n).store.position = s.store.position := by
  simp [releasePending]
@[simp] theorem releasePending_store_doorOpen (s : State) (n : Nat) : (s.releasePending n).store.doorOpen = s.store.doorOpen := by
  simp [releasePending]
@[simp] theorem releasePending_store_holds (s : State) (n : Nat) : (s.releasePending n).store.holds = s.store.holds := by
  simp [releasePending]
@[simp] theorem removeStoreHold_store_queues (s : State) : s.removeStoreHold.store.queues = s.store.queues := by
  simp [removeStoreHold]
@[simp] theorem removeStoreHold_store_lastGranted (s : State) : s.removeStoreHold.store.lastGranted = s.store.lastGranted := by
  simp [removeStoreHold]
@[simp] theorem removeStoreHold_store_carousel (s : State) : s.removeStoreHold.store.carousel = s.store.carousel := by
  simp [removeStoreHold]
@[simp] theorem removeStoreHold_store_position (s : State) : s.removeStoreHold.store.position = s.store.position := by
  simp [removeStoreHold]
@[simp] theorem removeStoreHold_store_doorOpen (s : State) : s.removeStoreHold.store.doorOpen = s.store.doorOpen := by
  simp [removeStoreHold]
@[simp] theorem removeStoreHold_store_bins (s : State) : s.removeStoreHold.store.bins = s.store.bins := by
  simp [removeStoreHold]
@[simp] theorem removeStoreHold_store_holds (s : State) : s.removeStoreHold.store.holds = s.store.holds - 1 := by
  simp [removeStoreHold]
@[simp] theorem strandEntry_journal_next (s : State) (n : Nat) : (s.strandEntry n).journal.next = s.journal.next := by
  simp [strandEntry, modEntry]
@[simp] theorem strandEntry_journal_last (s : State) (n : Nat) : (s.strandEntry n).journal.last = s.journal.last := by
  simp [strandEntry, modEntry]
@[simp] theorem strandEntry_journal_epoch (s : State) (n : Nat) : (s.strandEntry n).journal.epoch = s.journal.epoch := by
  simp [strandEntry, modEntry]
@[simp] theorem strandEntry_journal_slotHolds (s : State) (n : Nat) :
    (s.strandEntry n).journal.slotHolds = s.journal.slotHolds := by simp [strandEntry, modEntry]

theorem strandEntry_entries (s : State) (n : Nat) :
    (s.strandEntry n).journal.entries
      = s.journal.entries.map fun e => if e.number = n then { e with state := .stranded } else e := by
  simp [strandEntry, modEntry]

/-- A STRANDED entry stays as it is while others are stranded. -/
theorem strandEntry_mem (s : State) (n : Nat) (e : Entry) (m : e ∈ s.journal.entries) (x : e.state = .stranded) :
    e ∈ (s.strandEntry n).journal.entries := by
  rw [strandEntry_entries, List.mem_map]
  refine ⟨e, m, ?_⟩
  split
  · cases e; simp_all
  · rfl

theorem strandEntry_mem_self (s : State) (n : Nat) (e : Entry) (m : e ∈ s.journal.entries) (x : e.number = n) :
    { e with state := .stranded } ∈ (s.strandEntry n).journal.entries := by
  rw [strandEntry_entries, List.mem_map]
  exact ⟨e, m, by simp [x]⟩

/-! ## The ending of a transaction -/

@[simp] theorem endTransaction_store_queues (s : State) (h : Hatch) (d : Drop) : (s.endTransaction h d).store.queues = s.store.queues := by
  unfold endTransaction; split <;> simp [releaseCover, removeSlot]
@[simp] theorem endTransaction_store_lastGranted (s : State) (h : Hatch) (d : Drop) : (s.endTransaction h d).store.lastGranted = s.store.lastGranted := by
  unfold endTransaction; split <;> simp [releaseCover, removeSlot]
@[simp] theorem endTransaction_store_carousel (s : State) (h : Hatch) (d : Drop) : (s.endTransaction h d).store.carousel = s.store.carousel := by
  unfold endTransaction; split <;> simp [releaseCover, removeSlot]
@[simp] theorem endTransaction_store_position (s : State) (h : Hatch) (d : Drop) : (s.endTransaction h d).store.position = s.store.position := by
  unfold endTransaction; split <;> simp [releaseCover, removeSlot]
@[simp] theorem endTransaction_store_doorOpen (s : State) (h : Hatch) (d : Drop) : (s.endTransaction h d).store.doorOpen = s.store.doorOpen := by
  unfold endTransaction; split <;> simp [releaseCover, removeSlot]
@[simp] theorem endTransaction_journal_next (s : State) (h : Hatch) (d : Drop) : (s.endTransaction h d).journal.next = s.journal.next := by
  unfold endTransaction; split <;> simp [releaseCover, removeSlot]
@[simp] theorem endTransaction_journal_last (s : State) (h : Hatch) (d : Drop) : (s.endTransaction h d).journal.last = s.journal.last := by
  unfold endTransaction; split <;> simp [releaseCover, removeSlot]
@[simp] theorem endTransaction_journal_epoch (s : State) (h : Hatch) (d : Drop) : (s.endTransaction h d).journal.epoch = s.journal.epoch := by
  unfold endTransaction; split <;> simp [releaseCover, removeSlot]
@[simp] theorem endTransaction_cover_committed (s : State) (h : Hatch) (d : Drop) : (s.endTransaction h d).cover.committed = s.cover.committed := by
  unfold endTransaction; split <;> simp [releaseCover, removeSlot]
@[simp] theorem endTransaction_journal_length (s : State) (h : Hatch) (d : Drop) :
    (s.endTransaction h d).journal.entries.length = s.journal.entries.length := by
  unfold endTransaction
  split <;> simp [releaseCover, removeSlot, strandEntry_entries]

theorem endTransaction_mem (s : State) (h : Hatch) (d : Drop) (e : Entry) (m : e ∈ s.journal.entries)
    (x : e.state = .stranded) : e ∈ (s.endTransaction h d).journal.entries := by
  unfold endTransaction
  split
  case h_1 => simpa [releaseCover, removeSlot] using m
  case h_2 => simpa using strandEntry_mem (s.setDrop h d) _ e m x
  case h_3 => simpa using strandEntry_mem (s.setDrop h d) _ e m x
  all_goals exact m

/-! ## A faulted hatch -/

@[simp] theorem faultHatch_store_queues (s : State) (h : Hatch) : (s.faultHatch h).store.queues = s.store.queues := by
  unfold faultHatch; dsimp only; split <;> simp
@[simp] theorem faultHatch_store_lastGranted (s : State) (h : Hatch) : (s.faultHatch h).store.lastGranted = s.store.lastGranted := by
  unfold faultHatch; dsimp only; split <;> simp
@[simp] theorem faultHatch_store_carousel (s : State) (h : Hatch) : (s.faultHatch h).store.carousel = s.store.carousel := by
  unfold faultHatch; dsimp only; split <;> simp
@[simp] theorem faultHatch_store_position (s : State) (h : Hatch) : (s.faultHatch h).store.position = s.store.position := by
  unfold faultHatch; dsimp only; split <;> simp
@[simp] theorem faultHatch_store_doorOpen (s : State) (h : Hatch) : (s.faultHatch h).store.doorOpen = s.store.doorOpen := by
  unfold faultHatch; dsimp only; split <;> simp
@[simp] theorem faultHatch_journal_next (s : State) (h : Hatch) : (s.faultHatch h).journal.next = s.journal.next := by
  unfold faultHatch; dsimp only; split <;> simp
@[simp] theorem faultHatch_journal_last (s : State) (h : Hatch) : (s.faultHatch h).journal.last = s.journal.last := by
  unfold faultHatch; dsimp only; split <;> simp
@[simp] theorem faultHatch_journal_epoch (s : State) (h : Hatch) : (s.faultHatch h).journal.epoch = s.journal.epoch := by
  unfold faultHatch; dsimp only; split <;> simp
@[simp] theorem faultHatch_cover_committed (s : State) (h : Hatch) : (s.faultHatch h).cover.committed = s.cover.committed := by
  unfold faultHatch; dsimp only; split <;> simp
@[simp] theorem faultHatch_tables (s : State) (h : Hatch) : (s.faultHatch h).tables = s.tables := by
  unfold faultHatch; dsimp only; split <;> simp
@[simp] theorem faultHatch_now (s : State) (h : Hatch) : (s.faultHatch h).now = s.now := by
  unfold faultHatch; dsimp only; split <;> simp
@[simp] theorem faultHatch_counts (s : State) (h : Hatch) : (s.faultHatch h).counts = s.counts := by
  unfold faultHatch; dsimp only; split <;> simp
@[simp] theorem faultHatch_mapAccess (s : State) (h : Hatch) : (s.faultHatch h).mapAccess = s.mapAccess := by
  unfold faultHatch; dsimp only; split <;> simp
@[simp] theorem faultHatch_tableStore (s : State) (h : Hatch) : (s.faultHatch h).tableStore = s.tableStore := by
  unfold faultHatch; dsimp only; split <;> simp
@[simp] theorem faultHatch_straps (s : State) (h : Hatch) : (s.faultHatch h).straps = s.straps := by
  unfold faultHatch; dsimp only; split <;> simp

theorem faultHatch_mem (s : State) (h : Hatch) (e : Entry) (m : e ∈ s.journal.entries) (x : e.state = .stranded) :
    e ∈ (s.faultHatch h).journal.entries := by
  unfold faultHatch
  dsimp only
  split <;> first
    | exact m
    | exact endTransaction_mem _ _ _ e m x

/-! ## A link that leaves UP -/

@[simp] theorem dropLink_store_queues (s : State) (h : Hatch) : (s.dropLink h).store.queues = s.store.queues := by
  unfold dropLink; split <;> simp
@[simp] theorem dropLink_store_lastGranted (s : State) (h : Hatch) : (s.dropLink h).store.lastGranted = s.store.lastGranted := by
  unfold dropLink; split <;> simp
@[simp] theorem dropLink_store_carousel (s : State) (h : Hatch) : (s.dropLink h).store.carousel = s.store.carousel := by
  unfold dropLink; split <;> simp
@[simp] theorem dropLink_store_position (s : State) (h : Hatch) : (s.dropLink h).store.position = s.store.position := by
  unfold dropLink; split <;> simp
@[simp] theorem dropLink_store_doorOpen (s : State) (h : Hatch) : (s.dropLink h).store.doorOpen = s.store.doorOpen := by
  unfold dropLink; split <;> simp
@[simp] theorem dropLink_journal_next (s : State) (h : Hatch) : (s.dropLink h).journal.next = s.journal.next := by
  unfold dropLink; split <;> simp
@[simp] theorem dropLink_journal_last (s : State) (h : Hatch) : (s.dropLink h).journal.last = s.journal.last := by
  unfold dropLink; split <;> simp
@[simp] theorem dropLink_journal_epoch (s : State) (h : Hatch) : (s.dropLink h).journal.epoch = s.journal.epoch := by
  unfold dropLink; split <;> simp
@[simp] theorem dropLink_cover_committed (s : State) (h : Hatch) : (s.dropLink h).cover.committed = s.cover.committed := by
  unfold dropLink; split <;> simp
@[simp] theorem dropLink_tables (s : State) (h : Hatch) : (s.dropLink h).tables = s.tables := by
  unfold dropLink; split <;> simp
@[simp] theorem dropLink_now (s : State) (h : Hatch) : (s.dropLink h).now = s.now := by
  unfold dropLink; split <;> simp
@[simp] theorem dropLink_counts (s : State) (h : Hatch) : (s.dropLink h).counts = s.counts := by
  unfold dropLink; split <;> simp
@[simp] theorem dropLink_mapAccess (s : State) (h : Hatch) : (s.dropLink h).mapAccess = s.mapAccess := by
  unfold dropLink; split <;> simp
@[simp] theorem dropLink_tableStore (s : State) (h : Hatch) : (s.dropLink h).tableStore = s.tableStore := by
  unfold dropLink; split <;> simp
@[simp] theorem dropLink_straps (s : State) (h : Hatch) : (s.dropLink h).straps = s.straps := by
  unfold dropLink; split <;> simp
@[simp] theorem leaveUp_store_queues (s : State) (h : Hatch) : (s.leaveUp h).store.queues = s.store.queues := by
  simp [leaveUp]
@[simp] theorem leaveUp_store_lastGranted (s : State) (h : Hatch) : (s.leaveUp h).store.lastGranted = s.store.lastGranted := by
  simp [leaveUp]
@[simp] theorem leaveUp_store_carousel (s : State) (h : Hatch) : (s.leaveUp h).store.carousel = s.store.carousel := by
  simp [leaveUp]
@[simp] theorem leaveUp_store_position (s : State) (h : Hatch) : (s.leaveUp h).store.position = s.store.position := by
  simp [leaveUp]
@[simp] theorem leaveUp_store_doorOpen (s : State) (h : Hatch) : (s.leaveUp h).store.doorOpen = s.store.doorOpen := by
  simp [leaveUp]
@[simp] theorem leaveUp_journal_next (s : State) (h : Hatch) : (s.leaveUp h).journal.next = s.journal.next := by
  simp [leaveUp]
@[simp] theorem leaveUp_journal_last (s : State) (h : Hatch) : (s.leaveUp h).journal.last = s.journal.last := by
  simp [leaveUp]
@[simp] theorem leaveUp_journal_epoch (s : State) (h : Hatch) : (s.leaveUp h).journal.epoch = s.journal.epoch := by
  simp [leaveUp]
@[simp] theorem leaveUp_cover_committed (s : State) (h : Hatch) : (s.leaveUp h).cover.committed = s.cover.committed := by
  simp [leaveUp]
@[simp] theorem leaveUp_tables (s : State) (h : Hatch) : (s.leaveUp h).tables = s.tables := by
  simp [leaveUp]
@[simp] theorem leaveUp_now (s : State) (h : Hatch) : (s.leaveUp h).now = s.now := by
  simp [leaveUp]
@[simp] theorem leaveUp_counts (s : State) (h : Hatch) : (s.leaveUp h).counts = s.counts := by
  simp [leaveUp]
@[simp] theorem leaveUp_mapAccess (s : State) (h : Hatch) : (s.leaveUp h).mapAccess = s.mapAccess := by
  simp [leaveUp]
@[simp] theorem leaveUp_tableStore (s : State) (h : Hatch) : (s.leaveUp h).tableStore = s.tableStore := by
  simp [leaveUp]
@[simp] theorem leaveUp_straps (s : State) (h : Hatch) : (s.leaveUp h).straps = s.straps := by
  simp [leaveUp]
@[simp] theorem unlink_store_queues (s : State) (h : Hatch) : (s.unlink h).store.queues = s.store.queues := by
  unfold unlink; split <;> simp
@[simp] theorem unlink_store_lastGranted (s : State) (h : Hatch) : (s.unlink h).store.lastGranted = s.store.lastGranted := by
  unfold unlink; split <;> simp
@[simp] theorem unlink_store_carousel (s : State) (h : Hatch) : (s.unlink h).store.carousel = s.store.carousel := by
  unfold unlink; split <;> simp
@[simp] theorem unlink_store_position (s : State) (h : Hatch) : (s.unlink h).store.position = s.store.position := by
  unfold unlink; split <;> simp
@[simp] theorem unlink_store_doorOpen (s : State) (h : Hatch) : (s.unlink h).store.doorOpen = s.store.doorOpen := by
  unfold unlink; split <;> simp
@[simp] theorem unlink_journal_next (s : State) (h : Hatch) : (s.unlink h).journal.next = s.journal.next := by
  unfold unlink; split <;> simp
@[simp] theorem unlink_journal_last (s : State) (h : Hatch) : (s.unlink h).journal.last = s.journal.last := by
  unfold unlink; split <;> simp
@[simp] theorem unlink_journal_epoch (s : State) (h : Hatch) : (s.unlink h).journal.epoch = s.journal.epoch := by
  unfold unlink; split <;> simp
@[simp] theorem unlink_cover_committed (s : State) (h : Hatch) : (s.unlink h).cover.committed = s.cover.committed := by
  unfold unlink; split <;> simp
@[simp] theorem unlink_tables (s : State) (h : Hatch) : (s.unlink h).tables = s.tables := by
  unfold unlink; split <;> simp
@[simp] theorem unlink_now (s : State) (h : Hatch) : (s.unlink h).now = s.now := by
  unfold unlink; split <;> simp
@[simp] theorem unlink_counts (s : State) (h : Hatch) : (s.unlink h).counts = s.counts := by
  unfold unlink; split <;> simp
@[simp] theorem unlink_mapAccess (s : State) (h : Hatch) : (s.unlink h).mapAccess = s.mapAccess := by
  unfold unlink; split <;> simp
@[simp] theorem unlink_tableStore (s : State) (h : Hatch) : (s.unlink h).tableStore = s.tableStore := by
  unfold unlink; split <;> simp
@[simp] theorem unlink_straps (s : State) (h : Hatch) : (s.unlink h).straps = s.straps := by
  unfold unlink; split <;> simp
@[simp] theorem enterHoldOff_store_queues (s : State) (h : Hatch) : (s.enterHoldOff h).store.queues = s.store.queues := by
  simp [enterHoldOff]
@[simp] theorem enterHoldOff_store_lastGranted (s : State) (h : Hatch) : (s.enterHoldOff h).store.lastGranted = s.store.lastGranted := by
  simp [enterHoldOff]
@[simp] theorem enterHoldOff_store_carousel (s : State) (h : Hatch) : (s.enterHoldOff h).store.carousel = s.store.carousel := by
  simp [enterHoldOff]
@[simp] theorem enterHoldOff_store_position (s : State) (h : Hatch) : (s.enterHoldOff h).store.position = s.store.position := by
  simp [enterHoldOff]
@[simp] theorem enterHoldOff_store_doorOpen (s : State) (h : Hatch) : (s.enterHoldOff h).store.doorOpen = s.store.doorOpen := by
  simp [enterHoldOff]
@[simp] theorem enterHoldOff_journal_next (s : State) (h : Hatch) : (s.enterHoldOff h).journal.next = s.journal.next := by
  simp [enterHoldOff]
@[simp] theorem enterHoldOff_journal_last (s : State) (h : Hatch) : (s.enterHoldOff h).journal.last = s.journal.last := by
  simp [enterHoldOff]
@[simp] theorem enterHoldOff_journal_epoch (s : State) (h : Hatch) : (s.enterHoldOff h).journal.epoch = s.journal.epoch := by
  simp [enterHoldOff]
@[simp] theorem enterHoldOff_cover_committed (s : State) (h : Hatch) : (s.enterHoldOff h).cover.committed = s.cover.committed := by
  simp [enterHoldOff]
@[simp] theorem enterHoldOff_tables (s : State) (h : Hatch) : (s.enterHoldOff h).tables = s.tables := by
  simp [enterHoldOff]
@[simp] theorem enterHoldOff_now (s : State) (h : Hatch) : (s.enterHoldOff h).now = s.now := by
  simp [enterHoldOff]
@[simp] theorem enterHoldOff_counts (s : State) (h : Hatch) : (s.enterHoldOff h).counts = s.counts := by
  simp [enterHoldOff]
@[simp] theorem enterHoldOff_mapAccess (s : State) (h : Hatch) : (s.enterHoldOff h).mapAccess = s.mapAccess := by
  simp [enterHoldOff]
@[simp] theorem enterHoldOff_tableStore (s : State) (h : Hatch) : (s.enterHoldOff h).tableStore = s.tableStore := by
  simp [enterHoldOff]
@[simp] theorem enterHoldOff_straps (s : State) (h : Hatch) : (s.enterHoldOff h).straps = s.straps := by
  simp [enterHoldOff]

end State

end Sys2Proof.Machine
end

