-- ==== Sys2Proof/Laws/Arbiter.lean ====
section
/-! SUPPORT. What the arbiter and the ends of moves leave alone: everything but the carousel, its position, the
last-granted hatch and the release counts. -/

namespace Sys2Proof.Machine

open Sys2Proof

namespace State

@[simp] theorem deliver_now (s : State) (g : Grant) (b : BinNo) : (s.deliver g b).now = s.now := rfl
@[simp] theorem deliver_mainsGood (s : State) (g : Grant) (b : BinNo) : (s.deliver g b).mainsGood = s.mainsGood := rfl
@[simp] theorem deliver_resetReleased (s : State) (g : Grant) (b : BinNo) : (s.deliver g b).resetReleased = s.resetReleased := rfl
@[simp] theorem deliver_straps (s : State) (g : Grant) (b : BinNo) : (s.deliver g b).straps = s.straps := rfl
@[simp] theorem deliver_tables (s : State) (g : Grant) (b : BinNo) : (s.deliver g b).tables = s.tables := rfl
@[simp] theorem deliver_tableStore (s : State) (g : Grant) (b : BinNo) : (s.deliver g b).tableStore = s.tableStore := rfl
@[simp] theorem deliver_counts (s : State) (g : Grant) (b : BinNo) : (s.deliver g b).counts = s.counts := rfl
@[simp] theorem deliver_mapAccess (s : State) (g : Grant) (b : BinNo) : (s.deliver g b).mapAccess = s.mapAccess := rfl
@[simp] theorem deliver_cover (s : State) (g : Grant) (b : BinNo) : (s.deliver g b).cover = s.cover := rfl
@[simp] theorem deliver_journal (s : State) (g : Grant) (b : BinNo) : (s.deliver g b).journal = s.journal := rfl
@[simp] theorem deliver_intake (s : State) (g : Grant) (b : BinNo) : (s.deliver g b).intake = s.intake := rfl
@[simp] theorem deliver_office (s : State) (g : Grant) (b : BinNo) : (s.deliver g b).office = s.office := rfl
@[simp] theorem deliver_pending (s : State) (g : Grant) (b : BinNo) : (s.deliver g b).pending = s.pending := rfl
@[simp] theorem deliver_store_bins (s : State) (g : Grant) (b : BinNo) : (s.deliver g b).store.bins = s.store.bins := rfl
@[simp] theorem deliver_store_queues (s : State) (g : Grant) (b : BinNo) : (s.deliver g b).store.queues = s.store.queues := rfl
@[simp] theorem deliver_store_holds (s : State) (g : Grant) (b : BinNo) : (s.deliver g b).store.holds = s.store.holds := rfl
@[simp] theorem deliver_store_near (s : State) (g : Grant) (b : BinNo) : (s.deliver g b).store.near = s.store.near := rfl
@[simp] theorem deliver_store_doorOpen (s : State) (g : Grant) (b : BinNo) : (s.deliver g b).store.doorOpen = s.store.doorOpen := rfl

@[simp] theorem grantTo_now (s : State) (h : Hatch) : (s.grantTo h).now = s.now := by
  unfold grantTo; split <;> [rfl; (dsimp only; split <;> rfl)]
@[simp] theorem grantTo_mainsGood (s : State) (h : Hatch) : (s.grantTo h).mainsGood = s.mainsGood := by
  unfold grantTo; split <;> [rfl; (dsimp only; split <;> rfl)]
@[simp] theorem grantTo_resetReleased (s : State) (h : Hatch) : (s.grantTo h).resetReleased = s.resetReleased := by
  unfold grantTo; split <;> [rfl; (dsimp only; split <;> rfl)]
@[simp] theorem grantTo_straps (s : State) (h : Hatch) : (s.grantTo h).straps = s.straps := by
  unfold grantTo; split <;> [rfl; (dsimp only; split <;> rfl)]
@[simp] theorem grantTo_tables (s : State) (h : Hatch) : (s.grantTo h).tables = s.tables := by
  unfold grantTo; split <;> [rfl; (dsimp only; split <;> rfl)]
@[simp] theorem grantTo_tableStore (s : State) (h : Hatch) : (s.grantTo h).tableStore = s.tableStore := by
  unfold grantTo; split <;> [rfl; (dsimp only; split <;> rfl)]
@[simp] theorem grantTo_counts (s : State) (h : Hatch) : (s.grantTo h).counts = s.counts := by
  unfold grantTo; split <;> [rfl; (dsimp only; split <;> rfl)]
@[simp] theorem grantTo_mapAccess (s : State) (h : Hatch) : (s.grantTo h).mapAccess = s.mapAccess := by
  unfold grantTo; split <;> [rfl; (dsimp only; split <;> rfl)]
@[simp] theorem grantTo_cover (s : State) (h : Hatch) : (s.grantTo h).cover = s.cover := by
  unfold grantTo; split <;> [rfl; (dsimp only; split <;> rfl)]
@[simp] theorem grantTo_journal (s : State) (h : Hatch) : (s.grantTo h).journal = s.journal := by
  unfold grantTo; split <;> [rfl; (dsimp only; split <;> rfl)]
@[simp] theorem grantTo_intake (s : State) (h : Hatch) : (s.grantTo h).intake = s.intake := by
  unfold grantTo; split <;> [rfl; (dsimp only; split <;> rfl)]
@[simp] theorem grantTo_office (s : State) (h : Hatch) : (s.grantTo h).office = s.office := by
  unfold grantTo; split <;> [rfl; (dsimp only; split <;> rfl)]
@[simp] theorem grantTo_pending (s : State) (h : Hatch) : (s.grantTo h).pending = s.pending := by
  unfold grantTo; split <;> [rfl; (dsimp only; split <;> rfl)]
@[simp] theorem grantTo_store_bins (s : State) (h : Hatch) : (s.grantTo h).store.bins = s.store.bins := by
  unfold grantTo; split <;> [rfl; (dsimp only; split <;> rfl)]
@[simp] theorem grantTo_store_queues (s : State) (h : Hatch) : (s.grantTo h).store.queues = s.store.queues := by
  unfold grantTo; split <;> [rfl; (dsimp only; split <;> rfl)]
@[simp] theorem grantTo_store_holds (s : State) (h : Hatch) : (s.grantTo h).store.holds = s.store.holds := by
  unfold grantTo; split <;> [rfl; (dsimp only; split <;> rfl)]
@[simp] theorem grantTo_store_near (s : State) (h : Hatch) : (s.grantTo h).store.near = s.store.near := by
  unfold grantTo; split <;> [rfl; (dsimp only; split <;> rfl)]
@[simp] theorem grantTo_store_doorOpen (s : State) (h : Hatch) : (s.grantTo h).store.doorOpen = s.store.doorOpen := by
  unfold grantTo; split <;> [rfl; (dsimp only; split <;> rfl)]

@[simp] theorem arbiter_now (s : State) : s.arbiter.now = s.now := by
  unfold arbiter; (repeat' split) <;> simp
@[simp] theorem arbiter_mainsGood (s : State) : s.arbiter.mainsGood = s.mainsGood := by
  unfold arbiter; (repeat' split) <;> simp
@[simp] theorem arbiter_resetReleased (s : State) : s.arbiter.resetReleased = s.resetReleased := by
  unfold arbiter; (repeat' split) <;> simp
@[simp] theorem arbiter_straps (s : State) : s.arbiter.straps = s.straps := by
  unfold arbiter; (repeat' split) <;> simp
@[simp] theorem arbiter_tables (s : State) : s.arbiter.tables = s.tables := by
  unfold arbiter; (repeat' split) <;> simp
@[simp] theorem arbiter_tableStore (s : State) : s.arbiter.tableStore = s.tableStore := by
  unfold arbiter; (repeat' split) <;> simp
@[simp] theorem arbiter_counts (s : State) : s.arbiter.counts = s.counts := by
  unfold arbiter; (repeat' split) <;> simp
@[simp] theorem arbiter_mapAccess (s : State) : s.arbiter.mapAccess = s.mapAccess := by
  unfold arbiter; (repeat' split) <;> simp
@[simp] theorem arbiter_cover (s : State) : s.arbiter.cover = s.cover := by
  unfold arbiter; (repeat' split) <;> simp
@[simp] theorem arbiter_journal (s : State) : s.arbiter.journal = s.journal := by
  unfold arbiter; (repeat' split) <;> simp
@[simp] theorem arbiter_intake (s : State) : s.arbiter.intake = s.intake := by
  unfold arbiter; (repeat' split) <;> simp
@[simp] theorem arbiter_office (s : State) : s.arbiter.office = s.office := by
  unfold arbiter; (repeat' split) <;> simp
@[simp] theorem arbiter_pending (s : State) : s.arbiter.pending = s.pending := by
  unfold arbiter; (repeat' split) <;> simp
@[simp] theorem arbiter_store_bins (s : State) : s.arbiter.store.bins = s.store.bins := by
  unfold arbiter; (repeat' split) <;> simp
@[simp] theorem arbiter_store_queues (s : State) : s.arbiter.store.queues = s.store.queues := by
  unfold arbiter; (repeat' split) <;> simp
@[simp] theorem arbiter_store_holds (s : State) : s.arbiter.store.holds = s.store.holds := by
  unfold arbiter; (repeat' split) <;> simp
@[simp] theorem arbiter_store_near (s : State) : s.arbiter.store.near = s.store.near := by
  unfold arbiter; (repeat' split) <;> simp
@[simp] theorem arbiter_store_doorOpen (s : State) : s.arbiter.store.doorOpen = s.store.doorOpen := by
  unfold arbiter; (repeat' split) <;> simp

@[simp] theorem enterIdle_now (s : State) : s.enterIdle.now = s.now := arbiter_now _
@[simp] theorem enterIdle_mainsGood (s : State) : s.enterIdle.mainsGood = s.mainsGood := arbiter_mainsGood _
@[simp] theorem enterIdle_resetReleased (s : State) : s.enterIdle.resetReleased = s.resetReleased := arbiter_resetReleased _
@[simp] theorem enterIdle_straps (s : State) : s.enterIdle.straps = s.straps := arbiter_straps _
@[simp] theorem enterIdle_tables (s : State) : s.enterIdle.tables = s.tables := arbiter_tables _
@[simp] theorem enterIdle_tableStore (s : State) : s.enterIdle.tableStore = s.tableStore := arbiter_tableStore _
@[simp] theorem enterIdle_counts (s : State) : s.enterIdle.counts = s.counts := arbiter_counts _
@[simp] theorem enterIdle_mapAccess (s : State) : s.enterIdle.mapAccess = s.mapAccess := arbiter_mapAccess _
@[simp] theorem enterIdle_cover (s : State) : s.enterIdle.cover = s.cover := arbiter_cover _
@[simp] theorem enterIdle_journal (s : State) : s.enterIdle.journal = s.journal := arbiter_journal _
@[simp] theorem enterIdle_intake (s : State) : s.enterIdle.intake = s.intake := arbiter_intake _
@[simp] theorem enterIdle_office (s : State) : s.enterIdle.office = s.office := arbiter_office _
@[simp] theorem enterIdle_pending (s : State) : s.enterIdle.pending = s.pending := arbiter_pending _
@[simp] theorem enterIdle_store_bins (s : State) : s.enterIdle.store.bins = s.store.bins := arbiter_store_bins _
@[simp] theorem enterIdle_store_queues (s : State) : s.enterIdle.store.queues = s.store.queues := arbiter_store_queues _
@[simp] theorem enterIdle_store_holds (s : State) : s.enterIdle.store.holds = s.store.holds := arbiter_store_holds _
@[simp] theorem enterIdle_store_near (s : State) : s.enterIdle.store.near = s.store.near := arbiter_store_near _
@[simp] theorem enterIdle_store_doorOpen (s : State) : s.enterIdle.store.doorOpen = s.store.doorOpen := arbiter_store_doorOpen _

@[simp] theorem endMove_now (s : State) (b : BinNo) (g : Option Grant) : (s.endMove b g).now = s.now := by
  unfold endMove; (repeat' split) <;> simp
@[simp] theorem endMove_mainsGood (s : State) (b : BinNo) (g : Option Grant) : (s.endMove b g).mainsGood = s.mainsGood := by
  unfold endMove; (repeat' split) <;> simp
@[simp] theorem endMove_resetReleased (s : State) (b : BinNo) (g : Option Grant) : (s.endMove b g).resetReleased = s.resetReleased := by
  unfold endMove; (repeat' split) <;> simp
@[simp] theorem endMove_straps (s : State) (b : BinNo) (g : Option Grant) : (s.endMove b g).straps = s.straps := by
  unfold endMove; (repeat' split) <;> simp
@[simp] theorem endMove_tables (s : State) (b : BinNo) (g : Option Grant) : (s.endMove b g).tables = s.tables := by
  unfold endMove; (repeat' split) <;> simp
@[simp] theorem endMove_tableStore (s : State) (b : BinNo) (g : Option Grant) : (s.endMove b g).tableStore = s.tableStore := by
  unfold endMove; (repeat' split) <;> simp
@[simp] theorem endMove_counts (s : State) (b : BinNo) (g : Option Grant) : (s.endMove b g).counts = s.counts := by
  unfold endMove; (repeat' split) <;> simp
@[simp] theorem endMove_mapAccess (s : State) (b : BinNo) (g : Option Grant) : (s.endMove b g).mapAccess = s.mapAccess := by
  unfold endMove; (repeat' split) <;> simp
@[simp] theorem endMove_cover (s : State) (b : BinNo) (g : Option Grant) : (s.endMove b g).cover = s.cover := by
  unfold endMove; (repeat' split) <;> simp
@[simp] theorem endMove_journal (s : State) (b : BinNo) (g : Option Grant) : (s.endMove b g).journal = s.journal := by
  unfold endMove; (repeat' split) <;> simp
@[simp] theorem endMove_intake (s : State) (b : BinNo) (g : Option Grant) : (s.endMove b g).intake = s.intake := by
  unfold endMove; (repeat' split) <;> simp
@[simp] theorem endMove_office (s : State) (b : BinNo) (g : Option Grant) : (s.endMove b g).office = s.office := by
  unfold endMove; (repeat' split) <;> simp
@[simp] theorem endMove_pending (s : State) (b : BinNo) (g : Option Grant) : (s.endMove b g).pending = s.pending := by
  unfold endMove; (repeat' split) <;> simp
@[simp] theorem endMove_store_bins (s : State) (b : BinNo) (g : Option Grant) : (s.endMove b g).store.bins = s.store.bins := by
  unfold endMove; (repeat' split) <;> simp
@[simp] theorem endMove_store_queues (s : State) (b : BinNo) (g : Option Grant) : (s.endMove b g).store.queues = s.store.queues := by
  unfold endMove; (repeat' split) <;> simp
@[simp] theorem endMove_store_holds (s : State) (b : BinNo) (g : Option Grant) : (s.endMove b g).store.holds = s.store.holds := by
  unfold endMove; (repeat' split) <;> simp
@[simp] theorem endMove_store_near (s : State) (b : BinNo) (g : Option Grant) : (s.endMove b g).store.near = s.store.near := by
  unfold endMove; (repeat' split) <;> simp
@[simp] theorem endMove_store_doorOpen (s : State) (b : BinNo) (g : Option Grant) : (s.endMove b g).store.doorOpen = s.store.doorOpen := by
  unfold endMove; (repeat' split) <;> simp

@[simp] theorem withdrawGrant_now (s : State) (h : Hatch) : (s.withdrawGrant h).now = s.now := by
  unfold withdrawGrant; (repeat' split) <;> first | exact enterIdle_now _ | rfl
@[simp] theorem withdrawGrant_mainsGood (s : State) (h : Hatch) : (s.withdrawGrant h).mainsGood = s.mainsGood := by
  unfold withdrawGrant; (repeat' split) <;> first | exact enterIdle_mainsGood _ | rfl
@[simp] theorem withdrawGrant_resetReleased (s : State) (h : Hatch) : (s.withdrawGrant h).resetReleased = s.resetReleased := by
  unfold withdrawGrant; (repeat' split) <;> first | exact enterIdle_resetReleased _ | rfl
@[simp] theorem withdrawGrant_straps (s : State) (h : Hatch) : (s.withdrawGrant h).straps = s.straps := by
  unfold withdrawGrant; (repeat' split) <;> first | exact enterIdle_straps _ | rfl
@[simp] theorem withdrawGrant_tables (s : State) (h : Hatch) : (s.withdrawGrant h).tables = s.tables := by
  unfold withdrawGrant; (repeat' split) <;> first | exact enterIdle_tables _ | rfl
@[simp] theorem withdrawGrant_tableStore (s : State) (h : Hatch) : (s.withdrawGrant h).tableStore = s.tableStore := by
  unfold withdrawGrant; (repeat' split) <;> first | exact enterIdle_tableStore _ | rfl
@[simp] theorem withdrawGrant_counts (s : State) (h : Hatch) : (s.withdrawGrant h).counts = s.counts := by
  unfold withdrawGrant; (repeat' split) <;> first | exact enterIdle_counts _ | rfl
@[simp] theorem withdrawGrant_mapAccess (s : State) (h : Hatch) : (s.withdrawGrant h).mapAccess = s.mapAccess := by
  unfold withdrawGrant; (repeat' split) <;> first | exact enterIdle_mapAccess _ | rfl
@[simp] theorem withdrawGrant_cover (s : State) (h : Hatch) : (s.withdrawGrant h).cover = s.cover := by
  unfold withdrawGrant; (repeat' split) <;> first | exact enterIdle_cover _ | rfl
@[simp] theorem withdrawGrant_journal (s : State) (h : Hatch) : (s.withdrawGrant h).journal = s.journal := by
  unfold withdrawGrant; (repeat' split) <;> first | exact enterIdle_journal _ | rfl
@[simp] theorem withdrawGrant_intake (s : State) (h : Hatch) : (s.withdrawGrant h).intake = s.intake := by
  unfold withdrawGrant; (repeat' split) <;> first | exact enterIdle_intake _ | rfl
@[simp] theorem withdrawGrant_office (s : State) (h : Hatch) : (s.withdrawGrant h).office = s.office := by
  unfold withdrawGrant; (repeat' split) <;> first | exact enterIdle_office _ | rfl
@[simp] theorem withdrawGrant_pending (s : State) (h : Hatch) : (s.withdrawGrant h).pending = s.pending := by
  unfold withdrawGrant; (repeat' split) <;> first | exact enterIdle_pending _ | rfl
@[simp] theorem withdrawGrant_store_bins (s : State) (h : Hatch) : (s.withdrawGrant h).store.bins = s.store.bins := by
  unfold withdrawGrant; (repeat' split) <;> first | exact enterIdle_store_bins _ | rfl
@[simp] theorem withdrawGrant_store_queues (s : State) (h : Hatch) : (s.withdrawGrant h).store.queues = s.store.queues := by
  unfold withdrawGrant; (repeat' split) <;> first | exact enterIdle_store_queues _ | rfl
@[simp] theorem withdrawGrant_store_holds (s : State) (h : Hatch) : (s.withdrawGrant h).store.holds = s.store.holds := by
  unfold withdrawGrant; (repeat' split) <;> first | exact enterIdle_store_holds _ | rfl
@[simp] theorem withdrawGrant_store_near (s : State) (h : Hatch) : (s.withdrawGrant h).store.near = s.store.near := by
  unfold withdrawGrant; (repeat' split) <;> first | exact enterIdle_store_near _ | rfl
@[simp] theorem withdrawGrant_store_doorOpen (s : State) (h : Hatch) : (s.withdrawGrant h).store.doorOpen = s.store.doorOpen := by
  unfold withdrawGrant; (repeat' split) <;> first | exact enterIdle_store_doorOpen _ | rfl

/-! ## Ports -/

/-- A part of a port that the release counts are not in is kept. -/
theorem deliver_port_part {β : Type} (p : Port → β) (c : ∀ (q : Port) (r : Option ReleaseCounts), p { q with release := r } = p q)
    (s : State) (g : Grant) (b : BinNo) (k : Hatch) : p ((s.deliver g b).port k) = p (s.port k) := by
  have e : (s.deliver g b).port k
      = (s.modPort g.hatch fun q => { q with release := q.release.map fun x => { x with allowed := s.releaseTarget g } }).port k :=
    rfl
  rw [e, modPort_port]
  split
  · rename_i x; subst x; exact c _ _
  · rfl

theorem arbiter_port_part {β : Type} (p : Port → β) (c : ∀ (q : Port) (r : Option ReleaseCounts), p { q with release := r } = p q)
    (s : State) (k : Hatch) : p (s.arbiter.port k) = p (s.port k) := by
  unfold arbiter
  split
  · split
    · unfold grantTo
      split
      · rfl
      · dsimp only
        split
        · exact deliver_port_part p c _ _ _ k
        · rfl
    · rfl
  · rfl

theorem withdrawGrant_port_part {β : Type} (p : Port → β)
    (c : ∀ (q : Port) (r : Option ReleaseCounts), p { q with release := r } = p q) (s : State) (h k : Hatch) :
    p ((s.withdrawGrant h).port k) = p (s.port k) := by
  unfold withdrawGrant
  (repeat' split) <;> first
    | exact arbiter_port_part p c _ k
    | rfl

@[simp] theorem arbiter_port_link (s : State) (k : Hatch) : (s.arbiter.port k).link = (s.port k).link :=
  arbiter_port_part Port.link (fun _ _ => rfl) s k
@[simp] theorem arbiter_port_inverted (s : State) (k : Hatch) : (s.arbiter.port k).inverted = (s.port k).inverted :=
  arbiter_port_part Port.inverted (fun _ _ => rfl) s k
@[simp] theorem arbiter_port_streak (s : State) (k : Hatch) : (s.arbiter.port k).streak = (s.port k).streak :=
  arbiter_port_part Port.streak (fun _ _ => rfl) s k
@[simp] theorem arbiter_port_caps (s : State) (k : Hatch) : (s.arbiter.port k).caps = (s.port k).caps :=
  arbiter_port_part Port.caps (fun _ _ => rfl) s k
@[simp] theorem arbiter_port_depth (s : State) (k : Hatch) : (s.arbiter.port k).depth = (s.port k).depth :=
  arbiter_port_part Port.depth (fun _ _ => rfl) s k
@[simp] theorem arbiter_port_receiptMode (s : State) (k : Hatch) : (s.arbiter.port k).receiptMode = (s.port k).receiptMode :=
  arbiter_port_part Port.receiptMode (fun _ _ => rfl) s k
@[simp] theorem arbiter_port_misses (s : State) (k : Hatch) : (s.arbiter.port k).misses = (s.port k).misses :=
  arbiter_port_part Port.misses (fun _ _ => rfl) s k
@[simp] theorem arbiter_port_window (s : State) (k : Hatch) : (s.arbiter.port k).window = (s.port k).window :=
  arbiter_port_part Port.window (fun _ _ => rfl) s k
@[simp] theorem arbiter_port_pollStart (s : State) (k : Hatch) : (s.arbiter.port k).pollStart = (s.port k).pollStart :=
  arbiter_port_part Port.pollStart (fun _ _ => rfl) s k
@[simp] theorem arbiter_port_snapshot (s : State) (k : Hatch) : (s.arbiter.port k).snapshot = (s.port k).snapshot :=
  arbiter_port_part Port.snapshot (fun _ _ => rfl) s k
@[simp] theorem arbiter_port_takenToken (s : State) (k : Hatch) : (s.arbiter.port k).takenToken = (s.port k).takenToken :=
  arbiter_port_part Port.takenToken (fun _ _ => rfl) s k
@[simp] theorem arbiter_port_takenDecl (s : State) (k : Hatch) : (s.arbiter.port k).takenDecl = (s.port k).takenDecl :=
  arbiter_port_part Port.takenDecl (fun _ _ => rfl) s k
@[simp] theorem arbiter_port_showDue (s : State) (k : Hatch) : (s.arbiter.port k).showDue = (s.port k).showDue :=
  arbiter_port_part Port.showDue (fun _ _ => rfl) s k
@[simp] theorem arbiter_port_receiptDue (s : State) (k : Hatch) : (s.arbiter.port k).receiptDue = (s.port k).receiptDue :=
  arbiter_port_part Port.receiptDue (fun _ _ => rfl) s k
@[simp] theorem arbiter_port_surroundLatch (s : State) (k : Hatch) : (s.arbiter.port k).surroundLatch = (s.port k).surroundLatch :=
  arbiter_port_part Port.surroundLatch (fun _ _ => rfl) s k
@[simp] theorem arbiter_port_contactOpen (s : State) (k : Hatch) : (s.arbiter.port k).contactOpen = (s.port k).contactOpen :=
  arbiter_port_part Port.contactOpen (fun _ _ => rfl) s k
@[simp] theorem arbiter_port_badFrames (s : State) (k : Hatch) : (s.arbiter.port k).badFrames = (s.port k).badFrames :=
  arbiter_port_part Port.badFrames (fun _ _ => rfl) s k
@[simp] theorem arbiter_port_missCount (s : State) (k : Hatch) : (s.arbiter.port k).missCount = (s.port k).missCount :=
  arbiter_port_part Port.missCount (fun _ _ => rfl) s k
@[simp] theorem arbiter_port_lineOut (s : State) (k : Hatch) : (s.arbiter.port k).lineOut = (s.port k).lineOut :=
  arbiter_port_part Port.lineOut (fun _ _ => rfl) s k
@[simp] theorem arbiter_port_drop (s : State) (k : Hatch) : (s.arbiter.port k).drop = (s.port k).drop :=
  arbiter_port_part Port.drop (fun _ _ => rfl) s k
@[simp] theorem arbiter_port_faultFlag (s : State) (k : Hatch) : (s.arbiter.port k).faultFlag = (s.port k).faultFlag :=
  arbiter_port_part Port.faultFlag (fun _ _ => rfl) s k
@[simp] theorem arbiter_port_zeroArmed (s : State) (k : Hatch) : (s.arbiter.port k).zeroArmed = (s.port k).zeroArmed :=
  arbiter_port_part Port.zeroArmed (fun _ _ => rfl) s k
@[simp] theorem enterIdle_port_link (s : State) (k : Hatch) : (s.enterIdle.port k).link = (s.port k).link :=
  arbiter_port_link (s.setCarousel .idle) k
@[simp] theorem enterIdle_port_inverted (s : State) (k : Hatch) : (s.enterIdle.port k).inverted = (s.port k).inverted :=
  arbiter_port_inverted (s.setCarousel .idle) k
@[simp] theorem enterIdle_port_streak (s : State) (k : Hatch) : (s.enterIdle.port k).streak = (s.port k).streak :=
  arbiter_port_streak (s.setCarousel .idle) k
@[simp] theorem enterIdle_port_caps (s : State) (k : Hatch) : (s.enterIdle.port k).caps = (s.port k).caps :=
  arbiter_port_caps (s.setCarousel .idle) k
@[simp] theorem enterIdle_port_depth (s : State) (k : Hatch) : (s.enterIdle.port k).depth = (s.port k).depth :=
  arbiter_port_depth (s.setCarousel .idle) k
@[simp] theorem enterIdle_port_receiptMode (s : State) (k : Hatch) : (s.enterIdle.port k).receiptMode = (s.port k).receiptMode :=
  arbiter_port_receiptMode (s.setCarousel .idle) k
@[simp] theorem enterIdle_port_misses (s : State) (k : Hatch) : (s.enterIdle.port k).misses = (s.port k).misses :=
  arbiter_port_misses (s.setCarousel .idle) k
@[simp] theorem enterIdle_port_window (s : State) (k : Hatch) : (s.enterIdle.port k).window = (s.port k).window :=
  arbiter_port_window (s.setCarousel .idle) k
@[simp] theorem enterIdle_port_pollStart (s : State) (k : Hatch) : (s.enterIdle.port k).pollStart = (s.port k).pollStart :=
  arbiter_port_pollStart (s.setCarousel .idle) k
@[simp] theorem enterIdle_port_snapshot (s : State) (k : Hatch) : (s.enterIdle.port k).snapshot = (s.port k).snapshot :=
  arbiter_port_snapshot (s.setCarousel .idle) k
@[simp] theorem enterIdle_port_takenToken (s : State) (k : Hatch) : (s.enterIdle.port k).takenToken = (s.port k).takenToken :=
  arbiter_port_takenToken (s.setCarousel .idle) k
@[simp] theorem enterIdle_port_takenDecl (s : State) (k : Hatch) : (s.enterIdle.port k).takenDecl = (s.port k).takenDecl :=
  arbiter_port_takenDecl (s.setCarousel .idle) k
@[simp] theorem enterIdle_port_showDue (s : State) (k : Hatch) : (s.enterIdle.port k).showDue = (s.port k).showDue :=
  arbiter_port_showDue (s.setCarousel .idle) k
@[simp] theorem enterIdle_port_receiptDue (s : State) (k : Hatch) : (s.enterIdle.port k).receiptDue = (s.port k).receiptDue :=
  arbiter_port_receiptDue (s.setCarousel .idle) k
@[simp] theorem enterIdle_port_surroundLatch (s : State) (k : Hatch) : (s.enterIdle.port k).surroundLatch = (s.port k).surroundLatch :=
  arbiter_port_surroundLatch (s.setCarousel .idle) k
@[simp] theorem enterIdle_port_contactOpen (s : State) (k : Hatch) : (s.enterIdle.port k).contactOpen = (s.port k).contactOpen :=
  arbiter_port_contactOpen (s.setCarousel .idle) k
@[simp] theorem enterIdle_port_badFrames (s : State) (k : Hatch) : (s.enterIdle.port k).badFrames = (s.port k).badFrames :=
  arbiter_port_badFrames (s.setCarousel .idle) k
@[simp] theorem enterIdle_port_missCount (s : State) (k : Hatch) : (s.enterIdle.port k).missCount = (s.port k).missCount :=
  arbiter_port_missCount (s.setCarousel .idle) k
@[simp] theorem enterIdle_port_lineOut (s : State) (k : Hatch) : (s.enterIdle.port k).lineOut = (s.port k).lineOut :=
  arbiter_port_lineOut (s.setCarousel .idle) k
@[simp] theorem enterIdle_port_drop (s : State) (k : Hatch) : (s.enterIdle.port k).drop = (s.port k).drop :=
  arbiter_port_drop (s.setCarousel .idle) k
@[simp] theorem enterIdle_port_faultFlag (s : State) (k : Hatch) : (s.enterIdle.port k).faultFlag = (s.port k).faultFlag :=
  arbiter_port_faultFlag (s.setCarousel .idle) k
@[simp] theorem enterIdle_port_zeroArmed (s : State) (k : Hatch) : (s.enterIdle.port k).zeroArmed = (s.port k).zeroArmed :=
  arbiter_port_zeroArmed (s.setCarousel .idle) k
@[simp] theorem withdrawGrant_port_link (s : State) (h k : Hatch) :
    ((s.withdrawGrant h).port k).link = (s.port k).link := withdrawGrant_port_part Port.link (fun _ _ => rfl) s h k
@[simp] theorem withdrawGrant_port_inverted (s : State) (h k : Hatch) :
    ((s.withdrawGrant h).port k).inverted = (s.port k).inverted := withdrawGrant_port_part Port.inverted (fun _ _ => rfl) s h k
@[simp] theorem withdrawGrant_port_streak (s : State) (h k : Hatch) :
    ((s.withdrawGrant h).port k).streak = (s.port k).streak := withdrawGrant_port_part Port.streak (fun _ _ => rfl) s h k
@[simp] theorem withdrawGrant_port_caps (s : State) (h k : Hatch) :
    ((s.withdrawGrant h).port k).caps = (s.port k).caps := withdrawGrant_port_part Port.caps (fun _ _ => rfl) s h k
@[simp] theorem withdrawGrant_port_depth (s : State) (h k : Hatch) :
    ((s.withdrawGrant h).port k).depth = (s.port k).depth := withdrawGrant_port_part Port.depth (fun _ _ => rfl) s h k
@[simp] theorem withdrawGrant_port_receiptMode (s : State) (h k : Hatch) :
    ((s.withdrawGrant h).port k).receiptMode = (s.port k).receiptMode := withdrawGrant_port_part Port.receiptMode (fun _ _ => rfl) s h k
@[simp] theorem withdrawGrant_port_misses (s : State) (h k : Hatch) :
    ((s.withdrawGrant h).port k).misses = (s.port k).misses := withdrawGrant_port_part Port.misses (fun _ _ => rfl) s h k
@[simp] theorem withdrawGrant_port_window (s : State) (h k : Hatch) :
    ((s.withdrawGrant h).port k).window = (s.port k).window := withdrawGrant_port_part Port.window (fun _ _ => rfl) s h k
@[simp] theorem withdrawGrant_port_pollStart (s : State) (h k : Hatch) :
    ((s.withdrawGrant h).port k).pollStart = (s.port k).pollStart := withdrawGrant_port_part Port.pollStart (fun _ _ => rfl) s h k
@[simp] theorem withdrawGrant_port_snapshot (s : State) (h k : Hatch) :
    ((s.withdrawGrant h).port k).snapshot = (s.port k).snapshot := withdrawGrant_port_part Port.snapshot (fun _ _ => rfl) s h k
@[simp] theorem withdrawGrant_port_takenToken (s : State) (h k : Hatch) :
    ((s.withdrawGrant h).port k).takenToken = (s.port k).takenToken := withdrawGrant_port_part Port.takenToken (fun _ _ => rfl) s h k
@[simp] theorem withdrawGrant_port_takenDecl (s : State) (h k : Hatch) :
    ((s.withdrawGrant h).port k).takenDecl = (s.port k).takenDecl := withdrawGrant_port_part Port.takenDecl (fun _ _ => rfl) s h k
@[simp] theorem withdrawGrant_port_showDue (s : State) (h k : Hatch) :
    ((s.withdrawGrant h).port k).showDue = (s.port k).showDue := withdrawGrant_port_part Port.showDue (fun _ _ => rfl) s h k
@[simp] theorem withdrawGrant_port_receiptDue (s : State) (h k : Hatch) :
    ((s.withdrawGrant h).port k).receiptDue = (s.port k).receiptDue := withdrawGrant_port_part Port.receiptDue (fun _ _ => rfl) s h k
@[simp] theorem withdrawGrant_port_surroundLatch (s : State) (h k : Hatch) :
    ((s.withdrawGrant h).port k).surroundLatch = (s.port k).surroundLatch := withdrawGrant_port_part Port.surroundLatch (fun _ _ => rfl) s h k
@[simp] theorem withdrawGrant_port_contactOpen (s : State) (h k : Hatch) :
    ((s.withdrawGrant h).port k).contactOpen = (s.port k).contactOpen := withdrawGrant_port_part Port.contactOpen (fun _ _ => rfl) s h k
@[simp] theorem withdrawGrant_port_badFrames (s : State) (h k : Hatch) :
    ((s.withdrawGrant h).port k).badFrames = (s.port k).badFrames := withdrawGrant_port_part Port.badFrames (fun _ _ => rfl) s h k
@[simp] theorem withdrawGrant_port_missCount (s : State) (h k : Hatch) :
    ((s.withdrawGrant h).port k).missCount = (s.port k).missCount := withdrawGrant_port_part Port.missCount (fun _ _ => rfl) s h k
@[simp] theorem withdrawGrant_port_lineOut (s : State) (h k : Hatch) :
    ((s.withdrawGrant h).port k).lineOut = (s.port k).lineOut := withdrawGrant_port_part Port.lineOut (fun _ _ => rfl) s h k
@[simp] theorem withdrawGrant_port_drop (s : State) (h k : Hatch) :
    ((s.withdrawGrant h).port k).drop = (s.port k).drop := withdrawGrant_port_part Port.drop (fun _ _ => rfl) s h k
@[simp] theorem withdrawGrant_port_faultFlag (s : State) (h k : Hatch) :
    ((s.withdrawGrant h).port k).faultFlag = (s.port k).faultFlag := withdrawGrant_port_part Port.faultFlag (fun _ _ => rfl) s h k
@[simp] theorem withdrawGrant_port_zeroArmed (s : State) (h k : Hatch) :
    ((s.withdrawGrant h).port k).zeroArmed = (s.port k).zeroArmed := withdrawGrant_port_part Port.zeroArmed (fun _ _ => rfl) s h k

@[simp] theorem arbiter_drop (s : State) (k : Hatch) : s.arbiter.drop k = s.drop k := arbiter_port_drop s k
@[simp] theorem enterIdle_drop (s : State) (k : Hatch) : s.enterIdle.drop k = s.drop k := enterIdle_port_drop s k
@[simp] theorem withdrawGrant_drop (s : State) (h k : Hatch) : (s.withdrawGrant h).drop k = s.drop k :=
  withdrawGrant_port_drop s h k

/-! ## Whom the arbiter serves -/

/-- Only a candidate is chosen (R120). -/
theorem arbiterChoice_candidate (s : State) (h : Hatch) (e : s.arbiterChoice = some h) : s.candidate h = true := by
  unfold arbiterChoice at e
  dsimp only at e
  have mem (k : Hatch) (m : k ∈ (hatchesAfter s.store.lastGranted).filter s.candidate) : s.candidate k = true :=
    (List.mem_filter.1 m).2
  split at e
  · exact mem h (List.mem_of_find?_eq_some e)
  · exact mem h (List.mem_of_mem_head? e)

/-- The arbiter grants to no hatch whose queue is empty. -/
theorem arbiter_grant (s : State) (g : Grant) (e : s.arbiter.store.carousel.grant = some g)
    (idle : s.store.carousel = .idle) : s.queue g.hatch ≠ [] := by
  unfold arbiter at e
  split at e
  · split at e
    · rename_i h c
      have cand := arbiterChoice_candidate s h c
      have q : s.queue h ≠ [] := by
        intro z
        simp [candidate, z] at cand
      unfold grantTo at e
      split at e
      · simp [idle, Carousel.grant] at e
      · dsimp only at e
        split at e <;> (cases e; exact q)
    · simp [idle, Carousel.grant] at e
  · simp [idle, Carousel.grant] at e

/-- No grant is left for a hatch whose queue was emptied and whose grant was withdrawn (R119). -/
theorem withdrawGrant_grant (s : State) (h : Hatch) (empty : s.queue h = []) (g : Grant)
    (e : (s.withdrawGrant h).store.carousel.grant = some g) : g.hatch ≠ h := by
  intro x
  subst x
  unfold withdrawGrant at e
  split at e
  · split at e
    · exact arbiter_grant _ _ e rfl empty
    · rename_i c n
      simp [c, Carousel.grant] at e
      exact n (by rw [e])
  · split at e
    · cases e
    · rename_i c n
      simp [c, Carousel.grant] at e
      exact n (by rw [e])
  · split at e
    · cases e
    · rename_i c n
      simp [c, Carousel.grant] at e
      exact n (by rw [e])
  · rename_i n1 n2 n3
    cases c : s.store.carousel with
    | delivering a b r d => exact n1 _ _ _ _ c
    | moving b x d =>
      cases x with
      | none => simp [c, Carousel.grant] at e
      | some y => exact n2 _ _ _ c
    | haltedMove b x =>
      cases x with
      | none => simp [c, Carousel.grant] at e
      | some y => exact n3 _ _ c
    | _ => simp [c, Carousel.grant] at e

end State

end Sys2Proof.Machine
end

