-- ==== Sys2Proof/Laws/Kept.lean ====
section
/-! SUPPORT. What no event reaches but those that say so: the queue of commands, the power pins, the straps,
the map's access window, and the hand, the waiting replies and the transmitter of the office port. One
lemma for each shared operation. -/

namespace Sys2Proof.Machine

open Sys2Proof

/-- `t` keeps what most operations leave alone in `s`. -/
structure Kept (s t : State) : Prop where
  pending : t.pending = s.pending
  mainsGood : t.mainsGood = s.mainsGood
  resetReleased : t.resetReleased = s.resetReleased
  straps : t.straps = s.straps
  mapAccess : t.mapAccess = s.mapAccess
  hand : t.office.hand = s.office.hand
  replies : t.office.replies = s.office.replies
  transmitter : t.office.transmitter = s.office.transmitter

namespace Kept

theorem refl (s : State) : Kept s s := ⟨rfl, rfl, rfl, rfl, rfl, rfl, rfl, rfl⟩

theorem trans {s t u : State} (a : Kept s t) (b : Kept t u) : Kept s u :=
  ⟨b.1.trans a.1, b.2.trans a.2, b.3.trans a.3, b.4.trans a.4, b.5.trans a.5, b.6.trans a.6, b.7.trans a.7,
    b.8.trans a.8⟩

theorem foldl {α : Type} {f : State → α → State} (k : ∀ s a, Kept s (f s a)) :
    ∀ (l : List α) (s : State), Kept s (l.foldl f s)
  | [], s => .refl s
  | a :: l, s => (k s a).trans (foldl k l (f s a))

theorem ite {s t u : State} {c : Prop} [Decidable c] (a : Kept s t) (b : Kept s u) : Kept s (if c then t else u) := by
  split <;> assumption

/-- An operation on what has kept its start. -/
theorem then' {s t : State} {f : State → State} (a : Kept s t) (k : ∀ x, Kept x (f x)) : Kept s (f t) := a.trans (k t)

end Kept

namespace State

/-! ## Updates -/

theorem setNow_kept (s : State) (x : Nat) : Kept s (s.setNow x) := ⟨rfl, rfl, rfl, rfl, rfl, rfl, rfl, rfl⟩
theorem setTables_kept (s : State) (x : Tables) : Kept s (s.setTables x) := ⟨rfl, rfl, rfl, rfl, rfl, rfl, rfl, rfl⟩
theorem setTableStore_kept (s : State) (x : TableStore) : Kept s (s.setTableStore x) :=
  ⟨rfl, rfl, rfl, rfl, rfl, rfl, rfl, rfl⟩
theorem setCounts_kept (s : State) (x : Tab NightCount 512) : Kept s (s.setCounts x) :=
  ⟨rfl, rfl, rfl, rfl, rfl, rfl, rfl, rfl⟩
theorem setCover_kept (s : State) (x : Cover) : Kept s (s.setCover x) := ⟨rfl, rfl, rfl, rfl, rfl, rfl, rfl, rfl⟩
theorem setJournal_kept (s : State) (x : Journal) : Kept s (s.setJournal x) := ⟨rfl, rfl, rfl, rfl, rfl, rfl, rfl, rfl⟩
theorem setStore_kept (s : State) (x : Store) : Kept s (s.setStore x) := ⟨rfl, rfl, rfl, rfl, rfl, rfl, rfl, rfl⟩
theorem setIntake_kept (s : State) (x : Intake) : Kept s (s.setIntake x) := ⟨rfl, rfl, rfl, rfl, rfl, rfl, rfl, rfl⟩
theorem setPorts_kept (s : State) (x : PerHatch Port) : Kept s (s.setPorts x) :=
  ⟨rfl, rfl, rfl, rfl, rfl, rfl, rfl, rfl⟩

theorem setPort_kept (s : State) (h : Hatch) (p : Port) : Kept s (s.setPort h p) := setPorts_kept _ _
theorem modPort_kept (s : State) (h : Hatch) (f : Port → Port) : Kept s (s.modPort h f) := setPorts_kept _ _
theorem setDrop_kept (s : State) (h : Hatch) (d : Drop) : Kept s (s.setDrop h d) := setPorts_kept _ _
theorem showAt_kept (s : State) (h : Hatch) (c : Nat) : Kept s (s.showAt h c) := setPorts_kept _ _
theorem setQueue_kept (s : State) (h : Hatch) (q : List Nat) : Kept s (s.setQueue h q) := setStore_kept _ _
theorem setBin_kept (s : State) (b : BinNo) (r : Bin) : Kept s (s.setBin b r) := setStore_kept _ _
theorem setCarousel_kept (s : State) (c : Carousel) : Kept s (s.setCarousel c) := setStore_kept _ _
theorem setPosition_kept (s : State) (p : Option BinNo) : Kept s (s.setPosition p) := setStore_kept _ _
theorem setCalibration_kept (s : State) (h : Hatch) (c : Calibration) : Kept s (s.setCalibration h c) :=
  setTables_kept _ _
theorem modEntry_kept (s : State) (n : Nat) (f : Entry → Entry) : Kept s (s.modEntry n f) := setJournal_kept _ _
theorem reach_kept (s : State) (t : Nat) : Kept s (s.reach t) := setNow_kept _ _

/-! ## Flags, counters, mitigation -/

theorem trigger_kept (s : State) (c : Cause) : Kept s (s.trigger c) := ⟨rfl, rfl, rfl, rfl, rfl, rfl, rfl, rfl⟩
theorem latch_kept (s : State) (f : Flag) : Kept s (s.latch f) := ⟨rfl, rfl, rfl, rfl, rfl, rfl, rfl, rfl⟩
theorem raise_kept (s : State) (f : Flag) : Kept s (s.raise f) :=
  .ite (.refl s) (.ite (latch_kept s f) ((latch_kept s f).trans (trigger_kept _ _)))
theorem countRefusal_kept (s : State) (r : Refuse) : Kept s (s.countRefusal r) := ⟨rfl, rfl, rfl, rfl, rfl, rfl, rfl, rfl⟩
theorem countCancel_kept (s : State) (c : Cancel) : Kept s (s.countCancel c) := ⟨rfl, rfl, rfl, rfl, rfl, rfl, rfl, rfl⟩

theorem startTimer_kept (s : State) : Kept s s.startTimer :=
  .ite ⟨rfl, rfl, rfl, rfl, rfl, rfl, rfl, rfl⟩ (.refl s)
theorem countTriggers_kept (s : State) : Kept s s.countTriggers :=
  .ite (.ite (trigger_kept _ _) (.refl s)) (.ite (trigger_kept _ _) (.refl s))
theorem noteCommit_kept (s : State) : Kept s s.noteCommit :=
  Kept.trans (t := s.setOffice { s.office with count := bump s.office.count })
    ⟨rfl, rfl, rfl, rfl, rfl, rfl, rfl, rfl⟩ ((startTimer_kept _).trans (countTriggers_kept _))
theorem retimeMitigation_kept (s : State) : Kept s s.retimeMitigation := by
  unfold retimeMitigation
  split
  · exact .refl s
  · exact .ite ⟨rfl, rfl, rfl, rfl, rfl, rfl, rfl, rfl⟩
      (.ite ⟨rfl, rfl, rfl, rfl, rfl, rfl, rfl, rfl⟩ ⟨rfl, rfl, rfl, rfl, rfl, rfl, rfl, rfl⟩)
theorem applyNoticeSettings_kept (s : State) : Kept s s.applyNoticeSettings :=
  (retimeMitigation_kept s).trans (.ite (trigger_kept _ _) (.refl _))

/-! ## Near marks, intake, cover, journal, store -/

theorem evalCover_kept (s : State) : Kept s s.evalCover :=
  .ite ((setCover_kept s _).trans (raise_kept _ _)) (setCover_kept s _)
theorem evalJournal_kept (s : State) : Kept s s.evalJournal :=
  .ite ((setJournal_kept s _).trans (raise_kept _ _)) (setJournal_kept s _)
theorem evalStore_kept (s : State) : Kept s s.evalStore :=
  .ite ((setStore_kept s _).trans (raise_kept _ _)) (setStore_kept s _)

theorem cancelAwaiting_kept (s : State) (h : Hatch) : Kept s (s.cancelAwaiting h) := by
  unfold cancelAwaiting
  split
  · exact ((setDrop_kept s h _).trans (countCancel_kept _ _)).trans (showAt_kept _ _ _)
  · exact .refl s

theorem evalIntake_kept (s : State) : Kept s s.evalIntake := by
  have k := (setIntake_kept s { s.intake with state := s.intakeTarget }).trans (trigger_kept _ .intake)
  exact .ite (.refl s) (.ite (k.trans (Kept.foldl cancelAwaiting_kept _ _)) k)

theorem rollover_kept (s : State) : Kept s s.rollover := setCounts_kept _ _
theorem evalWindow_kept (s : State) : Kept s s.evalWindow :=
  .ite ((setIntake_kept s _).trans (rollover_kept _)) (setIntake_kept s _)
theorem evalTime_kept (s : State) : Kept s s.evalTime := (evalWindow_kept s).trans (evalIntake_kept _)

theorem holdCover_kept (s : State) (d : Nat) : Kept s (s.holdCover d) := (setCover_kept s _).trans (evalCover_kept _)
theorem releaseCover_kept (s : State) (d : Nat) : Kept s (s.releaseCover d) :=
  (setCover_kept s _).trans (evalCover_kept _)
theorem commitCover_kept (s : State) (d : Nat) : Kept s (s.commitCover d) :=
  (setCover_kept s _).trans (evalCover_kept _)
theorem reconcileCover_kept (s : State) (d : Nat) : Kept s (s.reconcileCover d) :=
  (setCover_kept s _).trans (evalCover_kept _)

theorem strandEntry_kept (s : State) (n : Nat) : Kept s (s.strandEntry n) :=
  (modEntry_kept s n _).trans (raise_kept _ _)
theorem placeSlot_kept (s : State) : Kept s s.placeSlot := setJournal_kept _ _
theorem removeSlot_kept (s : State) : Kept s s.removeSlot := setJournal_kept _ _
theorem epochWrite_kept (s : State) : Kept s s.epochWrite := .ite (setTableStore_kept _ _) (.refl s)
theorem wrapWrite_kept (s : State) : Kept s s.wrapWrite := .ite (setTableStore_kept _ _) (.refl s)
theorem advanceNumber_kept (s : State) : Kept s s.advanceNumber :=
  .ite ((setJournal_kept s _).trans (wrapWrite_kept _)) (setJournal_kept s _)
theorem appendEntry_kept (s : State) (e : Entry) : Kept s (s.appendEntry e) :=
  (((removeSlot_kept s).trans (setJournal_kept _ _)).trans (advanceNumber_kept _)).trans (evalJournal_kept _)

theorem placeStoreHold_kept (s : State) : Kept s s.placeStoreHold := (setStore_kept s _).trans (evalStore_kept _)
theorem removeStoreHold_kept (s : State) : Kept s s.removeStoreHold := (setStore_kept s _).trans (evalStore_kept _)
theorem placePending_kept (s : State) (b : BinNo) (m d : Nat) : Kept s (s.placePending b m d) :=
  (((setStore_kept s _).trans (setBin_kept _ _ _)).trans (evalStore_kept _)).trans (evalIntake_kept _)

theorem releasePlace_kept (s : State) (n : Nat) : Kept s (s.releasePlace n) := by
  unfold releasePlace
  split
  · exact .refl s
  · split
    · exact .refl s
    · exact setBin_kept _ _ _
theorem releasePending_kept (s : State) (n : Nat) : Kept s (s.releasePending n) :=
  (releasePlace_kept s n).trans (evalStore_kept _)

/-! ## Endings -/

theorem endTransaction_kept (s : State) (h : Hatch) (d : Drop) : Kept s (s.endTransaction h d) := by
  unfold endTransaction
  split
  · exact ((((setDrop_kept s h d).trans (releaseCover_kept _ _)).trans (removeSlot_kept _)).trans
      (removeStoreHold_kept _)).trans (evalIntake_kept _)
  · exact (((setDrop_kept s h d).trans (strandEntry_kept _ _)).trans (removeStoreHold_kept _)).trans (evalIntake_kept _)
  · exact (((setDrop_kept s h d).trans (strandEntry_kept _ _)).trans (releasePending_kept _ _)).trans (evalIntake_kept _)
  all_goals exact setDrop_kept s h d

theorem faultHatch_kept (s : State) (h : Hatch) : Kept s (s.faultHatch h) := by
  have k := modPort_kept s h fun p => { p with faultFlag := true }
  unfold faultHatch
  dsimp only
  split <;> first | exact k | exact k.trans (endTransaction_kept _ _ _)

theorem cancelDrop_kept (s : State) (h : Hatch) (c : Cancel) : Kept s (s.cancelDrop h c) :=
  ((endTransaction_kept s h _).trans (countCancel_kept _ _)).trans (showAt_kept _ _ _)

/-! ## Carousel -/

theorem deliver_kept (s : State) (g : Grant) (b : BinNo) : Kept s (s.deliver g b) :=
  (modPort_kept s _ _).trans (setCarousel_kept _ _)

theorem grantTo_kept (s : State) (h : Hatch) : Kept s (s.grantTo h) := by
  unfold grantTo
  split
  · exact .refl s
  · exact .ite ((setStore_kept s _).trans (deliver_kept _ _ _)) ((setStore_kept s _).trans (setCarousel_kept _ _))

theorem arbiter_kept (s : State) : Kept s s.arbiter := by
  unfold arbiter
  split
  · split
    · exact grantTo_kept _ _
    · exact .refl s
  · exact .refl s

theorem enterIdle_kept (s : State) : Kept s s.enterIdle := (setCarousel_kept s _).trans (arbiter_kept _)

theorem endMove_kept (s : State) (b : BinNo) (g : Option Grant) : Kept s (s.endMove b g) := by
  unfold endMove
  split
  · exact enterIdle_kept s
  · exact .ite (deliver_kept _ _ _) (enterIdle_kept s)

theorem startHoming_kept (s : State) : Kept s s.startHoming := (setPosition_kept s _).trans (setCarousel_kept _ _)
theorem popQueue_kept (s : State) (h : Hatch) : Kept s (s.popQueue h) := setQueue_kept _ _ _

theorem blameTray_kept (s : State) (h : Hatch) (t : BitVec 8) : Kept s (s.blameTray h t) := by
  unfold blameTray
  split
  · exact .refl s
  · exact .ite (.refl s) ((raise_kept _ _).trans (faultHatch_kept _ _))

theorem failDelivery_kept (s : State) (g : Grant) (t : BitVec 8) (c : Carousel) : Kept s (s.failDelivery g t c) :=
  ((((((strandEntry_kept s _).trans (releasePending_kept _ _)).trans (popQueue_kept _ _)).trans
    (setCarousel_kept _ _)).trans (raise_kept _ _)).trans (evalIntake_kept _)).trans (blameTray_kept _ _ _)

theorem fileBag_kept (s : State) (g : Grant) (b : BinNo) : Kept s (s.fileBag g b) :=
  ((((modEntry_kept s _ _).trans (setBin_kept _ _ _)).trans (popQueue_kept _ _)).trans
    (setPosition_kept _ _)).trans (enterIdle_kept _)

theorem withdrawGrant_kept (s : State) (h : Hatch) : Kept s (s.withdrawGrant h) := by
  unfold withdrawGrant
  split
  · exact .ite (enterIdle_kept s) (.refl s)
  · exact .ite (setCarousel_kept _ _) (.refl s)
  · exact .ite (setCarousel_kept _ _) (.refl s)
  · exact .refl s

theorem strandFromTray_kept (s : State) (n : Nat) : Kept s (s.strandFromTray n) :=
  (strandEntry_kept s n).trans (releasePending_kept _ _)

theorem failVerification_kept (s : State) (h : Hatch) : Kept s (s.failVerification h) :=
  (((((Kept.foldl strandFromTray_kept _ s).trans (setQueue_kept _ _ _)).trans (modPort_kept _ _ _)).trans
    (raise_kept _ _)).trans (evalIntake_kept _)).trans (withdrawGrant_kept _ _)

theorem baselineRelease_kept (s : State) (h : Hatch) (c : BitVec 8) : Kept s (s.baselineRelease h c) :=
  .ite (modPort_kept s h _) ((modPort_kept s h _).trans (arbiter_kept _))

theorem examineRelease_kept (s : State) (h : Hatch) (c : BitVec 8) : Kept s (s.examineRelease h c) := by
  unfold examineRelease
  split
  · exact .refl s
  · exact .ite (.refl s) (.ite (modPort_kept _ _ _)
      (((modPort_kept s h _).trans (raise_kept _ _)).trans (faultHatch_kept _ _)))

/-! ## Drop machine -/

theorem refuse_kept (s : State) (h : Hatch) (r : Refuse) : Kept s (s.refuse h r) :=
  (countRefusal_kept s r).trans (showAt_kept _ _ _)

theorem processToken_kept (s : State) (h : Hatch) (t : Nat) : Kept s (s.processToken h t) := by
  unfold processToken
  split
  · exact (setDrop_kept s h _).trans (showAt_kept _ _ _)
  · exact refuse_kept _ _ _

theorem takeToken_kept (s : State) (h : Hatch) (t : Nat) : Kept s (s.takeToken h t) := by
  unfold takeToken
  split
  · exact processToken_kept _ _ _
  · exact .ite (.refl s) ((setDrop_kept s h _).trans (processToken_kept _ _ _))
  · exact showAt_kept _ _ _
  · exact showAt_kept _ _ _
  · exact showAt_kept _ _ _
  · exact refuse_kept _ _ _
  · exact .refl s

theorem placeHolds_kept (s : State) (h : Hatch) (t : Snapshot) (d : Declared) : Kept s (s.placeHolds h t d) :=
  (((((holdCover_kept s _).trans (placeSlot_kept _)).trans (placeStoreHold_kept _)).trans
    (setDrop_kept _ _ _)).trans (showAt_kept _ _ _)).trans (evalIntake_kept _)

theorem processDeclaration_kept (s : State) (h : Hatch) (t : Snapshot) (d : Declaration) :
    Kept s (s.processDeclaration h t d) := by
  unfold processDeclaration
  split
  · exact placeHolds_kept _ _ _ _
  · exact (setDrop_kept s h _).trans (refuse_kept _ _ _)

theorem takeDeclaration_kept (s : State) (h : Hatch) (d : Declaration) : Kept s (s.takeDeclaration h d) := by
  unfold takeDeclaration
  split <;> first | exact processDeclaration_kept _ _ _ _ | exact showAt_kept _ _ _ | exact .refl s

theorem countBag_kept (s : State) (t : Snapshot) (d : Nat) : Kept s (s.countBag t d) :=
  .ite (setCounts_kept _ _) (.refl s)

theorem commit_kept (s : State) (h : Hatch) (t : Snapshot) (d : Declared) : Kept s (s.commit h t d) :=
  ((((commitCover_kept s _).trans (countBag_kept _ _ _)).trans (appendEntry_kept _ _)).trans
    (noteCommit_kept _)).trans (setDrop_kept _ _ _)

theorem conclude_kept (s : State) (h : Hatch) (t : Snapshot) (d : Declared) (n : Nat) (r : Reasons) (m : Option Nat)
    (a : BitVec 8) : Kept s (s.conclude h t d n r m a) := by
  unfold conclude
  exact (((Kept.ite (raise_kept s _) (.refl s)).trans (modEntry_kept _ _ _)).trans (setDrop_kept _ _ _)).trans
    (placePending_kept _ _ _ _)

theorem weigh_kept (s : State) (h : Hatch) (t : Snapshot) (d : Declared) (n : Nat) (r : HeadReport) :
    Kept s (s.weigh h t d n r) := conclude_kept _ _ _ _ _ _ _ _

theorem loseBag_kept (s : State) (h : Hatch) : Kept s (s.loseBag h) := (raise_kept s _).trans (faultHatch_kept _ _)

theorem receiptAt_kept (s : State) (h : Hatch) (n : Nat) : Kept s (s.receiptAt h n) := by
  unfold receiptAt
  split
  · exact modPort_kept _ _ _
  · exact .refl s

theorem arrive_kept (s : State) (h : Hatch) (n : Nat) : Kept s (s.arrive h n) :=
  ((((((modEntry_kept s _ _).trans (setQueue_kept _ _ _)).trans (receiptAt_kept _ _ _)).trans
    (showAt_kept _ _ _)).trans (modPort_kept _ _ _)).trans (evalIntake_kept _)).trans (arbiter_kept _)

theorem takeAlarms_kept (s : State) (h : Hatch) (r : HeadReport) (b : Bool) : Kept s (s.takeAlarms h r b) := by
  have a : ∀ (x : State) (f : Flag), Kept x ((x.raise f).faultHatch h) := fun x f =>
    (raise_kept x f).trans (faultHatch_kept _ _)
  have k1 : Kept s (if r.tamper || b then (s.raise .headAlarm).faultHatch h else s) := .ite (a _ _) (.refl s)
  have k2 := k1.trans (Kept.ite (c := r.chuteBlocked = true) (a _ .jam) (.refl _))
  exact k2.trans (.ite ((raise_kept _ _).trans (modPort_kept _ _ _)) (.refl _))

theorem forceFlap_kept (s : State) (h : Hatch) : Kept s (s.forceFlap h) := (raise_kept s _).trans (faultHatch_kept _ _)

theorem takeOpenFields_kept (s : State) (h : Hatch) (t : Snapshot) (d : Declared) (o p : Bool) (dl : Option Nat)
    (r : HeadReport) : Kept s (s.takeOpenFields h t d o p dl r) :=
  .ite (setDrop_kept _ _ _) (.ite (commit_kept _ _ _ _) (.ite (cancelDrop_kept _ _ _) (.refl s)))

theorem takeFields_kept (s : State) (h : Hatch) (r : HeadReport) : Kept s (s.takeFields h r) := by
  unfold takeFields
  split
  · exact .refl s
  · exact .ite (forceFlap_kept _ _) (.refl s)
  · exact .ite (forceFlap_kept _ _) (.refl s)
  · exact .ite (forceFlap_kept _ _) (.refl s)
  · exact takeOpenFields_kept _ _ _ _ _ _ _ _
  · exact .ite (forceFlap_kept _ _) (.ite (loseBag_kept _ _) (.ite (weigh_kept _ _ _ _ _ _) (.refl s)))
  · exact .ite (forceFlap_kept _ _) (.ite (arrive_kept _ _ _) (.refl s))

theorem captureZero_kept (s : State) (h : Hatch) (r : HeadReport) : Kept s (s.captureZero h r) :=
  .ite (.ite ((modPort_kept s h _).trans (setCalibration_kept _ _ _)) ((modPort_kept s h _).trans (raise_kept _ _)))
    (.refl s)

theorem takePlate_kept (s : State) (h : Hatch) (r : HeadReport) : Kept s (s.takePlate h r) :=
  .ite ((takeFields_kept s h r).trans (captureZero_kept _ _ _)) (takeFields_kept s h r)

theorem takeReport_kept (s : State) (h : Hatch) (r : HeadReport) (b : Bool) (t : Option Nat) (d : Option Declaration) :
    Kept s (s.takeReport h r b t d) := by
  have k := (takeAlarms_kept s h r b).trans (takePlate_kept _ h r)
  unfold takeReport
  cases t <;> cases d
  · exact k
  · exact k.trans (takeDeclaration_kept _ _ _)
  · exact k.trans (takeToken_kept _ _ _)
  · exact (k.trans (takeToken_kept _ _ _)).trans (takeDeclaration_kept _ _ _)

/-! ## Hatch port -/

theorem countBad_kept (s : State) (h : Hatch) : Kept s (s.countBad h) := modPort_kept _ _ _
theorem abandonFrame_kept (s : State) (h : Hatch) (b : Bool) : Kept s (s.abandonFrame h b) :=
  .ite (countBad_kept _ _) (.refl s)

theorem dropLink_kept (s : State) (h : Hatch) : Kept s (s.dropLink h) := by
  unfold dropLink
  split
  · exact (endTransaction_kept _ _ _).trans (countCancel_kept _ _)
  · exact (endTransaction_kept _ _ _).trans (countCancel_kept _ _)
  · exact (endTransaction_kept _ _ _).trans (modPort_kept _ _ _)
  · exact (endTransaction_kept _ _ _).trans (modPort_kept _ _ _)
  · exact endTransaction_kept _ _ _
  · exact endTransaction_kept _ _ _
  · exact .refl s

theorem leaveUp_kept (s : State) (h : Hatch) : Kept s (s.leaveUp h) := (dropLink_kept s h).trans (modPort_kept _ _ _)
theorem unlink_kept (s : State) (h : Hatch) : Kept s (s.unlink h) := .ite (leaveUp_kept _ _) (.refl s)
theorem enterHoldOff_kept (s : State) (h : Hatch) : Kept s (s.enterHoldOff h) :=
  (unlink_kept s h).trans (modPort_kept _ _ _)
theorem disablePort_kept (s : State) (h : Hatch) : Kept s (s.disablePort h) :=
  (unlink_kept s h).trans (modPort_kept _ _ _)

theorem applyConfig_kept (s : State) (h : Hatch) (c : HatchConfig) : Kept s (s.applyConfig h c) := by
  have k := (setTables_kept s { s.tables with configs := s.tables.configs.set h c }).trans
    (modPort_kept _ h fun p =>
      { p with
        streak := if c.autoPolarity then p.streak else 0
        surroundLatch := if c.aux = .surround then p.surroundLatch else false })
  exact .ite k (.ite (k.trans (enterHoldOff_kept _ _)) (k.trans (disablePort_kept _ _)))

theorem sendPoll_kept (s : State) (h : Hatch) : Kept s (s.sendPoll h) := modPort_kept _ _ _
theorem sendOffer_kept (s : State) (h : Hatch) : Kept s (s.sendOffer h) := modPort_kept _ _ _

theorem joinLink_kept (s : State) (h : Hatch) (n : Nat) : Kept s (s.joinLink h n) :=
  .ite (setDrop_kept _ _ _) (.ite (setDrop_kept _ _ _) ((failVerification_kept s h).trans (setDrop_kept _ _ _)))

theorem takeAnswer_kept (s : State) (h : Hatch) (a : HeadAnswer) : Kept s (s.takeAnswer h a) := by
  unfold takeAnswer
  split
  · exact ((modPort_kept s h _).trans (joinLink_kept _ _ _)).trans (sendPoll_kept _ _)
  · exact countBad_kept _ _
  · exact .refl s
  · exact .refl s

theorem takeAnsweringReport_kept (s : State) (h : Hatch) (r : HeadReport) : Kept s (s.takeAnsweringReport h r) := by
  have k := (modPort_kept s h fun p =>
      { p with
        snapshot := some r
        takenToken := r.token
        takenDecl := r.declaration
        window := none
        misses := 0
        streak := 0
        surroundLatch := if (s.config h).aux = .surround then false else p.surroundLatch }).trans
    (takeReport_kept _ h r (s.surroundDelivered h)
      (delivered (s.port h).snapshot.isNone (s.port h).takenToken r.token)
      (delivered (s.port h).snapshot.isNone (s.port h).takenDecl r.declaration))
  exact .ite (k.trans (baselineRelease_kept _ _ _)) (k.trans (examineRelease_kept _ _ _))

theorem takeValidReport_kept (s : State) (h : Hatch) (r : HeadReport) : Kept s (s.takeValidReport h r) := by
  unfold takeValidReport
  split
  · exact .ite (takeAnsweringReport_kept _ _ _) (countBad_kept _ _)
  · exact countBad_kept _ _
  · exact .refl s
  · exact .refl s

theorem takeFrame_kept (s : State) (h : Hatch) (f : HeadFrame) : Kept s (s.takeFrame h f) := by
  cases f
  · exact takeValidReport_kept _ _ _
  · exact takeAnswer_kept _ _ _

theorem takeComplemented_kept (s : State) (h : Hatch) (f : HeadFrame) : Kept s (s.takeComplemented h f) := by
  have k : Kept s (s.judgeComplemented h f) :=
    .ite (countBad_kept _ _) (.ite (modPort_kept _ _ _)
      (((modPort_kept s h _).trans (raise_kept _ _)).trans (takeFrame_kept _ _ _)))
  unfold takeComplemented
  split <;> first | exact .refl s | exact k

end State

end Sys2Proof.Machine
end

