-- ==== Sys2Proof/Laws/Office.lean ====
section
/-! SUPPORT. The office port's part of every command, said once: when a free transmitter has nothing to begin,
and what a handled request leaves. -/

namespace Sys2Proof.Machine

open Sys2Proof

namespace State

/-- Where a free transmitter leaves nothing waiting, none begins. -/
theorem pump_eq (s : State) (w : s.NothingWaits) : s.pump = s := by
  unfold pump
  split
  · rfl
  · rename_i e1 e2; simp [(w e1).1] at e2
  · rename_i e1 e2; simp [(w e1).1] at e2
  · rename_i e1 _ e3; simp [(w e1).2] at e3
  · rfl

/-- After the transmitter has looked, a free one leaves nothing waiting. -/
theorem pump_nothingWaits (s : State) : s.pump.NothingWaits := by
  intro e
  unfold pump at e ⊢
  split at e <;> simp_all [setOffice]

/-- What keeps the office port's frames keeps that nothing waits, if no notice is made. -/
theorem NothingWaits.of_office {s t : State} (w : s.NothingWaits) (tx : t.office.transmitter = s.office.transmitter)
    (re : t.office.replies = s.office.replies) (no : t.office.notice = s.office.notice) : t.NothingWaits := by
  intro e
  rw [re, no]
  exact w (tx ▸ e)

/-- An event of the running controller that leaves nothing waiting is its change alone. -/
theorem event_eq {s : State} {f : State → State} (run : s.running = true) (w : (f s).NothingWaits) :
    s.event f = f s := by
  simp [event, run, pump_eq _ w]

/-- An event of the running controller. -/
theorem event_run {s : State} (f : State → State) (run : s.running = true) : s.event f = (f s).pump := by
  simp [event, run]

/-- The controller that does not run takes no event. -/
theorem event_off {s : State} (f : State → State) (off : s.running = false) : s.event f = s := by simp [event, off]

/-- A request that meets an empty hand is handled. -/
theorem request_ready {α : Type} {s : State} (r : s.Ready) (c : Nat) (a : α) (f : α → State) :
    s.request c (.fits a) f = (f a).pump := by
  simp [request, event, r.1, r.2.1]

/-- A reply that is formed with nothing before it: a free transmitter begins it. -/
theorem pump_answer (u : State) (c : Nat) (x : Result) (d : List Byte) (hand : u.office.hand = none)
    (free : u.office.transmitter = none → u.office.replies = []) : (u.answer c x d).pump = u.answered c x d := by
  unfold answered Office.answered answer pump
  cases e : u.office.transmitter with
  | some f => simp [setOffice, e]
  | none => simp [setOffice, e, free e, Hand.begun, hand]

/-- A request handled by a change that keeps the hand, the waiting replies and the transmitter, and then
answered. -/
theorem request_answered {α : Type} {s u : State} (r : s.Ready) (c : Nat) (a : α) (f : α → State) (x : Result)
    (d : List Byte) (e : f a = u.answer c x d) (k : Kept s u) : s.request c (.fits a) f = u.answered c x d := by
  rw [request_ready r, e]
  exact pump_answer u c x d (k.hand.trans r.2.1)
    (fun t => k.replies.trans (r.2.2 (k.transmitter.symm.trans t)).1)

/-- A request answered with nothing changed. -/
theorem request_same {α : Type} {s : State} (r : s.Ready) (c : Nat) (a : α) (f : α → State) (x : Result)
    (d : List Byte) (e : f a = s.answer c x d) : s.request c (.fits a) f = s.answered c x d :=
  request_answered r c a f x d e (.refl s)

@[simp] theorem fileBag_office (s : State) (g : Grant) (b : BinNo) : (s.fileBag g b).office = s.office := by
  simp [fileBag, popQueue, modEntry]

end State

end Sys2Proof.Machine
end

