-- ==== Sys2Proof/Laws/Latched.lean ====
section
/-! SUPPORT. An alert flag that is latched stays latched through every shared operation (R175, R176). -/

namespace Sys2Proof.Machine

open Sys2Proof

/-- Every flag latched in `s` is latched in `t`. -/
structure Grows (s t : State) : Prop where
  stays : ∀ f : Flag, s.latched f = true → t.latched f = true

namespace Grows

theorem refl (s : State) : Grows s s := ⟨fun _ e => e⟩

theorem trans {s t u : State} (a : Grows s t) (b : Grows t u) : Grows s u :=
  ⟨fun f e => b.stays f (a.stays f e)⟩

theorem ofFlags {s t : State} (e : t.office.flags = s.office.flags) : Grows s t := by
  refine ⟨fun f l => ?_⟩
  simpa [State.latched, e] using l

/-- What comes after a change that leaves the flags alone. -/
theorem after {s t u : State} (b : Grows t u) (e : t.office.flags = s.office.flags) : Grows s u := (ofFlags e).trans b

theorem foldl {α : Type} {f : State → α → State} (k : ∀ s a, Grows s (f s a)) :
    ∀ (l : List α) (s : State), Grows s (l.foldl f s)
  | [], s => .refl s
  | a :: l, s => (k s a).trans (foldl k l (f s a))

theorem ite {s t u : State} {c : Prop} [Decidable c] (a : Grows s t) (b : Grows s u) :
    Grows s (if c then t else u) := by
  split <;> assumption

end Grows

theorem Flag.bit_self (f : Flag) : f.bit.getLsbD f.position = true := by cases f <;> decide

namespace State

theorem latch_latched (s : State) (f : Flag) : (s.latch f).latched f = true := by
  simp [latched, latch, hasFlag, Flag.bit_self]

theorem latch_grows (s : State) (f : Flag) : Grows s (s.latch f) := by
  refine ⟨fun g e => ?_⟩
  simp only [latched, hasFlag] at e
  simp [latched, latch, hasFlag, e]

theorem trigger_grows (s : State) (c : Cause) : Grows s (s.trigger c) := .ofFlags rfl

theorem raise_latched (s : State) (f : Flag) : (s.raise f).latched f = true := by
  unfold raise
  split
  · assumption
  · split
    · exact latch_latched s f
    · exact (trigger_grows _ _).stays f (latch_latched s f)

theorem raise_grows (s : State) (f : Flag) : Grows s (s.raise f) := by
  unfold raise
  split
  · exact .refl s
  · split
    · exact latch_grows s f
    · exact (latch_grows s f).trans (trigger_grows _ _)

theorem countCancel_grows (s : State) (c : Cancel) : Grows s (s.countCancel c) := .ofFlags rfl

theorem evalCover_grows (s : State) : Grows s s.evalCover := .ite ((raise_grows _ _).after rfl) (.ofFlags rfl)

theorem evalJournal_grows (s : State) : Grows s s.evalJournal := .ite ((raise_grows _ _).after rfl) (.ofFlags rfl)

theorem evalStore_grows (s : State) : Grows s s.evalStore := .ite ((raise_grows _ _).after rfl) (.ofFlags rfl)

theorem cancelAwaiting_grows (s : State) (h : Hatch) : Grows s (s.cancelAwaiting h) := by
  unfold cancelAwaiting
  split
  · exact .ofFlags rfl
  · exact .refl s

theorem evalIntake_grows (s : State) : Grows s s.evalIntake := by
  unfold evalIntake
  dsimp only
  exact .ite (.refl s) (.ite ((Grows.foldl cancelAwaiting_grows _ _).after rfl) (.ofFlags rfl))

theorem releaseCover_grows (s : State) (d : Nat) : Grows s (s.releaseCover d) := (evalCover_grows _).after rfl

theorem removeStoreHold_grows (s : State) : Grows s s.removeStoreHold := (evalStore_grows _).after rfl

theorem strandEntry_grows (s : State) (n : Nat) : Grows s (s.strandEntry n) := (raise_grows _ _).after rfl

theorem strandEntry_latched (s : State) (n : Nat) : (s.strandEntry n).latched .stranded = true := raise_latched _ _

theorem releasePending_grows (s : State) (n : Nat) : Grows s (s.releasePending n) :=
  (evalStore_grows _).after (by simp)

theorem placePending_grows (s : State) (b : BinNo) (m d : Nat) : Grows s (s.placePending b m d) :=
  ((evalStore_grows _).trans (evalIntake_grows _)).after rfl

theorem endTransaction_grows (s : State) (h : Hatch) (d : Drop) : Grows s (s.endTransaction h d) := by
  unfold endTransaction
  split
  case h_1 =>
    rename_i c _ _ _ _
    have a : Grows s ((s.setDrop h d).releaseCover c.total) := (releaseCover_grows _ _).after (by simp)
    have b : Grows ((s.setDrop h d).releaseCover c.total) (((s.setDrop h d).releaseCover c.total).removeSlot) :=
      .ofFlags (by simp)
    exact ((a.trans b).trans (removeStoreHold_grows _)).trans (evalIntake_grows _)
  case h_2 => exact (((strandEntry_grows _ _).trans (removeStoreHold_grows _)).after (by simp)).trans (evalIntake_grows _)
  case h_3 => exact (((strandEntry_grows _ _).trans (releasePending_grows _ _)).after (by simp)).trans (evalIntake_grows _)
  all_goals exact .ofFlags rfl

theorem faultHatch_grows (s : State) (h : Hatch) : Grows s (s.faultHatch h) := by
  unfold faultHatch
  dsimp only
  split <;> first
    | exact .ofFlags rfl
    | exact (endTransaction_grows _ _ _).after rfl

theorem blameTray_grows (s : State) (h : Hatch) (t : BitVec 8) : Grows s (s.blameTray h t) := by
  unfold blameTray
  split
  · exact .refl s
  · exact .ite (.refl s) ((raise_grows _ _).trans (faultHatch_grows _ _))

theorem failDelivery_grows_strand (s : State) (g : Grant) (t : BitVec 8) (c : Carousel) :
    Grows (s.strandEntry g.entry) (s.failDelivery g t c) :=
  (releasePending_grows _ _).trans
    (((raise_grows _ _).trans ((evalIntake_grows _).trans (blameTray_grows _ _ _))).after rfl)

theorem failDelivery_grows (s : State) (g : Grant) (t : BitVec 8) (c : Carousel) : Grows s (s.failDelivery g t c) :=
  (strandEntry_grows s _).trans (failDelivery_grows_strand s g t c)

/-- A delivery that fails strands its bag and raises CAROUSEL_FAULT. -/
theorem failDelivery_latched (s : State) (g : Grant) (t : BitVec 8) (c : Carousel) :
    (s.failDelivery g t c).latched .stranded = true ∧ (s.failDelivery g t c).latched .carouselFault = true := by
  refine ⟨(failDelivery_grows_strand s g t c).stays _ (strandEntry_latched s g.entry), ?_⟩
  unfold failDelivery
  exact ((evalIntake_grows _).trans (blameTray_grows _ _ _)).stays _ (raise_latched _ _)

theorem withdrawGrant_grows (s : State) (h : Hatch) : Grows s (s.withdrawGrant h) := by
  unfold withdrawGrant
  split
  · exact .ite (.ofFlags (by simp)) (.refl s)
  · exact .ite (.ofFlags rfl) (.refl s)
  · exact .ite (.ofFlags rfl) (.refl s)
  · exact .refl s

theorem strandFromTray_grows (s : State) (n : Nat) : Grows s (s.strandFromTray n) :=
  (strandEntry_grows s n).trans (releasePending_grows _ _)

theorem failVerification_grows (s : State) (h : Hatch) : Grows s (s.failVerification h) :=
  (Grows.foldl strandFromTray_grows (s.queue h) s).trans
    (((raise_grows _ _).trans ((evalIntake_grows _).trans (withdrawGrant_grows _ _))).after rfl)

theorem dropLink_grows (s : State) (h : Hatch) : Grows s (s.dropLink h) := by
  unfold dropLink
  split <;> first
    | exact .refl s
    | exact endTransaction_grows s h _
    | exact (endTransaction_grows s h .offline).trans (.ofFlags rfl)

theorem leaveUp_grows (s : State) (h : Hatch) : Grows s (s.leaveUp h) := (dropLink_grows s h).trans (.ofFlags rfl)

theorem unlink_grows (s : State) (h : Hatch) : Grows s (s.unlink h) := .ite (leaveUp_grows s h) (.refl s)

theorem enterHoldOff_grows (s : State) (h : Hatch) : Grows s (s.enterHoldOff h) :=
  (unlink_grows s h).trans (.ofFlags rfl)

end State

end Sys2Proof.Machine
end

