-- ==== Sys2Proof/Laws/Operands.lean ====
section
/-! SUPPORT. When an operand is in range. -/

namespace Sys2Proof.Machine

open Sys2Proof

@[simp] theorem within_eq_true (a b v : Nat) : within a b v = true ↔ a ≤ v ∧ v ≤ b := by simp [within]

@[simp] theorem within_eq_false (a b v : Nat) : within a b v = false ↔ ¬(a ≤ v ∧ v ≤ b) := by simp [within]

@[simp] theorem hatchOf?_num (h : Hatch) : hatchOf? h.num = some h := by cases h <;> rfl

theorem hatchOf?_none {n : Nat} (e : n = 0 ∨ 4 < n) : hatchOf? n = none := by
  unfold hatchOf?
  split <;> first | omega | rfl

@[simp] theorem binOf?_val (b : BinNo) : binOf? b.val = some b := by simp [binOf?]

theorem binOf?_none {n : Nat} (e : 30 ≤ n) : binOf? n = none := by
  unfold binOf?
  exact dif_neg (by omega)

end Sys2Proof.Machine
end

