-- ==== Sys2Proof/Laws/Quiet.lean ====
section
/-! SUPPORT. The operations that leave the four transactions' holds and the links alone, and do not break the
cover bound: one lemma for each. -/

namespace Sys2Proof.Machine

open Sys2Proof

/-- `t` has the accounts, links and holds of `s`; a machine OFFLINE stays so, and the cover bound is kept. -/
structure Quiet (s t : State) : Prop where
  held : t.cover.held = s.cover.held
  slots : t.journal.slotHolds = s.journal.slotHolds
  holds : t.store.holds = s.store.holds
  link : ∀ h, (t.port h).link = (s.port h).link
  owned : ∀ h, (t.drop h).holds = (s.drop h).holds
  offline : ∀ h, s.drop h = .offline → t.drop h = .offline
  bound : s.CoverBound → t.CoverBound

namespace Quiet

theorem refl (s : State) : Quiet s s := ⟨rfl, rfl, rfl, fun _ => rfl, fun _ => rfl, fun _ e => e, fun b => b⟩

theorem trans {s t u : State} (a : Quiet s t) (b : Quiet t u) : Quiet s u :=
  ⟨b.held.trans a.held, b.slots.trans a.slots, b.holds.trans a.holds, fun h => (b.link h).trans (a.link h),
    fun h => (b.owned h).trans (a.owned h), fun h e => b.offline h (a.offline h e), fun e => b.bound (a.bound e)⟩

theorem foldl {α : Type} {f : State → α → State} (k : ∀ s a, Quiet s (f s a)) :
    ∀ (l : List α) (s : State), Quiet s (l.foldl f s)
  | [], s => .refl s
  | a :: l, s => (k s a).trans (foldl k l (f s a))

theorem ite {s t u : State} {c : Prop} [Decidable c] (a : Quiet s t) (b : Quiet s u) :
    Quiet s (if c then t else u) := by
  split <;> assumption

/-- What leaves every part but the counted fields alone is quiet. -/
theorem ofSame {s t : State} (held : t.cover.held = s.cover.held) (com : t.cover.committed = s.cover.committed)
    (slots : t.journal.slotHolds = s.journal.slotHolds) (holds : t.store.holds = s.store.holds)
    (lim : t.tables.limit = s.tables.limit) (ports : t.ports = s.ports) : Quiet s t where
  held := held
  slots := slots
  holds := holds
  link h := by simp [State.port, ports]
  owned h := by simp [State.drop, State.port, ports]
  offline h e := by simpa [State.drop, State.port, ports] using e
  bound b := by simpa [State.CoverBound, held, com, lim] using b

/-- Sound accounts stay sound. -/
theorem sound {s t : State} (q : Quiet s t) (a : s.Sound) : t.Sound := by
  obtain ⟨l, ⟨h1, h2, h3⟩, b⟩ := a
  have hs : ∀ f : Holds → Nat, t.sumDrops f = s.sumDrops f := fun f => by simp [State.sumDrops, q.owned]
  refine ⟨fun h e => q.offline h (l h (by rwa [← q.link h])), ⟨?_, ?_, ?_⟩, q.bound b⟩
  · rw [q.held, hs, h1]
  · rw [q.slots, hs, h2]
  · rw [q.holds, hs, h3]

end Quiet

namespace State

/-! ## Updates -/

theorem setNow_quiet (s : State) (x : Nat) : Quiet s (s.setNow x) := .ofSame rfl rfl rfl rfl rfl rfl
theorem reach_quiet (s : State) (t : Nat) : Quiet s (s.reach t) := setNow_quiet _ _
theorem setMainsGood_quiet (s : State) (x : Bool) : Quiet s (s.setMainsGood x) := .ofSame rfl rfl rfl rfl rfl rfl
theorem setResetReleased_quiet (s : State) (x : Bool) : Quiet s (s.setResetReleased x) := .ofSame rfl rfl rfl rfl rfl rfl
theorem setStraps_quiet (s : State) (x : Straps) : Quiet s (s.setStraps x) := .ofSame rfl rfl rfl rfl rfl rfl
theorem setMapAccess_quiet (s : State) (x : MapAccess) : Quiet s (s.setMapAccess x) := .ofSame rfl rfl rfl rfl rfl rfl
theorem setTableStore_quiet (s : State) (x : TableStore) : Quiet s (s.setTableStore x) :=
  .ofSame rfl rfl rfl rfl rfl rfl
theorem setCounts_quiet (s : State) (x : Tab NightCount 512) : Quiet s (s.setCounts x) :=
  .ofSame rfl rfl rfl rfl rfl rfl
theorem setIntake_quiet (s : State) (x : Intake) : Quiet s (s.setIntake x) := .ofSame rfl rfl rfl rfl rfl rfl
theorem setOffice_quiet (s : State) (x : Office) : Quiet s (s.setOffice x) := .ofSame rfl rfl rfl rfl rfl rfl

theorem setTables_quiet (s : State) (x : Tables) (e : x.limit = s.tables.limit) : Quiet s (s.setTables x) :=
  .ofSame rfl rfl rfl rfl e rfl
theorem setJournal_quiet (s : State) (x : Journal) (e : x.slotHolds = s.journal.slotHolds) :
    Quiet s (s.setJournal x) := .ofSame rfl rfl e rfl rfl rfl
theorem setStore_quiet (s : State) (x : Store) (e : x.holds = s.store.holds) : Quiet s (s.setStore x) :=
  .ofSame rfl rfl rfl e rfl rfl
theorem setNear_quiet (s : State) (b : Bool) : Quiet s (s.setCover { s.cover with near := b }) :=
  .ofSame rfl rfl rfl rfl rfl rfl

/-- A change at one port that leaves its link and its drop state alone. -/
theorem modPort_quiet (s : State) (h : Hatch) (f : Port → Port) (l : ∀ p, (f p).link = p.link)
    (d : ∀ p, (f p).drop = p.drop) : Quiet s (s.modPort h f) where
  held := rfl
  slots := rfl
  holds := rfl
  link k := by
    by_cases e : h = k
    · subst e; simp [l]
    · rw [modPort_port_ne s e]
  owned k := by
    by_cases e : h = k
    · subst e; simp [drop, d]
    · simp [drop, modPort_port_ne s e]
  offline k o := by
    by_cases e : h = k
    · subst e; simpa [drop, d] using o
    · simpa [drop, modPort_port_ne s e] using o
  bound b := b

/-- A drop state that owns the same holds, at a machine that was not OFFLINE. -/
theorem setDrop_quiet (s : State) (h : Hatch) (x : Drop) (o : s.drop h ≠ .offline) (e : x.holds = (s.drop h).holds) :
    Quiet s (s.setDrop h x) where
  held := rfl
  slots := rfl
  holds := rfl
  link k := by
    by_cases e : h = k
    · subst e; simp [setDrop]
    · simp [setDrop, modPort_port_ne s e]
  owned k := by
    by_cases q : h = k
    · subst q; simpa using e
    · rw [setDrop_drop_ne s q]
  offline k p := by
    by_cases q : h = k
    · subst q; exact absurd p o
    · rwa [setDrop_drop_ne s q]
  bound b := b

theorem showAt_quiet (s : State) (h : Hatch) (c : Nat) : Quiet s (s.showAt h c) :=
  modPort_quiet _ _ _ (by intro; rfl) (by intro; rfl)
theorem setQueue_quiet (s : State) (h : Hatch) (q : List Nat) : Quiet s (s.setQueue h q) := setStore_quiet _ _ (by rfl)
theorem setBin_quiet (s : State) (b : BinNo) (r : Bin) : Quiet s (s.setBin b r) := setStore_quiet _ _ (by rfl)
theorem setCarousel_quiet (s : State) (c : Carousel) : Quiet s (s.setCarousel c) := setStore_quiet _ _ (by rfl)
theorem setPosition_quiet (s : State) (p : Option BinNo) : Quiet s (s.setPosition p) := setStore_quiet _ _ (by rfl)
theorem setCalibration_quiet (s : State) (h : Hatch) (c : Calibration) : Quiet s (s.setCalibration h c) :=
  setTables_quiet _ _ (by rfl)
theorem modEntry_quiet (s : State) (n : Nat) (f : Entry → Entry) : Quiet s (s.modEntry n f) := setJournal_quiet _ _ (by rfl)

/-! ## Flags, counters, mitigation -/

theorem trigger_quiet (s : State) (c : Cause) : Quiet s (s.trigger c) := setOffice_quiet _ _
theorem latch_quiet (s : State) (f : Flag) : Quiet s (s.latch f) := setOffice_quiet _ _
theorem raise_quiet (s : State) (f : Flag) : Quiet s (s.raise f) :=
  .ite (.refl s) (.ite (latch_quiet s f) ((latch_quiet s f).trans (trigger_quiet _ _)))
theorem countRefusal_quiet (s : State) (r : Refuse) : Quiet s (s.countRefusal r) := setOffice_quiet _ _
theorem countCancel_quiet (s : State) (c : Cancel) : Quiet s (s.countCancel c) := setOffice_quiet _ _
theorem startTimer_quiet (s : State) : Quiet s s.startTimer := .ite (setOffice_quiet _ _) (.refl s)
theorem countTriggers_quiet (s : State) : Quiet s s.countTriggers :=
  .ite (.ite (trigger_quiet _ _) (.refl s)) (.ite (trigger_quiet _ _) (.refl s))
theorem noteCommit_quiet (s : State) : Quiet s s.noteCommit :=
  (setOffice_quiet s _).trans ((startTimer_quiet _).trans (countTriggers_quiet _))

/-! ## Near marks, intake, cover, journal, store -/

theorem evalCover_quiet (s : State) : Quiet s s.evalCover :=
  .ite ((setNear_quiet s _).trans (raise_quiet _ _)) (setNear_quiet s _)
theorem evalJournal_quiet (s : State) : Quiet s s.evalJournal :=
  .ite ((setJournal_quiet s _ (by rfl)).trans (raise_quiet _ _)) (setJournal_quiet s _ (by rfl))
theorem evalStore_quiet (s : State) : Quiet s s.evalStore :=
  .ite ((setStore_quiet s _ (by rfl)).trans (raise_quiet _ _)) (setStore_quiet s _ (by rfl))

theorem cancelAwaiting_quiet (s : State) (h : Hatch) : Quiet s (s.cancelAwaiting h) := by
  unfold cancelAwaiting
  split
  · next e =>
    exact ((setDrop_quiet s h .idle (by simp [e]) (by simp [e, Drop.holds])).trans (countCancel_quiet _ _)).trans
      (showAt_quiet _ _ _)
  · exact .refl s

theorem evalIntake_quiet (s : State) : Quiet s s.evalIntake := by
  have k := (setIntake_quiet s { s.intake with state := s.intakeTarget }).trans (trigger_quiet _ .intake)
  exact .ite (.refl s) (.ite (k.trans (Quiet.foldl cancelAwaiting_quiet _ _)) k)

theorem rollover_quiet (s : State) : Quiet s s.rollover := setCounts_quiet _ _
theorem evalWindow_quiet (s : State) : Quiet s s.evalWindow :=
  .ite ((setIntake_quiet s _).trans (rollover_quiet _)) (setIntake_quiet s _)
theorem evalTime_quiet (s : State) : Quiet s s.evalTime := (evalWindow_quiet s).trans (evalIntake_quiet _)

theorem reconcileCover_quiet (s : State) (d : Nat) : Quiet s (s.reconcileCover d) :=
  Quiet.trans (t := s.setCover { s.cover with committed := s.cover.committed - d })
    ⟨rfl, rfl, rfl, fun _ => rfl, fun _ => rfl, fun _ e => e, fun b => by
      simp only [CoverBound, setCover_cover, setCover_tables] at *; omega⟩
    (evalCover_quiet _)

theorem strandEntry_quiet (s : State) (n : Nat) : Quiet s (s.strandEntry n) :=
  (modEntry_quiet s n _).trans (raise_quiet _ _)
theorem epochWrite_quiet (s : State) : Quiet s s.epochWrite := .ite (setTableStore_quiet _ _) (.refl s)
theorem wrapWrite_quiet (s : State) : Quiet s s.wrapWrite := .ite (setTableStore_quiet _ _) (.refl s)
theorem advanceNumber_quiet (s : State) : Quiet s s.advanceNumber :=
  .ite ((setJournal_quiet s _ (by rfl)).trans (wrapWrite_quiet _)) (setJournal_quiet s _ (by rfl))
theorem releasePlace_quiet (s : State) (n : Nat) : Quiet s (s.releasePlace n) := by
  unfold releasePlace
  split
  · exact .refl s
  · split
    · exact .refl s
    · exact setBin_quiet _ _ _
theorem releasePending_quiet (s : State) (n : Nat) : Quiet s (s.releasePending n) :=
  (releasePlace_quiet s n).trans (evalStore_quiet _)
theorem countBag_quiet (s : State) (t : Snapshot) (d : Nat) : Quiet s (s.countBag t d) :=
  .ite (setCounts_quiet _ _) (.refl s)

/-! ## Carousel -/

theorem deliver_quiet (s : State) (g : Grant) (b : BinNo) : Quiet s (s.deliver g b) :=
  (modPort_quiet s _ _ (by intro; rfl) (by intro; rfl)).trans (setCarousel_quiet _ _)
theorem grantTo_quiet (s : State) (h : Hatch) : Quiet s (s.grantTo h) := by
  unfold grantTo
  split
  · exact .refl s
  · exact .ite ((setStore_quiet s _ (by rfl)).trans (deliver_quiet _ _ _))
      ((setStore_quiet s _ (by rfl)).trans (setCarousel_quiet _ _))
theorem arbiter_quiet (s : State) : Quiet s s.arbiter := by
  unfold arbiter
  split
  · split
    · exact grantTo_quiet _ _
    · exact .refl s
  · exact .refl s
theorem enterIdle_quiet (s : State) : Quiet s s.enterIdle := (setCarousel_quiet s _).trans (arbiter_quiet _)
theorem endMove_quiet (s : State) (b : BinNo) (g : Option Grant) : Quiet s (s.endMove b g) := by
  unfold endMove
  split
  · exact enterIdle_quiet s
  · exact .ite (deliver_quiet _ _ _) (enterIdle_quiet s)
theorem startHoming_quiet (s : State) : Quiet s s.startHoming := (setPosition_quiet s _).trans (setCarousel_quiet _ _)
theorem popQueue_quiet (s : State) (h : Hatch) : Quiet s (s.popQueue h) := setQueue_quiet _ _ _
theorem fileBag_quiet (s : State) (g : Grant) (b : BinNo) : Quiet s (s.fileBag g b) :=
  ((((modEntry_quiet s _ _).trans (setBin_quiet _ _ _)).trans (popQueue_quiet _ _)).trans
    (setPosition_quiet _ _)).trans (enterIdle_quiet _)
theorem withdrawGrant_quiet (s : State) (h : Hatch) : Quiet s (s.withdrawGrant h) := by
  unfold withdrawGrant
  split
  · exact .ite (enterIdle_quiet s) (.refl s)
  · exact .ite (setCarousel_quiet _ _) (.refl s)
  · exact .ite (setCarousel_quiet _ _) (.refl s)
  · exact .refl s
theorem strandFromTray_quiet (s : State) (n : Nat) : Quiet s (s.strandFromTray n) :=
  (strandEntry_quiet s n).trans (releasePending_quiet _ _)
theorem failVerification_quiet (s : State) (h : Hatch) : Quiet s (s.failVerification h) :=
  (((((Quiet.foldl strandFromTray_quiet _ s).trans (setQueue_quiet _ _ _)).trans
    (modPort_quiet _ _ _ (by intro; rfl) (by intro; rfl))).trans (raise_quiet _ _)).trans (evalIntake_quiet _)).trans
    (withdrawGrant_quiet _ _)
theorem baselineRelease_quiet (s : State) (h : Hatch) (c : BitVec 8) : Quiet s (s.baselineRelease h c) :=
  .ite (modPort_quiet s h _ (by intro; rfl) (by intro; rfl))
    ((modPort_quiet s h _ (by intro; rfl) (by intro; rfl)).trans (arbiter_quiet _))

/-! ## Drop machine and hatch port -/

theorem refuse_quiet (s : State) (h : Hatch) (r : Refuse) : Quiet s (s.refuse h r) :=
  (countRefusal_quiet s r).trans (showAt_quiet _ _ _)
theorem receiptAt_quiet (s : State) (h : Hatch) (n : Nat) : Quiet s (s.receiptAt h n) := by
  unfold receiptAt
  split
  · exact modPort_quiet _ _ _ (by intro; rfl) (by intro; rfl)
  · exact .refl s
theorem captureZero_quiet (s : State) (h : Hatch) (r : HeadReport) : Quiet s (s.captureZero h r) := by
  have k := modPort_quiet s h (fun p => { p with zeroArmed := false }) (by intro; rfl) (by intro; rfl)
  exact .ite (.ite (k.trans (setCalibration_quiet _ _ _)) (k.trans (raise_quiet _ _))) (.refl s)
theorem countBad_quiet (s : State) (h : Hatch) : Quiet s (s.countBad h) :=
  modPort_quiet _ _ _ (by intro; rfl) (by intro; rfl)
theorem abandonFrame_quiet (s : State) (h : Hatch) (b : Bool) : Quiet s (s.abandonFrame h b) :=
  .ite (countBad_quiet _ _) (.refl s)
theorem sendPoll_quiet (s : State) (h : Hatch) : Quiet s (s.sendPoll h) :=
  modPort_quiet _ _ _ (by intro; rfl) (by intro; rfl)

/-! ## Office port -/

theorem answer_quiet (s : State) (c : Nat) (r : Result) (d : List Byte) : Quiet s (s.answer c r d) := setOffice_quiet _ _
theorem answerBusy_quiet (s : State) (c : Nat) : Quiet s (s.answerBusy c) := setOffice_quiet _ _
theorem pump_quiet (s : State) : Quiet s s.pump := by
  unfold pump
  split <;> first | exact .refl s | exact setOffice_quiet _ _

end State

end Sys2Proof.Machine
end

