-- ==== Sys2Proof/Tests/Slice0.lean ====
section
/-! SUPPORT. Tests. Expected results come from the spec: its worked cases, its check values and its rules, named
in each docstring. The witnesses show, for each obligation with hypotheses, states and operands that meet
them. -/

namespace Sys2Proof.Tests

open Sys2Proof Sys2Proof.Machine

/-! ## Small states -/

/-- The state that a command leaves. -/
def after (c : Instr) (s : State) : State :=
  match exec c s with
  | .next t => t
  | .fault _ => s
  | .refused _ => s

/-- The machine after reset with its start-up notice sent: nothing waits and the transmitter is free. -/
def quiet : State := State.reset.setOffice { State.reset.office with transmitter := none, flags := 0 }

/-- The machine after reset with a frame in transmission. -/
def sending : State := quiet.setOffice { quiet.office with transmitter := some (.reply ⟨0x01, .ok, []⟩) }

/-- Hatch 1's port changed. -/
def atPort (f : Port → Port) : State := quiet.modPort .h1 f

/-- The carousel in a state, at a position. -/
def atCarousel (c : Carousel) (p : Option BinNo) : State := (quiet.setCarousel c).setPosition p

/-- A report of an empty hatch but for what is given. -/
def report (flap : Flap) (bag stable : Bool) (raw : Int) (arrival release : BitVec 8) : HeadReport :=
  ⟨flap, bag, stable, raw, arrival, release, 0, false, false, false, none, none⟩

/-- An enrolment of token 300, home bin 7. -/
def enrolment : DepositorEntry := ⟨300, 12345678, .active, 1, 7, 15, 99999999⟩

def snap : Snapshot := ⟨176, enrolment, 0, 0⟩

/-- What the declaration of spec 2.10.1 records. -/
def decl : Declared := ⟨7150000000, 1, [⟨3, 45⟩, ⟨4, 30⟩, ⟨9, 60⟩, ⟨10, 25⟩], 126500, 763, 30, false⟩

/-- Hatch 1 UP after its baseline, its drop machine in a state. -/
def atDrop (d : Drop) : State :=
  atPort fun p =>
    { p with
      link := .up, caps := ⟨true, true, true, true⟩, window := some 15
      snapshot := some (report .shutLocked false true 0 17 0), release := some ⟨0, 0⟩, drop := d }

def opened (flapOpened past : Bool) (deadline : Option Nat) : State :=
  atDrop (.opened snap decl flapOpened past deadline)

/-- A journal entry of the worked bag. -/
def entry (n : Nat) (st : EntryState) (b : Option BinNo) : Entry where
  number := n
  epoch := 1
  created := ⟨4, 70000⟩
  hatch := .h1
  slot := 176
  token := 300
  reference := 12345678
  serial := 7150000000
  bagClass := 1
  lines := [⟨3, 45⟩, ⟨4, 30⟩, ⟨9, 60⟩, ⟨10, 25⟩]
  total := 126500
  expected := 763
  mass := some 770
  verdict := some .accepted
  reasons := Reasons.empty
  route := Route.empty
  bin := b
  state := st
  binned := none

/-- A state with the entries given. -/
def withEntries (s : State) (es : List Entry) : State := s.setJournal { s.journal with entries := es }

/-! ## The check unit (spec 2.10) -/

/-- The tables of spec 2.10.1 and 2.10.2. -/
def massTables : Tables :=
  { Tables.defaults with
    denoms :=
      ((((Tables.defaults.denoms.put 3 (.note 2000 1000)).put 4 (.note 1000 1000)).put 9 (.coin 100 8750)).put 10
        (.coin 20 5000)).put 14 (.coin 200 20000)
    tares := (Tables.defaults.tares.put 1 38).put 3 100
    fixedPart := 15
    perMille := 20 }

def massState : State := quiet.setTables massTables

def lines : List Line := [⟨3, 45⟩, ⟨4, 30⟩, ⟨9, 60⟩, ⟨10, 25⟩]

/-- 2.10.1: the bag passes its format and total checks, E = 763 g and T = 30 g. -/
theorem test_worked_bag :
    massState.formatOk ⟨7150000000, 1, lines, 126500⟩ = true ∧ massState.linesTotal lines = 126500
      ∧ massState.expectedMass ⟨7150000000, 1, lines, 126500⟩ = 763 ∧ massState.tolerance 763 = 30 := by
  decide

/-- 2.10.1: raw 41,230 gives W = 770 g, no reason and ACCEPTED. -/
theorem test_worked_weight :
    Machine.measure ⟨1230, 1262, 200⟩ 41230 = (770, false)
      ∧ verdictOf (weighedReasons decl 770 false) = .accepted := by
  decide

/-- 2.10.2: an index named twice, a count of 0, a VOID denomination and seven lines fail the format check. -/
theorem test_format_refusals :
    massState.formatOk ⟨1, 1, [⟨3, 45⟩, ⟨3, 30⟩, ⟨9, 60⟩, ⟨10, 25⟩], 126500⟩ = false
      ∧ massState.formatOk ⟨1, 1, [⟨3, 45⟩, ⟨4, 30⟩, ⟨9, 0⟩, ⟨10, 25⟩], 126500⟩ = false
      ∧ massState.formatOk ⟨1, 1, lines ++ [⟨12, 5⟩], 126500⟩ = false
      ∧ massState.formatOk ⟨1, 1, [⟨3, 1⟩, ⟨4, 1⟩, ⟨9, 1⟩, ⟨10, 1⟩, ⟨14, 1⟩, ⟨14, 1⟩, ⟨14, 1⟩], 1⟩ = false := by
  decide

/-- 2.10.2: 1,000 coins of 20 g weigh 20,100 g with the bag, 995 of them 20,000 g. -/
theorem test_mass_limit :
    massState.expectedMass ⟨1, 3, [⟨14, 1000⟩], 200000⟩ = 20100
      ∧ massState.expectedMass ⟨1, 3, [⟨14, 995⟩], 199000⟩ = 20000 := by
  decide

/-- 2.10.3: half a gram per count. -/
theorem test_rounding :
    Machine.measure ⟨0, 32768, 0⟩ 1 = (1, false) ∧ Machine.measure ⟨0, 32768, 0⟩ (-1) = (0, false)
      ∧ Machine.measure ⟨0, 32768, 0⟩ 2 = (1, false) ∧ Machine.measure ⟨0, 32768, 0⟩ 3 = (2, false)
      ∧ Machine.measure ⟨0, 32767, 0⟩ 1 = (0, false) ∧ Machine.measure ⟨1230, 1262, 0⟩ (-5000) = (0, false) := by
  decide

/-- 2.10.4: the threshold of saturation and the largest product. -/
theorem test_saturation :
    Machine.measure ⟨0, 1262, 0⟩ 1038631 = (20000, false) ∧ Machine.measure ⟨0, 1262, 0⟩ 1038632 = (20000, true)
      ∧ Machine.measure ⟨-8388608, 65535, 0⟩ 8388607 = (20000, true) := by
  decide

/-- 2.10.4: with E = 12 and T = 20 the band runs from 0 to 32. -/
theorem test_lower_bound :
    weighedReasons { decl with expected := 12, tolerance := 20 } 0 false = Reasons.empty
      ∧ weighedReasons { decl with expected := 12, tolerance := 20 } 32 false = Reasons.empty
      ∧ (weighedReasons { decl with expected := 12, tolerance := 20 } 33 false).high = true := by
  decide

/-- 3.6.1: the range list in each mode. -/
def screened (m : ScreenMode) : State :=
  quiet.setTables
    { Tables.defaults with
      screenMode := m
      ranges := [⟨1000000, 1999999⟩, ⟨2999000000, 2999999999⟩, ⟨1500000, 1500099⟩]
      suspectMap := (Tab.fill 1021 false).put 406 true }

theorem test_range_list :
    (screened .revoke).rangeTest 2999698406 = some .tagRevoked ∧ (screened .issue).rangeTest 2999698406 = none
      ∧ (screened .revoke).rangeTest 1427 = none ∧ (screened .issue).rangeTest 1427 = some .tagNotIssued
      ∧ (screened .off).rangeTest 1500050 = none ∧ (screened .revoke).rangeTest 1500050 = some .tagRevoked := by
  decide

/-- 3.6.1: the serials fall on positions 406, 406 and 302. -/
theorem test_suspect_positions :
    (screened .off).suspectAt 2999698406 = true ∧ (screened .off).suspectAt 1427 = true
      ∧ (screened .off).suspectAt 7150000000 = false := by
  decide

/-! ## The depositor table (spec 4.7.1) -/

/-- The enrolment of a token. -/
def enrol (token : Nat) : Instr := .depositorPut (.fits ⟨token, 1, 0, 0, 0, 1, 1⟩)

/-- The result and data of the reply in transmission. -/
def replied (s : State) : Option (Result × List Byte) :=
  match s.office.transmitter with
  | some (.reply r) => some (r.result, r.data)
  | _ => none

/-- Bucket 44 with its four ways taken by 300, 428, 556 and 684. -/
def fullBucket : State :=
  quiet.setTables
    { Tables.defaults with
      depositors :=
        ((((Tab.fill 512 none).put 176 (some { enrolment with token := 300 })).put 177
          (some { enrolment with token := 428 })).put 178 (some { enrolment with token := 556 })).put 179
          (some { enrolment with token := 684 }) }

theorem test_depositor_put :
    replied (after (enrol 300) quiet) = some (.ok, [0, 176])
      ∧ replied (after (enrol 812) fullBucket) = some (.full, []) := by
  decide

theorem test_depositor_drop :
    replied (after (.depositorDrop (.fits 428)) fullBucket) = some (.ok, [0, 177])
      ∧ (after (.depositorDrop (.fits 428)) fullBucket).lookup 428 = none := by
  decide

/-! ## Schedule windows (spec 8.6) -/

def night : Window := ⟨1020, 180, 0b0111111#7⟩

theorem test_window_across_midnight :
    night.contains ⟨5, 61199⟩ = false ∧ night.contains ⟨5, 61200⟩ = true ∧ night.contains ⟨5, 86399⟩ = true
      ∧ night.contains ⟨6, 0⟩ = true ∧ night.contains ⟨6, 5400⟩ = true ∧ night.contains ⟨6, 10800⟩ = false
      ∧ night.contains ⟨6, 63000⟩ = false ∧ night.contains ⟨0, 3000⟩ = false ∧ night.contains ⟨0, 61200⟩ = true := by
  decide

theorem test_window_of_a_whole_day :
    (Window.contains ⟨600, 600, 0b0000001#7⟩ ⟨0, 36000⟩) = true
      ∧ (Window.contains ⟨600, 600, 0b0000001#7⟩ ⟨1, 35999⟩) = true
      ∧ (Window.contains ⟨600, 600, 0b0000001#7⟩ ⟨1, 36000⟩) = false := by
  decide

/-! ## Bin assignment (spec 7.12) -/

def fullBin : Bin := ⟨.full, List.range 12, 0, 9000, 0⟩

def lateBins : State :=
  quiet.setStore
    { quiet.store with
      bins :=
        ((((Tab.fill 30 fullBin).put 0 ⟨.full, List.range 23, 1, 9400, 0⟩).put 3
          ⟨.opened, List.range 10, 0, 15200, 0⟩).put 7 ⟨.opened, List.range 9, 2, 14100, 0⟩).put 12
          ⟨.opened, List.range 11, 0, 16050, 0⟩ }

theorem test_assignment_at_the_edges :
    lateBins.freePlaces = 4 ∧ lateBins.chooseAccepted 7 = some (7, ⟨false, false⟩)
      ∧ (lateBins.setBin 7 fullBin).chooseAccepted 0 = some (3, ⟨false, true⟩)
      ∧ (lateBins.setBin 7 fullBin).chooseQuarantined = some (3, ⟨true, true⟩)
      ∧ ((lateBins.setBin 7 fullBin).setBin 3 fullBin).chooseAccepted 0 = some (12, ⟨false, true⟩) := by
  decide

/-! ## Checks of frames (R192) -/

theorem test_crc16_check_value : crc16 [0x31, 0x32, 0x33, 0x34, 0x35, 0x36, 0x37, 0x38, 0x39] = 0x29B1#16 := by
  decide +kernel

theorem test_crc8_check_value : crc8 [0x31, 0x32, 0x33, 0x34, 0x35, 0x36, 0x37, 0x38, 0x39] = 0xF4#8 := by
  decide +kernel

/-- R195: the first bit stands in bit 7 of the first byte, the next in bit 6, and unused bits are 0. -/
theorem test_packed_bits :
    packBits 2 [true, false, false, false, false, false, false, false, false, true] = [0x80, 0x40]
      ∧ unpackBits [0x80] = [true, false, false, false, false, false, false, false]
      ∧ unpackBits [0x01] = [false, false, false, false, false, false, false, true] := by
  decide

/-! ## Well-formed commands: each check refuses an ill-formed one -/

theorem test_wellformed_single_fields :
    (Instr.hatchRead (.fits 256)).wellFormed = false ∧ (Instr.alertClear (.fits (2 ^ 32))).wellFormed = false
      ∧ (Instr.alertMask (.fits (2 ^ 32))).wellFormed = false
      ∧ (Instr.depositorDrop (.fits (2 ^ 32))).wellFormed = false
      ∧ (Instr.depositorRead (.fits (2 ^ 32))).wellFormed = false ∧ (Instr.screenMode (.fits 256)).wellFormed = false
      ∧ (Instr.screenRead (.fits 256)).wellFormed = false ∧ (Instr.mapRead (.fits 65536)).wellFormed = false
      ∧ (Instr.coverSet (.fits (2 ^ 32))).wellFormed = false
      ∧ (Instr.journalResolve (.fits (2 ^ 32))).wellFormed = false ∧ (Instr.binClear (.fits 256)).wellFormed = false
      ∧ (Instr.binWithdraw (.fits 256)).wellFormed = false ∧ (Instr.binRestore (.fits 256)).wellFormed = false
      ∧ (Instr.binRead (.fits 256)).wellFormed = false ∧ (Instr.hatchRelink (.fits 256)).wellFormed = false
      ∧ (Instr.hatchClear (.fits 256)).wellFormed = false := by
  decide

theorem test_wellformed_several_fields :
    (Instr.noticeSet (.fits ⟨256, 0⟩)).wellFormed = false ∧ (Instr.noticeSet (.fits ⟨0, 65536⟩)).wellFormed = false
      ∧ (Instr.setClock (.fits ⟨256, 0⟩)).wellFormed = false ∧ (Instr.setClock (.fits ⟨0, 2 ^ 24⟩)).wellFormed = false
      ∧ (Instr.schedulePut (.fits ⟨256, 0, 0, 0⟩)).wellFormed = false
      ∧ (Instr.schedulePut (.fits ⟨0, 65536, 0, 0⟩)).wellFormed = false
      ∧ (Instr.schedulePut (.fits ⟨0, 0, 65536, 0⟩)).wellFormed = false
      ∧ (Instr.schedulePut (.fits ⟨0, 0, 0, 256⟩)).wellFormed = false
      ∧ (Instr.depositorState (.fits ⟨2 ^ 32, 0⟩)).wellFormed = false
      ∧ (Instr.depositorState (.fits ⟨1, 256⟩)).wellFormed = false
      ∧ (Instr.denomPut (.fits ⟨256, 0, 1, 1⟩)).wellFormed = false
      ∧ (Instr.denomPut (.fits ⟨0, 256, 1, 1⟩)).wellFormed = false
      ∧ (Instr.denomPut (.fits ⟨0, 0, 65536, 1⟩)).wellFormed = false
      ∧ (Instr.denomPut (.fits ⟨0, 0, 1, 65536⟩)).wellFormed = false
      ∧ (Instr.tarePut (.fits ⟨256, 0⟩)).wellFormed = false ∧ (Instr.tarePut (.fits ⟨0, 65536⟩)).wellFormed = false
      ∧ (Instr.toleranceSet (.fits ⟨65536, 0⟩)).wellFormed = false
      ∧ (Instr.toleranceSet (.fits ⟨0, 256⟩)).wellFormed = false
      ∧ (Instr.screenRangeAdd (.fits ⟨2 ^ 40, 0⟩)).wellFormed = false
      ∧ (Instr.screenRangeAdd (.fits ⟨0, 2 ^ 40⟩)).wellFormed = false
      ∧ (Instr.mapWindow (.fits ⟨65536, 0⟩)).wellFormed = false
      ∧ (Instr.mapWindow (.fits ⟨0, 65536⟩)).wellFormed = false
      ∧ (Instr.journalRead (.fits ⟨2 ^ 32, 1⟩)).wellFormed = false
      ∧ (Instr.journalRead (.fits ⟨1, 256⟩)).wellFormed = false
      ∧ (Instr.hatchShow (.fits ⟨256, 32⟩)).wellFormed = false
      ∧ (Instr.hatchShow (.fits ⟨1, 256⟩)).wellFormed = false := by
  decide

theorem test_wellformed_many_fields :
    (Instr.depositorPut (.fits ⟨2 ^ 32, 0, 0, 0, 0, 1, 1⟩)).wellFormed = false
      ∧ (Instr.depositorPut (.fits ⟨1, 2 ^ 32, 0, 0, 0, 1, 1⟩)).wellFormed = false
      ∧ (Instr.depositorPut (.fits ⟨1, 0, 256, 0, 0, 1, 1⟩)).wellFormed = false
      ∧ (Instr.depositorPut (.fits ⟨1, 0, 0, 256, 0, 1, 1⟩)).wellFormed = false
      ∧ (Instr.depositorPut (.fits ⟨1, 0, 0, 0, 256, 1, 1⟩)).wellFormed = false
      ∧ (Instr.depositorPut (.fits ⟨1, 0, 0, 0, 0, 256, 1⟩)).wellFormed = false
      ∧ (Instr.depositorPut (.fits ⟨1, 0, 0, 0, 0, 1, 2 ^ 32⟩)).wellFormed = false
      ∧ (Instr.hatchConfig (.fits ⟨256, 1, 1, 3, 4, 0, 1⟩)).wellFormed = false
      ∧ (Instr.hatchConfig (.fits ⟨1, 256, 1, 3, 4, 0, 1⟩)).wellFormed = false
      ∧ (Instr.hatchConfig (.fits ⟨1, 1, 256, 3, 4, 0, 1⟩)).wellFormed = false
      ∧ (Instr.hatchConfig (.fits ⟨1, 1, 1, 256, 4, 0, 1⟩)).wellFormed = false
      ∧ (Instr.hatchConfig (.fits ⟨1, 1, 1, 3, 256, 0, 1⟩)).wellFormed = false
      ∧ (Instr.hatchConfig (.fits ⟨1, 1, 1, 3, 4, 256, 1⟩)).wellFormed = false
      ∧ (Instr.hatchConfig (.fits ⟨1, 1, 1, 3, 4, 0, 256⟩)).wellFormed = false
      ∧ (Instr.hatchCalibrate (.fits ⟨256, 0, 1, 0⟩)).wellFormed = false
      ∧ (Instr.hatchCalibrate (.fits ⟨1, 8388608, 1, 0⟩)).wellFormed = false
      ∧ (Instr.hatchCalibrate (.fits ⟨1, -8388609, 1, 0⟩)).wellFormed = false
      ∧ (Instr.hatchCalibrate (.fits ⟨1, 0, 65536, 0⟩)).wellFormed = false
      ∧ (Instr.hatchCalibrate (.fits ⟨1, 0, 1, 65536⟩)).wellFormed = false
      ∧ (Instr.startUp ⟨0, .baud19200, true, .completes, []⟩).wellFormed = false
      ∧ (Instr.startUp ⟨5, .baud19200, true, .completes, []⟩).wellFormed = false
      ∧ (Instr.startUp ⟨4, .baud19200, true, .completes, [(0, .clockAdvance)]⟩).wellFormed = false
      ∧ (Instr.startUp ⟨4, .baud19200, true, .completes, [(6, .home), (7, .home)]⟩).wellFormed = false := by
  decide

/-- Bytes kept as a misfit must fit no layout; a frame holds at most 250 bytes of length (R168, R170). -/
theorem test_wellformed_bytes :
    (Instr.statusRead (.misfit [])).wellFormed = false ∧ (Instr.hatchRead (.misfit [1])).wellFormed = false
      ∧ (Instr.statusRead (.misfit (List.replicate 249 0))).wellFormed = false
      ∧ (Instr.mapWrite (.fits ⟨65536, []⟩)).wellFormed = false
      ∧ (Instr.mapWrite (.fits ⟨8, List.replicate 247 0⟩)).wellFormed = false
      ∧ (Instr.mapWrite (.misfit [0, 8])).wellFormed = false ∧ (Instr.unknownCommand [0x01]).wellFormed = false
      ∧ (Instr.unknownCommand (List.replicate 250 0x7F)).wellFormed = false := by
  decide +kernel

/-- A report as a frame cannot carry it. -/
def badReport (f : HeadReport → HeadReport) : Instr := .report .h1 false (f (report .opened false false 0 0 0))

def withDeclaration (d : Declaration) : Instr := badReport fun r => { r with declaration := some d }

theorem test_wellformed_head_frames :
    (badReport fun r => { r with raw := 8388608 }).wellFormed = false
      ∧ (badReport fun r => { r with raw := -8388609 }).wellFormed = false
      ∧ (badReport fun r => { r with trayCount := 4 }).wellFormed = false
      ∧ (badReport fun r => { r with token := some (2 ^ 32) }).wellFormed = false
      ∧ (withDeclaration ⟨2 ^ 40, 0, [], 0⟩).wellFormed = false ∧ (withDeclaration ⟨0, 256, [], 0⟩).wellFormed = false
      ∧ (withDeclaration ⟨0, 0, [], 2 ^ 32⟩).wellFormed = false
      ∧ (withDeclaration ⟨0, 0, [⟨256, 0⟩], 0⟩).wellFormed = false
      ∧ (withDeclaration ⟨0, 0, [⟨0, 65536⟩], 0⟩).wellFormed = false
      ∧ (withDeclaration ⟨0, 0, List.replicate 14 ⟨0, 0⟩, 0⟩).wellFormed = false
      ∧ (badReport fun r =>
          { r with token := some 1, declaration := some ⟨0, 0, List.replicate 13 ⟨0, 0⟩, 0⟩ }).wellFormed = false
      ∧ (Instr.answer .h1 false ⟨⟨true, true, true, true⟩, 0, 0⟩).wellFormed = false
      ∧ (Instr.answer .h1 false ⟨⟨true, true, true, true⟩, 4, 0⟩).wellFormed = false
      ∧ (Instr.answer .h1 false ⟨⟨true, true, true, true⟩, 3, 4⟩).wellFormed = false
      ∧ (Instr.complementedFrame .h1 (.answer ⟨⟨true, true, true, true⟩, 4, 0⟩)).wellFormed = false
      ∧ (Instr.complementedFrame .h1 (.report { report .opened false false 0 0 0 with trayCount := 4 })).wellFormed
        = false := by
  decide

/-! ## Reset (R186 to R190) -/

/-- A machine without power, with leftovers everywhere and both stores bad. -/
def cold : State :=
  { State.reset with
    mainsGood := false
    straps := ⟨1, .baud19200⟩
    counts := Tab.fill 512 ⟨3, 5, some 7⟩
    cover := ⟨9, 9, false⟩
    journal := ⟨[entry 4 .inChute none], 5, 4, 77, 1, true⟩
    intake := ⟨some ⟨6, 86399⟩, 1000, true, true, .running⟩
    ports := PerHatch.all { State.reset.ports.h1 with link := .up, inverted := true, drop := .fault, streak := 2 } }

/-- Start-up at which both stores fail their checks gives the machine after reset. -/
theorem test_startup_gives_reset : after (.startUp ⟨4, .baud115200, false, .completes, []⟩) cold = State.reset := by
  decide +kernel

/-! ## Witnesses: states and operands that meet the hypotheses of each obligation -/

theorem ready_quiet : quiet.Ready := ⟨rfl, rfl, fun _ => ⟨rfl, rfl⟩⟩

theorem settled_quiet : quiet.Settled := ⟨rfl, fun _ => ⟨rfl, rfl⟩⟩

theorem test_meets_NothingIsTakenWithoutPower :
    (quiet.setMainsGood false).running = false ∧ (quiet.setResetReleased false).running = false := by
  decide

/-- Hatch 1 in OPEN with its four holds, the cover at its limit, and a command in front. -/
def held : State :=
  let s := opened false false (some 60000)
  { s with
    tables := { s.tables with limit := 126500 }
    cover := ⟨0, 126500, true⟩
    journal := { s.journal with slotHolds := 1 }
    store := { s.store with holds := 1 }
    pending := [.openTimeout .h1] }

theorem sound_held : held.Sound :=
  ⟨by intro h; cases h <;> decide, by unfold State.HoldsAgree; decide, by unfold State.CoverBound; decide⟩

theorem test_meets_EveryStepKeepsTheAccountsSound : held.Sound ∧ ∃ t, step held = .next t := ⟨sound_held, _, rfl⟩

/-- The ring with its last place held. -/
def lastPlace : State := withEntries held (List.replicate 511 (entry 9 .binned (some 3)))

theorem test_meets_EveryStepKeepsTheJournalWithinItsPlaces :
    lastPlace.Sound ∧ lastPlace.JournalFits ∧ ∃ t, step lastPlace = .next t :=
  ⟨sound_held, by unfold State.JournalFits; decide +kernel, _, rfl⟩

theorem test_meets_EveryStepLeavesNothingWaitingForAFreeTransmitter : held.NothingWaits ∧ ∃ t, step held = .next t :=
  ⟨fun _ => ⟨rfl, rfl⟩, _, rfl⟩

/-- The access window at the end of the map, the pointer at its last position. -/
def edge : MapAccess := ⟨1018, 1020, 1020⟩

theorem inside_edge : edge.Inside := by unfold MapAccess.Inside; decide

theorem test_meets_EveryStepKeepsTheMapPointerInside :
    (held.setMapAccess edge).mapAccess.Inside ∧ ∃ t, step (held.setMapAccess edge) = .next t := ⟨inside_edge, _, rfl⟩

/-- SET_CLOCK(Sunday, 86,399) as its body by Table 12-1, and a body one byte short. -/
theorem test_meets_RequestBodiesReadBack :
    ((Instr.setClock (.fits ⟨6, 86399⟩)).wellFormed = true
        ∧ encodeRequest (.setClock (.fits ⟨6, 86399⟩)) = some [0x10, 6, 0x01, 0x51, 0x7F])
      ∧ (Instr.setClock (.misfit [6, 1, 0x51])).wellFormed = true
      ∧ encodeRequest (.setClock (.misfit [6, 1, 0x51])) = some [0x10, 6, 1, 0x51] := by
  decide

theorem test_meets_HeadBodiesAndFramesReadBack :
    (report .opened true false (-8388608) 255 0).wellFormed = true
      ∧ (HeadAnswer.wellFormed ⟨⟨true, true, false, true⟩, 3, 3⟩) = true
      ∧ (List.replicate 249 (0 : Byte)).length ≤ 249 ∧ 61 < (62 : Byte).toNat
      ∧ (List.replicate 63 (0 : Byte)).length = 63 := by
  decide +kernel

/-- A check that differs, a kind that no head sends, a body that no REPORT has; on the office line a check
that differs, and a kind that is no request with the check that agrees. -/
theorem test_meets_bad_frames :
    (0 ≠ crc8 (covered reportKind [0]) ∧ readReport [0] = none ∧ (List.replicate 60 (0 : Byte)).length ≤ 60)
      ∧ (0x7F ≠ reportKind ∧ 0x7F ≠ answerKind)
      ∧ [0, 0] ≠ bytesOf 2 (crc16 (covered requestKind [])).toNat
      ∧ 0x7F ≠ requestKind ∧ ∃ c1 c0, [c1, c0] = bytesOf 2 (crc16 (covered 0x7F [])).toNat :=
  ⟨by decide +kernel, by decide, by decide +kernel, by decide, _, _, rfl⟩

theorem test_meets_RequestWhileTheHandIsOccupiedIsBusy :
    let s := sending.setOffice { sending.office with hand := some .replying }
    encodeRequest (.hatchRead (.fits 1)) = some [0x02, 1] ∧ s.Settled ∧ s.office.hand ≠ none :=
  ⟨by decide, ⟨rfl, fun h => by cases h⟩, by decide⟩

theorem test_meets_RequestThatFitsNoLayoutIsRefused :
    encodeRequest (.hatchRead (.misfit [])) = some [0x02] ∧ (Instr.hatchRead (.misfit [])).misfits = true
      ∧ quiet.Ready :=
  ⟨by decide, by decide, ready_quiet⟩

theorem test_meets_ReadsAnswerAndChangeNothing :
    quiet.Ready ∧ ((0 : Nat) = 0 ∨ 4 < (0 : Nat)) ∧ ((5 : Nat) = 0 ∨ 4 < (5 : Nat)) ∧ (30 : Nat) ≤ 30 :=
  ⟨ready_quiet, by decide, by decide, by decide⟩

/-- One state is Ready and Settled for each obligation that asks no more. -/
theorem test_meets_requests :
    quiet.Ready ∧ quiet.Settled ∧ sending.Ready :=
  ⟨ready_quiet, settled_quiet, rfl, rfl, fun h => by cases h⟩

def idleTimer : State := quiet.setOffice { quiet.office with timer := some ⟨0, 30000⟩ }

theorem test_meets_TransmitEndBeginsTheNextFrame :
    (sending.running = true ∧ sending.office.transmitter = some (.reply ⟨0x01, .ok, []⟩)
        ∧ sending.office.hand ≠ some .resetSending)
      ∧ quiet.Settled ∧ quiet.office.transmitter = none :=
  ⟨by decide, settled_quiet, rfl⟩

theorem test_meets_CommitsAndTheirTimerMakeNotices :
    (idleTimer.Settled ∧ idleTimer.office.timer = some ⟨0, 30000⟩ ∧ idleTimer.office.transmitter = none)
      ∧ (quiet.Settled ∧ quiet.office.timer = none)
      ∧ (sending.setOffice { sending.office with timer := some ⟨0, 30000⟩ }).office.transmitter
        = some (.reply ⟨0x01, .ok, []⟩) :=
  ⟨⟨⟨rfl, fun _ => ⟨rfl, rfl⟩⟩, rfl, rfl⟩, ⟨settled_quiet, rfl⟩, rfl⟩

theorem test_meets_ResetStepsRestartTheOperation :
    let s := held.setOffice { sending.office with hand := some .resetSending }
    s.Sound ∧ s.running = true ∧ s.office.hand = some .resetSending
      ∧ s.office.transmitter = some (.reply ⟨0x01, .ok, []⟩) :=
  ⟨sound_held, rfl, rfl, rfl⟩

def clocked : State := quiet.setIntake { quiet.intake with clock := some ⟨6, 86399⟩ }

/-- CLOCK_ADVANCE at the week's end, and while the clock is UNSET. -/
theorem test_meets_ClockRequestsAndAdvances :
    (quiet.Ready ∧ clocked.running = true ∧ clocked.intake.clock = some ⟨6, 86399⟩ ∧ quiet.intake.clock = none)
      ∧ nextTime ⟨6, 86399⟩ = ⟨0, 0⟩ :=
  ⟨⟨ready_quiet, rfl, rfl, rfl⟩, by decide⟩

/-- A rise of window 0: Monday to Saturday from 17:00, Saturday 61,200 s, the mark clear. -/
theorem test_meets_SchedulePutAndRollover :
    let s := (clocked.setTables { Tables.defaults with windows := Tables.defaults.windows.put 0 night }).setIntake
      { quiet.intake with clock := some ⟨5, 61200⟩ }
    s.Ready ∧ s.inWindow 0 = true ∧ s.intake.windowMark = false :=
  ⟨⟨rfl, rfl, fun _ => ⟨rfl, rfl⟩⟩, by decide, rfl⟩

theorem test_meets_WindowContainsAnInstant :
    ((⟨180, 1020, 127⟩ : Window).start < (⟨180, 1020, 127⟩ : Window).stop) ∧ night.stop ≤ night.start
      ∧ (⟨600, 600, 0⟩ : Window).mask = 0 ∧ clocked.intake.clock = some ⟨6, 86399⟩ ∧ quiet.intake.clock = none := by
  decide

/-- Intake RUNNING with the enable set and the clock UNSET, and STOPPED likewise. -/
def leaving : State :=
  (atDrop (.awaitDecl snap 30000)).setIntake { quiet.intake with enable := true, state := .running }

def entering : State := quiet.setIntake { quiet.intake with enable := true, state := .stopped }

theorem test_meets_IntakeFollowsItsInputs :
    (leaving.intakeTarget ≠ leaving.intake.state
        ∧ State.leavesIntake leaving.intake.state leaving.intakeTarget = true
        ∧ ∀ k, (leaving.drop k).code = 2 ↔ k = .h1)
      ∧ (entering.intakeTarget ≠ entering.intake.state
        ∧ State.leavesIntake entering.intake.state entering.intakeTarget = false
        ∧ ∀ h, (entering.drop h).code ≠ 2) :=
  ⟨⟨by decide, by decide, by intro k; cases k <;> decide⟩, by decide, by decide, by intro k; cases k <;> decide⟩

theorem test_meets_IntakeStartAndStop :
    (entering.Ready ∧ entering.intake.enable = true) ∧ quiet.Ready ∧ quiet.intake.enable = false :=
  ⟨⟨⟨rfl, rfl, fun _ => ⟨rfl, rfl⟩⟩, rfl⟩, ready_quiet, rfl⟩

/-- Spec 4.7.1: token 684 in way 3 of bucket 44, and 812 in none. -/
theorem test_meets_LookupTakesTheFirstWayOfTheBucket :
    (fullBucket.lookup 684).map (fun x => x.1) = some 179 ∧ fullBucket.lookup 812 = none
      ∧ (176 : Fin 512).val / 4 = 684 % 128 ∧ (176 : Fin 512).val < (179 : Fin 512).val := by
  decide

theorem test_meets_DepositorRequests :
    quiet.freeSlot 300 = some 176 ∧ fullBucket.freeSlot 812 = none ∧ fullBucket.Ready :=
  ⟨by decide, by decide, rfl, rfl, fun _ => ⟨rfl, rfl⟩⟩

theorem test_meets_MapBitsPassRoundTheWindow :
    edge.Inside ∧ edge.first + (edge.pointer - edge.first + 0) % (edge.last - edge.first + 1) = (1020 : Fin 1021).val
      ∧ edge.first + (edge.pointer - edge.first + 1) % (edge.last - edge.first + 1) = (1018 : Fin 1021).val
      ∧ 1 < [true, false].length :=
  ⟨inside_edge, by decide, by decide, by decide⟩

/-- Three entries: 40 stranded, 41 filed in bin 7, 42 in the tray. -/
def threeEntries : State :=
  withEntries quiet [entry 40 .stranded none, entry 41 .binned (some 7), entry 42 .inTray (some 7)]

theorem ready_three : threeEntries.Ready := ⟨rfl, rfl, fun _ => ⟨rfl, rfl⟩⟩

theorem test_meets_JournalResolveReconcilesOneEntry :
    threeEntries.Ready ∧ (∀ e ∈ threeEntries.journal.entries, e.number ≠ 43)
      ∧ threeEntries.findEntry 40 = some (entry 40 .stranded none)
      ∧ threeEntries.findEntry 41 = some (entry 41 .binned (some 7))
      ∧ threeEntries.findEntry 42 = some (entry 42 .inTray (some 7)) :=
  ⟨ready_three, by decide, by decide, by decide, by decide⟩

theorem test_meets_JournalReleaseFreesTheOldestReconciled :
    let s := withEntries quiet ([entry 40 .reconciled none] ++ [entry 41 .binned (some 7)])
    s.Ready ∧ (∀ e ∈ [entry 40 .reconciled none], e.state = .reconciled)
      ∧ ∀ e, [entry 41 .binned (some 7)].head? = some e → e.state ≠ .reconciled :=
  ⟨⟨rfl, rfl, fun _ => ⟨rfl, rfl⟩⟩, by decide, by intro e h; cases h; decide⟩

/-- Bin 7 ready to be counted out, and with a bag on its way. -/
def binReady : State := threeEntries.setBin 7 ⟨.opened, [41], 0, 770, 126500⟩

def binPending : State := threeEntries.setBin 7 ⟨.opened, [41], 1, 1540, 253000⟩

theorem test_meets_BinClearCountsABinOut :
    (binReady.Ready ∧ binReady.intake.state = .stopped ∧ (binReady.bin 7).pending = 0
        ∧ ∀ g release deadline, binReady.store.carousel ≠ .delivering g 7 release deadline)
      ∧ binPending.Ready ∧ (binPending.bin 7).pending ≠ 0 :=
  ⟨⟨⟨rfl, rfl, fun _ => ⟨rfl, rfl⟩⟩, rfl, by decide, by intro g r d h; cases h⟩,
    ⟨rfl, rfl, fun _ => ⟨rfl, rfl⟩⟩, by decide⟩

theorem test_meets_BinWithdrawAndRestore : binReady.Ready ∧ (30 : Nat) ≤ 30 :=
  ⟨⟨rfl, rfl, fun _ => ⟨rfl, rfl⟩⟩, by decide⟩

/-- A bin takes one more bag. -/
def fits (s : State) (b : BinNo) : Bool :=
  decide ((s.bin b).state = .opened ∧ (s.bin b).arrived.length + (s.bin b).pending < (if b = 0 then 24 else 12))

/-- Spec 7.12: the light home bin 7; then bin 3 or 12 over the preference; then bin 0 alone. -/
def noSeven : State := lateBins.setBin 7 fullBin

/-- Only bin 0 takes bags. -/
def onlyZero : State :=
  (lateBins.setStore { lateBins.store with bins := (Tab.fill 30 fullBin).put 0 ⟨.opened, [], 0, 0, 0⟩ })

theorem test_meets_BagIsAssignedByTheOrderOfCandidates :
    (fits lateBins 7 = true ∧ (lateBins.bin 7).mass < 15000 ∧ ∀ c < (7 : BinNo), c ≠ 0 → fits lateBins c = true →
        ¬(lateBins.bin c).mass < 15000)
      ∧ (∀ b : BinNo, b ≠ 0 → fits noSeven b = true → ¬(noSeven.bin b).mass < 15000)
      ∧ (fits noSeven 3 = true ∧ fits noSeven 0 = false ∧ ∀ c < (3 : BinNo), c ≠ 0 → fits noSeven c = false)
      ∧ fits onlyZero 0 = true ∧ ∀ b : BinNo, b ≠ 0 → fits onlyZero b = false := by
  decide +kernel

/-- Hatches 1 and 2 UP with a bag each, hatch 2 pressed, the carousel IDLE at bin 7. -/
def competing : State :=
  let up (n : Nat) (q : Port) : Port := { q with link := .up, depth := n, release := some ⟨0, 0⟩ }
  let s := withEntries (((atCarousel .idle (some 7)).modPort .h1 (up 3)).modPort .h2 (up 1))
    [entry 41 .inTray (some 3), entry 42 .inTray (some 7)]
  (s.setQueue .h1 [41]).setQueue .h2 [42]

theorem test_meets_ArbiterServesInTurnThePressedFirst :
    (competing.arbiterChoice = some .h2 ∧ competing.store.carousel = .idle ∧ competing.store.doorOpen = false
        ∧ competing.queue .h2 = [42] ∧ competing.store.position = some (competing.binOfEntry 42)
        ∧ (competing.port .h2).release = some ⟨0, 0⟩)
      ∧ (competing.setQueue .h2 []).arbiterChoice = some .h1 ∧ (competing.setQueue .h2 []).queue .h1 = [41]
      ∧ (competing.setQueue .h2 []).store.position ≠ some ((competing.setQueue .h2 []).binOfEntry 41)
      ∧ quiet.arbiterChoice = none := by
  decide

theorem settled_carousel (c : Carousel) (p : Option BinNo) : (atCarousel c p).Settled := ⟨rfl, fun _ => ⟨rfl, rfl⟩⟩

/-- Every carousel state of the obligations on homing, positions and timeouts. -/
theorem test_meets_HomingAndItsEnd :
    (atCarousel (.homing 40000) none).Settled ∧ (atCarousel (.moving 7 none 25000) none).Settled
      ∧ (atCarousel (.haltedMove 7 none) (some 3)).Settled ∧ quiet.Ready :=
  ⟨settled_carousel _ _, settled_carousel _ _, settled_carousel _ _, ready_quiet⟩

/-- DELIVERING for hatch 1's head of queue at bin 7, release target 1. -/
def delivering : State :=
  ((withEntries (atCarousel (.delivering ⟨.h1, 42⟩ 7 1 8000) (some 7)) [entry 42 .inTray (some 7)]).setQueue .h1
    [42]).setIntake { quiet.intake with clock := some ⟨5, 61200⟩ }

theorem settled_delivering : delivering.Settled := ⟨rfl, fun _ => ⟨rfl, rfl⟩⟩

theorem test_meets_PositionReports :
    (delivering.Settled ∧ (6 : BinNo) ≠ 7 ∧ entry 42 .inTray (some 7) ∈ delivering.journal.entries
        ∧ delivering.findEntry 42 = some (entry 42 .inTray (some 7)))
      ∧ (atCarousel .idle (some 7)).Settled ∧ (atCarousel .fault none).Settled :=
  ⟨⟨settled_delivering, by decide, by decide, by decide⟩, settled_carousel _ _, settled_carousel _ _⟩

/-- The release counts of hatch 1 while it delivers, short of the target and at it. -/
def counted (seen : BitVec 8) : State := delivering.modPort .h1 fun p => { p with release := some ⟨seen, 1⟩ }

theorem test_meets_DeliveriesEnd :
    (delivering.Settled ∧ delivering.store.carousel = .delivering ⟨.h1, 42⟩ 7 1 8000
        ∧ delivering.intake.clock = some ⟨5, 61200⟩)
      ∧ quiet.store.carousel.code ≠ 5
      ∧ ((counted 0).store.carousel = .delivering ⟨.h1, 42⟩ 7 1 8000
        ∧ ((counted 0).port .h1).release = some ⟨0, 1⟩ ∧ (0 : BitVec 8) ≠ 1)
      ∧ ((counted 1).port .h1).release = some ⟨1, 1⟩ ∧ (delivering.port .h1).release = none :=
  ⟨⟨settled_delivering, rfl, rfl⟩, by decide, ⟨rfl, rfl, by decide⟩, rfl, rfl⟩

/-- DELIVERING for a hatch that tips its next bag, short of the release target: the hatch is blamed. -/
theorem test_meets_blamed_deliveries :
    let s := delivering.modPort .h1 fun p =>
      { p with release := some ⟨0, 1⟩, drop := .tipping snap decl 43 18 5000 }
    s.running = true ∧ s.store.carousel = .delivering ⟨.h1, 42⟩ 7 1 8000
      ∧ s.drop .h1 = .tipping snap decl 43 18 5000 ∧ (s.port .h1).release = some ⟨0, 1⟩
      ∧ (0 : BitVec 8) ≠ 1 ∧ (6 : BinNo) ≠ 7 := by
  decide

theorem test_meets_InnerDoor :
    (quiet.Settled ∧ quiet.store.doorOpen = false)
      ∧ (quiet.setStore { quiet.store with doorOpen := true }).Settled :=
  ⟨⟨settled_quiet, rfl⟩, rfl, fun _ => ⟨rfl, rfl⟩⟩

theorem test_meets_FailedTrayVerificationEmptiesTheQueue :
    delivering.queue .h1 ≠ [] ∧ delivering.trayAgrees .h1 0 = true ∧ delivering.trayAgrees .h1 1 = true
      ∧ delivering.trayAgrees .h1 2 = false ∧ delivering.findEntry 42 = some (entry 42 .inTray (some 7)) := by
  decide

/-- Last seen 255, allowed 1: two steps ahead are in order, a third is not. -/
def wrapping : State := atPort fun p => { p with release := some ⟨255, 1⟩ }

theorem test_meets_ReleaseCountsJudgeAnAdvance :
    ((wrapping.port .h1).release = some ⟨255, 1⟩ ∧ 0 < 2 ∧ 2 ≤ ((1 : BitVec 8) - 255).toNat
        ∧ (1 : BitVec 8) = 255 + BitVec.ofNat 8 2 ∧ ((1 : BitVec 8) - 255).toNat < ((2 : BitVec 8) - 255).toNat)
      ∧ ((quiet.port .h1).release = none ∧ quiet.queue .h1 = [] ∧ quiet.deliveringFor .h1 = false)
      ∧ (delivering.queue .h1 = [42] ∧ delivering.store.carousel = .delivering ⟨.h1, 42⟩ 7 1 8000)
      ∧ competing.queue .h2 = [42]
      ∧ ∀ n b target deadline, competing.store.carousel ≠ .delivering ⟨.h2, n⟩ b target deadline :=
  ⟨by decide, by decide, by decide, by decide, by intro n b t d h; cases h⟩

def storing : State := quiet.setOffice { quiet.office with hand := some (.storing Tables.defaults) }

theorem test_meets_StoreAndLoadTables :
    (storing.Settled ∧ storing.office.hand = some (.storing Tables.defaults))
      ∧ (quiet.Settled ∧ ∀ copy, quiet.office.hand ≠ some (.storing copy))
      ∧ (entering.Ready ∧ (entering.setIntake { entering.intake with state := .running }).intake.state ≠ .stopped)
      ∧ (quiet.Ready ∧ quiet.intake.state = .stopped ∧ quiet.tableStore.good = false)
      ∧ (quiet.setTableStore { quiet.tableStore with good := true }).tableStore.good = true
      ∧ (quiet.setTableStore { quiet.tableStore with good := true }).tableStore.tables.configs.get .h1
        = quiet.config .h1
      ∧ (quiet.setTables { quiet.tables with configs := PerHatch.all ⟨false, true, 3, 4, .none, true⟩ }).config .h1
        ≠ quiet.tableStore.tables.configs.get .h1 ∧ Hatch.h1.num ≤ quiet.straps.hatches
      ∧ (idleTimer.office.timer = some ⟨0, 30000⟩ ∧ ∀ h, (quiet.drop h).inFlight = false) :=
  ⟨⟨⟨rfl, fun _ => ⟨rfl, rfl⟩⟩, rfl⟩, ⟨settled_quiet, by intro c h; cases h⟩,
    ⟨⟨rfl, rfl, fun _ => ⟨rfl, rfl⟩⟩, by decide⟩, ⟨ready_quiet, rfl, rfl⟩, rfl, rfl, by decide, by decide, rfl,
    by intro h; cases h <;> rfl⟩

theorem settled_port (f : Port → Port) : (atPort f).Settled := ⟨rfl, fun _ => ⟨rfl, rfl⟩⟩

/-- UP between polls; UP with the window open and two misses; HOLD_OFF; EXCHANGE. -/
theorem test_meets_PollsMissesAndOffers :
    ((atPort fun p => { p with link := .up }).Settled ∧ ((atPort fun p => { p with link := .up }).port .h1).window = none)
      ∧ ((atPort fun p => { p with link := .up, window := some 15, misses := 2 }).Settled
        ∧ ((atPort fun p => { p with link := .up, window := some 15, misses := 2 }).port .h1).window = some 15)
      ∧ ((quiet.port .h1).link = .holdOff 1500 ∧ (atPort fun p => { p with link := .exchange 1600 }).Settled) :=
  ⟨⟨settled_port _, rfl⟩, ⟨settled_port _, rfl⟩, rfl, settled_port _⟩

theorem test_meets_PollCommandsFollowTheState :
    (((opened false false (some 60000)).drop .h1).code = 3
        ∧ ((opened false false (some 60000)).port .h1).snapshot.map HeadReport.flap = some .shutLocked
        ∧ ((opened false false (some 60000)).port .h1).receiptDue = none
        ∧ ((opened false false (some 60000)).port .h1).showDue = none)
      ∧ PollCommand.unlock ∈ (opened false false (some 60000)).pollCommands .h1
      ∧ PollCommand.tip 18 ∈ (atDrop (.tipping snap decl 42 18 5000)).pollCommands .h1
      ∧ PollCommand.consume true false true
        ∈ ((atDrop .idle).modPort .h1 fun p =>
          { p with
            snapshot := some { report .shutLocked false true 0 17 0 with token := some 300, tamper := true }
            takenToken := some 300 }).pollCommands .h1 := by
  decide

theorem test_meets_AnswerBringsTheLinkUp :
    (atPort fun p => { p with link := .exchange 1600 }).Settled ∧ (atPort fun p => { p with link := .up }).Settled
      ∧ quiet.Settled :=
  ⟨settled_port _, settled_port _, settled_quiet⟩

theorem plain (d : Drop) (flap : Flap) (bag stable : Bool) (raw : Int) (arrival : BitVec 8) :
    (atDrop d).QuietReport .h1 (report flap bag stable raw arrival 0) :=
  ⟨⟨rfl, fun _ => ⟨rfl, rfl⟩⟩, rfl, rfl, rfl, rfl, rfl, rfl, rfl, _, rfl, rfl⟩

/-- A quiet report with a token or a declaration. -/
theorem plain_latched (d : Drop) (t : Option Nat) (x : Option Declaration) :
    (atDrop d).QuietReport .h1 { report .shutLocked false true 0 17 0 with token := t, declaration := x } :=
  ⟨⟨rfl, fun _ => ⟨rfl, rfl⟩⟩, rfl, rfl, rfl, rfl, rfl, rfl, rfl, _, rfl, rfl⟩

/-- IDLE with a flap forced, OPEN, WEIGHING, TIPPING, a token in IDLE and a declaration in AWAIT_DECL. -/
theorem test_meets_ReportIsTakenByTheDropState :
    ((atDrop .idle).QuietReport .h1 (report .opened false true 0 17 0) ∧ ((atDrop .idle).drop .h1).code = 1)
      ∧ ((opened true false (some 60000)).QuietReport .h1 (report .shutUnlocked true false 0 17 0)
        ∧ (opened true false (some 60000)).drop .h1 = .opened snap decl true false (some 60000))
      ∧ (atDrop (.weighing snap decl 42 4000)).QuietReport .h1 (report .shutLocked true true 41230 17 0)
      ∧ (atDrop (.tipping snap decl 42 18 5000)).QuietReport .h1 (report .shutLocked false true 0 18 0)
      ∧ (atDrop .idle).QuietReport .h1
        { report .shutLocked false true 0 17 0 with token := some 300, declaration := none }
      ∧ (atDrop (.awaitDecl snap 30000)).QuietReport .h1
        { report .shutLocked false true 0 17 0 with
          token := none, declaration := some ⟨7150000000, 1, lines, 126500⟩ } :=
  ⟨⟨plain _ _ _ _ _ _, rfl⟩, ⟨plain _ _ _ _ _ _, rfl⟩, plain _ _ _ _ _ _, plain _ _ _ _ _ _,
    plain_latched _ _ _, plain_latched _ _ _⟩

/-- Hatch 1 UP with its zero capture armed, its drop machine in a state. -/
def armed (d : Drop) : State := (atDrop d).modPort .h1 fun p => { p with zeroArmed := true }

/-- An armed zero in IDLE and TIPPING meets a stable empty report at the edge of the band and one beyond it. -/
theorem test_meets_zero_capture :
    ((armed .idle).QuietReport .h1 (report .shutLocked false true 200 17 0)
        ∧ ((armed .idle).port .h1).zeroArmed = true ∧ ((armed .idle).drop .h1).code = 1
        ∧ ((armed .idle).calibration .h1).band = 200)
      ∧ (armed .idle).QuietReport .h1 (report .shutLocked false true (-201) 17 0)
      ∧ (armed (.tipping snap decl 42 18 5000)).QuietReport .h1 (report .shutLocked false true 0 17 0)
      ∧ ((atDrop .idle).port .h1).zeroArmed = false ∧ ((atDrop .fault).drop .h1).code = 6 :=
  ⟨⟨⟨⟨rfl, fun _ => ⟨rfl, rfl⟩⟩, rfl, rfl, rfl, rfl, rfl, rfl, rfl, _, rfl, rfl⟩, rfl, by decide, rfl⟩,
    ⟨⟨rfl, fun _ => ⟨rfl, rfl⟩⟩, rfl, rfl, rfl, rfl, rfl, rfl, rfl, _, rfl, rfl⟩,
    ⟨⟨rfl, fun _ => ⟨rfl, rfl⟩⟩, rfl, rfl, rfl, rfl, rfl, rfl, rfl, _, rfl, rfl⟩, rfl, by decide⟩

/-- A token, and a declaration, that arrive in AWAIT_DECL, OPEN, WEIGHING, TIPPING and FAULT. -/
theorem test_meets_latched_fields_in_every_state (d : Drop) :
    (atDrop d).QuietReport .h1 { report .shutLocked false true 0 17 0 with token := some 301, declaration := none }
      ∧ (atDrop d).QuietReport .h1
        { report .shutLocked false true 0 17 0 with
          token := none, declaration := some ⟨7150000000, 1, lines, 126500⟩ }
      ∧ (some 301 ≠ ((atDrop d).port .h1).takenToken
        ∧ some ⟨7150000000, 1, lines, 126500⟩ ≠ ((atDrop d).port .h1).takenDecl) :=
  ⟨plain_latched d _ _, plain_latched d _ _, Option.some_ne_none _, Option.some_ne_none _⟩

theorem test_meets_OtherEventsAtAPort :
    (quiet.Settled ∧ (quiet.port .h1).link.code = 1)
      ∧ (atPort fun p => { p with link := .exchange 1600, streak := 2 }).Settled
      ∧ ((atPort fun p => { p with link := .exchange 1600, streak := 2 }).port .h1).link.code = 2 :=
  ⟨⟨settled_quiet, by decide⟩, settled_port _, by decide⟩

theorem test_meets_DropTimeouts :
    ((atDrop (.awaitDecl snap 30000)).Settled ∧ (atDrop (.awaitDecl snap 30000)).drop .h1 = .awaitDecl snap 30000)
      ∧ (opened false false (some 60000)).drop .h1 = .opened snap decl false false (some 60000)
      ∧ (opened true false (some 60000)).drop .h1 = .opened snap decl true false (some 60000)
      ∧ ((atDrop (.weighing snap decl 42 4000)).drop .h1 = .weighing snap decl 42 4000
        ∧ ((atDrop (.weighing snap decl 42 4000)).port .h1).snapshot = some (report .shutLocked false true 0 17 0))
      ∧ (atDrop (.tipping snap decl 42 18 5000)).drop .h1 = .tipping snap decl 42 18 5000
      ∧ (opened true true none).drop .h1 = .opened snap decl true true none
      ∧ (quiet.Settled ∧ (quiet.drop .h1).code = 0) :=
  ⟨⟨settled_port _, rfl⟩, rfl, rfl, ⟨rfl, rfl⟩, rfl, rfl, settled_quiet, by decide⟩

/-- The last number of the 32-bit range, at which the epoch advances, and a good table store. -/
def lastNumber : State :=
  (clocked.setJournal { quiet.journal with next := 4294967295 }).setTableStore { quiet.tableStore with good := true }

theorem test_meets_HoldsArePlacedAndCommitted :
    (clocked.intake.clock = some ⟨6, 86399⟩ ∧ clocked.journal.next ≠ 4294967295)
      ∧ lastNumber.intake.clock = some ⟨6, 86399⟩ ∧ lastNumber.journal.next = 4294967295
      ∧ (lastNumber.tableStore.good = true ∧ lastNumber.storing = false)
      ∧ clocked.tableStore.good = false := by
  decide

theorem test_meets_VerdictAndArrival : threeEntries.findEntry 42 = some (entry 42 .inTray (some 7)) := by decide

theorem test_meets_FaultsAndLinkLossEndTransactions :
    ((atDrop (.awaitDecl snap 30000)).drop .h1).code = 2 ∧ ((opened false false none).drop .h1).code = 3
      ∧ ((atDrop (.weighing snap decl 42 4000)).drop .h1).code ≠ 3
      ∧ threeEntries.findEntry 42 = some (entry 42 .inTray (some 7))
      ∧ (entry 42 .inTray (some 7)).bin = some 7 := by
  decide

/-- One count below Z, and Z itself. -/
theorem test_meets_MeasuredMassIsRoundedAndClamped :
    (1229 : Int) < (⟨1230, 1262, 200⟩ : Calibration).zero ∧ (⟨1230, 1262, 200⟩ : Calibration).zero ≤ 1230 := by
  decide

/-- The state of spec 2.10.1 with room and cover: C = D, bins open, intake RUNNING. -/
def running : State :=
  let s := (atDrop .idle).setTables
    { massTables with limit := 126500, depositors := (Tab.fill 512 none).put 176 (some enrolment) }
  (s.setStore { s.store with bins := Tab.fill 30 ⟨.opened, [], 0, 0, 0⟩ }).setIntake
    { quiet.intake with enable := true, state := .running }

theorem test_meets_TokensAndDeclarationsMeetTheirChecks :
    (running.formatOk ⟨7150000000, 1, lines, 126500⟩ = true ∧ running.linesTotal lines = 126500
        ∧ running.repeats .h1 7150000000 = false ∧ running.valueTonight snap + 126500 ≤ snap.entry.maxValue
        ∧ running.cover.committed + running.cover.held + 126500 ≤ running.tables.limit
        ∧ running.journalRoom ≠ 0 ∧ running.storeRoom ≠ 0)
      ∧ (running.formatOk ⟨7150000000, 1, [], 126500⟩ = false ∧ running.linesTotal lines ≠ 126400)
      ∧ (running.intake.state = .running ∧ running.inService .h1 = true
        ∧ (running.queue .h1).length ≠ (running.port .h1).depth ∧ running.lookup 300 = some (176, enrolment)
        ∧ enrolment.state = .active ∧ running.inService .h2 = false)
      ∧ quiet.intake.state = .stopped := by
  decide +kernel

/-- A state of the worked bag with one thing changed. -/
def runningBut (f : Tables → Tables) : State := running.setTables (f running.tables)

/-- Each refusal of a declaration at a value where it is the first to fail: a bag over 20,000 g, the serial in
a revoked range or outside the issued ones, a serial in the journal, a value limit and a cover one unit short,
no journal room, no store room. -/
theorem test_meets_declaration_refusals :
    (massState.formatOk ⟨1, 3, [⟨14, 1000⟩], 200000⟩ = true ∧ massState.linesTotal [⟨14, 1000⟩] = 200000
        ∧ 20000 < (massState.expectedMg ⟨1, 3, [⟨14, 1000⟩], 200000⟩ + 500) / 1000)
      ∧ ((runningBut fun t =>
            { t with screenMode := .revoke, ranges := [⟨7150000000, 7150000000⟩] }).rangeTest 7150000000
          = some .tagRevoked
        ∧ (runningBut fun t => { t with screenMode := .issue }).rangeTest 7150000000 = some .tagNotIssued)
      ∧ (withEntries running [entry 5 .binned (some 3)]).repeats .h1 7150000000 = true
      ∧ enrolment.maxValue
        < (running.setCounts (Tab.fill 512 ⟨1, 99873500, some 300⟩)).valueTonight snap + 126500
      ∧ (running.setCover ⟨0, 1, false⟩).tables.limit < 0 + 1 + 126500
      ∧ (running.setJournal { running.journal with slotHolds := 512 }).journalRoom = 0
      ∧ (running.setStore { running.store with bins := Tab.fill 30 fullBin }).storeRoom = 0 := by
  decide +kernel

/-- A full tray, a token of 0 and one that no slot holds, a suspended depositor, a token at another hatch, a
sixteenth bag. -/
theorem test_meets_token_refusals :
    let full := (running.modPort .h1 fun p => { p with depth := 1 }).setQueue .h1 [41]
    let suspended := runningBut fun t =>
      { t with depositors := (Tab.fill 512 none).put 176 (some { enrolment with state := .suspended }) }
    ((full.queue .h1).length = (full.port .h1).depth ∧ full.inService .h1 = true)
      ∧ (running.lookup 0 = none ∧ running.lookup 301 = none)
      ∧ (suspended.lookup 300).map (fun x => x.2.state) = some .suspended
      ∧ (running.modPort .h2 fun p => { p with drop := .awaitDecl snap 30000 }).busyWith .h2 300 = true
      ∧ enrolment.maxBags < ((running.setCounts (Tab.fill 512 ⟨15, 0, some 300⟩)).counts.get 176).bags + 1 := by
  decide +kernel

theorem test_meets_HatchConfigReplacesAndRestarts :
    quiet.Ready ∧ (1 : Nat) = Hatch.h1.num ∧ (1 : Nat) ≤ 3 ∧ (31 : Nat) ≤ 31 ∧ (32 : Nat) > 31
      ∧ ((opened false false none).drop .h1).code = 3 ∧ (quiet.drop .h1).code = 0 :=
  ⟨ready_quiet, by decide, by decide, by decide, by decide, by decide, by decide⟩

theorem test_meets_CalibrateRelinkAndShow :
    quiet.Ready ∧ ((4 : Nat) = Hatch.h4.num ∧ (-8388608 : Int) ≤ 8388607 ∧ (8388607 : Int) < 8388608)
      ∧ (quiet.port .h1).link.code = 1 ∧ ((atPort fun p => { p with link := .disabled }).port .h1).link = .disabled
      ∧ ((atDrop .idle).port .h1).link = .up :=
  ⟨ready_quiet, by decide, by decide, rfl, rfl⟩

theorem test_meets_HatchClearReturnsToService :
    ((atDrop .fault).Ready ∧ ((atDrop .fault).drop .h1).code = 6 ∧ ((atDrop .fault).port .h1).link = .up
        ∧ ((atDrop .fault).port .h1).snapshot = some (report .shutLocked false true 0 17 0))
      ∧ quiet.Ready ∧ (quiet.drop .h1).code ≠ 6 :=
  ⟨⟨⟨rfl, rfl, fun _ => ⟨rfl, rfl⟩⟩, by decide, rfl, rfl⟩, ready_quiet, by decide⟩

theorem test_meets_PowerFailSilencesTheController :
    (quiet.running = true ∧ (quiet.setMainsGood false).running = false)
      ∧ (quiet.setTableStore ⟨true, Tables.defaults, 3, true⟩).tableStore.writing = true := by
  decide

theorem test_meets_StartUpRebuildsFromTheStores :
    (⟨4, .baud19200, false, .cutInEpochWrite, []⟩ : StartUpArgs).ending ≠ .completes
      ∧ (⟨4, .baud19200, false, .cutBeforeEpochWrite, []⟩ : StartUpArgs).retainedIntact = false
      ∧ (⟨4, .baud19200, true, .completes, []⟩ : StartUpArgs).ending = .completes
      ∧ (quiet.setTableStore { quiet.tableStore with good := true }).tableStore.good = true
      ∧ (quiet.setTableStore { quiet.tableStore with good := true }).storing = false := by
  decide

/-! ## One drop, step by step (spec 1.14 and 2.10.1, told at hatch 1) -/

/-- Intake RUNNING on Saturday at 61,200 s, with the worked depositor, calibration and cover. -/
def evening (d : Drop) : State :=
  let s := (atDrop d).setTables
    { massTables with
      limit := 5000000
      windows := Tab.fill 8 night
      depositors := (Tab.fill 512 none).put 176 (some enrolment)
      calibrations := PerHatch.all ⟨1230, 1262, 200⟩ }
  { s with
    store := { s.store with bins := Tab.fill 30 ⟨.opened, [], 0, 0, 0⟩ }
    cover := ⟨1200000, 0, false⟩
    journal := { s.journal with next := 1042 }
    intake := ⟨some ⟨5, 61200⟩, 1000, true, true, .running⟩ }

/-- The worked bag in OPEN, with its holds. -/
def eveningOpen : State :=
  let s := evening (.opened snap decl true false (some 60000))
  { s with
    cover := { s.cover with held := 126500 }
    journal := { s.journal with slotHolds := 1 }
    store := { s.store with holds := 1 } }

theorem test_token_is_accepted :
    let t := after (.report .h1 false { report .shutLocked false true 0 17 0 with token := some 300 }) (evening .idle)
    t.drop .h1 = .awaitDecl snap 30000 ∧ (t.port .h1).showDue = some 24 := by
  decide +kernel

theorem test_declaration_places_the_holds :
    let t := after
      (.report .h1 false
        { report .shutLocked false true 0 17 0 with declaration := some ⟨7150000000, 1, lines, 126500⟩ })
      (evening (.awaitDecl snap 30000))
    t.drop .h1 = .opened snap decl false false (some 60000) ∧ t.cover = ⟨1200000, 126500, false⟩
      ∧ t.journal.slotHolds = 1 ∧ t.store.holds = 1 := by
  decide +kernel

theorem test_closing_on_a_bag_commits_it :
    let t := after (.report .h1 false (report .shutUnlocked true false 0 17 0)) eveningOpen
    t.drop .h1 = .weighing snap decl 1042 4000 ∧ t.cover = ⟨1326500, 0, false⟩ ∧ t.journal.slotHolds = 0
      ∧ t.journal.last = 1042 ∧ t.journal.entries.map (fun e => (e.number, e.state, e.created)) = [(1042, .inChute, ⟨5, 61200⟩)]
      ∧ t.counts.get 176 = ⟨1, 126500, none⟩ := by
  decide +kernel

theorem test_stable_plate_weighs_the_bag :
    let s := evening (.weighing snap decl 1042 4000)
    let t := after (.report .h1 false (report .shutLocked true true 41230 17 0))
      (withEntries s [{ entry 1042 .inChute none with mass := none, verdict := none }])
    t.drop .h1 = .tipping snap decl 1042 18 5000 ∧ t.journal.entries = [entry 1042 .inChute (some 7)]
      ∧ t.bin 7 = ⟨.opened, [], 1, 770, 126500⟩ := by
  decide +kernel

theorem test_arrival_queues_the_bag :
    let s := (evening (.tipping snap decl 1042 18 5000)).modPort .h1 fun p => { p with depth := 3 }
    let t := after (.report .h1 false (report .shutLocked false true 1230 18 0))
      (withEntries s [entry 1042 .inChute (some 7)])
    t.drop .h1 = .idle ∧ t.queue .h1 = [1042] ∧ (t.port .h1).showDue = some 29 ∧ (t.port .h1).zeroArmed = true := by
  decide +kernel

/-- Spec 2.10.1: the next stable empty report moves Z to 1,310; at 1,500 it latches ZERO_DRIFT. -/
theorem test_zero_capture :
    let s := (evening .idle).modPort .h1 fun p => { p with zeroArmed := true }
    ((after (.report .h1 false (report .shutLocked false true 1310 17 0)) s).calibration .h1).zero = 1310
      ∧ ((after (.report .h1 false (report .shutLocked false true 1500 17 0)) s).calibration .h1).zero = 1230
      ∧ (after (.report .h1 false (report .shutLocked false true 1500 17 0)) s).latched .zeroDrift = true := by
  decide +kernel

/-! ## Other single steps -/

/-- Spec 8.6: the advance to Saturday 61,200 s raises window 0 and rolls the night over. -/
theorem test_night_rolls_over :
    let s := (evening .idle).setIntake ⟨some ⟨5, 61199⟩, 1000, false, true, .closed⟩
    let t := after .clockAdvance (s.setCounts (Tab.fill 512 ⟨4, 900, some 300⟩))
    t.intake.state = .running ∧ t.intake.windowMark = true ∧ t.counts.get 176 = ⟨0, 0, some 300⟩ := by
  decide +kernel

/-- Spec 11.6: at start-up an entry IN_CHUTE is stranded and its pending place released; S stays. -/
theorem test_startup_strands_what_was_in_the_chute :
    let s := withEntries quiet [entry 2309 .inChute (some 4), entry 2310 .inChute none]
    let t := after (.startUp ⟨4, .baud115200, true, .completes, []⟩)
      ((s.setCover ⟨1840000, 80000, false⟩).setBin 4 ⟨.opened, [], 1, 770, 126500⟩)
    t.journal.entries.map Entry.state = [.stranded, .stranded] ∧ t.bin 4 = ⟨.opened, [], 0, 0, 0⟩
      ∧ t.cover.committed = 1840000 ∧ t.cover.held = 0 ∧ t.latched .stranded = true
      ∧ t.latched .powerRestart = true := by
  decide +kernel

/-- R99, R183, R187: a power fail within the epoch write of a wrap leaves the table store bad; one outside it
leaves the epoch stored. -/
theorem test_wrap_may_be_cut :
    let t := lastNumber.commit .h1 snap decl
    t.journal.epoch = 2 ∧ (after (.powerFail true) t).tableStore.good = false
      ∧ (after (.powerFail false) t).tableStore = { lastNumber.tableStore with epoch := 2 } := by
  decide +kernel

/-- R129, R190: a drop pulse right after phase 5 is an unexpected drop, and its alarm leaves with the one
notice; the second that opens window 0, right after phase 4, turns intake to RUNNING. -/
theorem test_startup_takes_events_between_its_phases :
    let t := after (.startUp ⟨4, .baud115200, true, .completes, [(5, .dropPulse)]⟩) quiet
    let s := (evening .idle).setIntake ⟨some ⟨5, 61199⟩, 1000, false, true, .closed⟩
    let u := after (.startUp ⟨4, .baud115200, true, .completes, [(4, .clockAdvance)]⟩)
      (s.setTableStore ⟨true, s.tables, 1, false⟩)
    t.office.unexpectedDrops = 1 ∧ t.latched .unexpectedDrop = true ∧ t.office.notice = none
      ∧ t.office.transmitter.isSome = true ∧ u.intake.state = .running
      ∧ u.intake.clock = some ⟨5, 61200⟩ ∧ u.intake.windowMark = true := by
  decide +kernel

/-- R149, R150: a frame in reception as HOLD_OFF ends and the first OFFER begins is a bad frame. -/
theorem test_offer_abandons_a_frame :
    ((after (.holdOffExpiry .h1 true) quiet).port .h1).badFrames = 1
      ∧ ((after (.holdOffExpiry .h1 false) quiet).port .h1).badFrames = 0 := by
  decide

/-- R151: a port in the inverted sense reads the complement of what is on its line, and one in the normal
sense takes the same bytes as a complemented frame. -/
theorem test_inverted_port_complements_what_it_receives :
    let a : HeadAnswer := ⟨⟨true, true, false, true⟩, 3, 2⟩
    let line := (hatchFrame answerKind (Out.answer a)).map fun b => ~~~b
    Port.receive { quiet.port .h1 with inverted := true } .h1 line = ([.answer .h1 false a], [])
      ∧ Port.receive (quiet.port .h1) .h1 line = ([.complementedFrame .h1 (.answer a)], []) := by
  decide +kernel

/-- R126: a drop pulse files the bag and pops the queue. -/
theorem test_drop_pulse_files_the_bag :
    let t := after .dropPulse (delivering.setBin 7 ⟨.opened, [], 1, 770, 126500⟩)
    t.bin 7 = ⟨.opened, [42], 0, 770, 126500⟩ ∧ t.queue .h1 = [] ∧ t.store.carousel = .idle
      ∧ t.journal.entries.map Entry.state = [.binned] := by
  decide +kernel

/-- R151: the third complemented frame in a row inverts the sense and latches POLARITY. -/
theorem test_third_complemented_frame_inverts :
    let s := atPort fun p => { p with link := .up, window := some 15, streak := 2 }
    let t := after (.complementedFrame .h1 (.report (report .shutLocked false true 0 17 0))) s
    (t.port .h1).inverted = true ∧ (t.port .h1).streak = 0 ∧ t.latched .polarity = true := by
  decide +kernel

end Sys2Proof.Tests
end

section
/-! SUPPORT. The facts that the statements on the drop cycle share: what the transmitter leaves alone, which
drop state a code names, and the command that each event of the family is. -/

namespace Sys2Proof.Machine

open Sys2Proof

/-! ## Drop states by their codes -/

theorem Drop.code_eq_zero {d : Drop} : d.code = 0 ↔ d = .offline := by cases d <;> simp [Drop.code]

theorem Drop.code_eq_one {d : Drop} : d.code = 1 ↔ d = .idle := by cases d <;> simp [Drop.code]

theorem Drop.code_eq_two {d : Drop} : d.code = 2 ↔ ∃ t x, d = .awaitDecl t x := by cases d <;> simp [Drop.code]

theorem Drop.code_eq_three {d : Drop} : d.code = 3 ↔ ∃ t x o p dl, d = .opened t x o p dl := by
  cases d <;> simp [Drop.code]

theorem Drop.code_eq_four {d : Drop} : d.code = 4 ↔ ∃ t x n dl, d = .weighing t x n dl := by
  cases d <;> simp [Drop.code]

theorem Drop.code_eq_five {d : Drop} : d.code = 5 ↔ ∃ t x n c dl, d = .tipping t x n c dl := by
  cases d <;> simp [Drop.code]

theorem Drop.code_eq_six {d : Drop} : d.code = 6 ↔ d = .fault := by cases d <;> simp [Drop.code]

namespace State

/-! ## The transmitter -/

/-- The transmitter changes nothing but the office port. -/
theorem pump_only_office (s : State) : s.pump = s.setOffice s.pump.office := by
  unfold pump
  split <;> rfl

/-- A part of the state that the office port is not in is kept as the transmitter looks. -/
theorem pump_part {β : Type} (p : State → β) (c : ∀ (x : State) (o : Office), p (x.setOffice o) = p x) (s : State) :
    p s.pump = p s := by
  rw [pump_only_office]
  exact c _ _

@[simp] theorem pump_now (s : State) : s.pump.now = s.now :=
    pump_part State.now (fun _ _ => rfl) s
@[simp] theorem pump_straps (s : State) : s.pump.straps = s.straps :=
    pump_part State.straps (fun _ _ => rfl) s
@[simp] theorem pump_tables (s : State) : s.pump.tables = s.tables :=
    pump_part State.tables (fun _ _ => rfl) s
@[simp] theorem pump_tableStore (s : State) : s.pump.tableStore = s.tableStore :=
    pump_part State.tableStore (fun _ _ => rfl) s
@[simp] theorem pump_counts (s : State) : s.pump.counts = s.counts :=
    pump_part State.counts (fun _ _ => rfl) s
@[simp] theorem pump_mapAccess (s : State) : s.pump.mapAccess = s.mapAccess :=
    pump_part State.mapAccess (fun _ _ => rfl) s
@[simp] theorem pump_cover (s : State) : s.pump.cover = s.cover :=
    pump_part State.cover (fun _ _ => rfl) s
@[simp] theorem pump_journal (s : State) : s.pump.journal = s.journal :=
    pump_part State.journal (fun _ _ => rfl) s
@[simp] theorem pump_store (s : State) : s.pump.store = s.store :=
    pump_part State.store (fun _ _ => rfl) s
@[simp] theorem pump_intake (s : State) : s.pump.intake = s.intake :=
    pump_part State.intake (fun _ _ => rfl) s
@[simp] theorem pump_ports (s : State) : s.pump.ports = s.ports :=
    pump_part State.ports (fun _ _ => rfl) s

@[simp] theorem pump_port (s : State) (h : Hatch) : s.pump.port h = s.port h := port_of_ports s.pump_ports h
@[simp] theorem pump_drop (s : State) (h : Hatch) : s.pump.drop h = s.drop h := drop_of_ports s.pump_ports h

@[simp] theorem pump_office_cancels (s : State) : s.pump.office.cancels = s.office.cancels := by
  unfold pump
  split <;> rfl
@[simp] theorem pump_office_badFrames (s : State) : s.pump.office.badFrames = s.office.badFrames := by
  unfold pump
  split <;> rfl
@[simp] theorem pump_office_unexpectedDrops (s : State) :
    s.pump.office.unexpectedDrops = s.office.unexpectedDrops := by
  unfold pump
  split <;> rfl

/-! ## The commands of the family -/

theorem exec_hatchClear (s : State) (p : Params Nat) :
    exec (.hatchClear p) s = .next (s.request 0x64 p s.hatchClear) := rfl

/-- An event of the settled controller that makes no frame and keeps the office port's own is its change alone. -/
theorem event_settled {s : State} {f : State → State} (settled : s.Settled) (k : Kept s (f s))
    (quiet : (f s).office.notice = s.office.notice) : s.event f = f s :=
  event_eq settled.1 (settled.2.of_office k.transmitter k.replies quiet)

end State

end Sys2Proof.Machine
end

section
/-! PROOFS. HATCH_CLEAR (R29, R119). -/

namespace Sys2Proof.Machine

open Sys2Proof State

namespace State

theorem hatchClear_range (s : State) {n : Nat} (bad : n = 0 ∨ 4 < n) : s.hatchClear n = s.answer 0x64 .range [] := by
  simp [hatchClear, hatchOf?_none bad]

theorem hatchClear_refused (s : State) (h : Hatch)
    (bad : (s.drop h).code ≠ 6 ∨ (s.port h).link ≠ .up ∨ (s.port h).snapshot = none) :
    s.hatchClear h.num = s.answer 0x64 .state [] := by
  unfold hatchClear
  rw [hatchOf?_num]
  dsimp only
  split
  · rfl
  · rename_i r snap
    refine if_neg fun ⟨fault, up⟩ => ?_
    rcases bad with code | link | absent
    · exact code (Drop.code_eq_six.2 fault)
    · exact link up
    · simp [snap] at absent

theorem hatchClear_verifies (s : State) (h : Hatch) (r : HeadReport) (fault : (s.drop h).code = 6)
    (up : (s.port h).link = .up) (snap : (s.port h).snapshot = some r) :
    s.hatchClear h.num = s.clearFault h r.trayCount := by
  simp [hatchClear, snap, Drop.code_eq_six.1 fault, up]

end State

/-- Settles O58: each refusal and each outcome of the verification is one answer. -/
theorem hatchClearReturnsToService : Obligations.HatchClearReturnsToService := by
  unfold Obligations.HatchClearReturnsToService
  intro s ready
  refine ⟨fun n bad => ?_, fun h => ⟨fun refused => ?_, fun r fault up snap => ?_⟩⟩
  · rw [exec_hatchClear, request_same ready _ _ _ _ _ (s.hatchClear_range bad)]
  · rw [exec_hatchClear, request_same ready _ _ _ _ _ (s.hatchClear_refused h refused)]
  · rw [exec_hatchClear]
    have taken := s.hatchClear_verifies h r fault up snap
    unfold clearFault at taken
    split at taken
    · next agrees =>
      rw [request_answered ready _ _ _ _ _ taken (modPort_kept s h _), if_pos agrees]
      rfl
    · next fails =>
      rw [request_answered ready _ _ _ _ _ taken (failVerification_kept s h), if_neg fails]
      rfl

end Sys2Proof.Machine
end

section
/-! PROOFS. The intake state (R141, R142): what an evaluation finds, triggers and cancels. -/

namespace Sys2Proof

theorem Tab.put_put {α : Type} {n : Nat} (t : Tab α n) (i : Fin n) (a b : α) : (t.put i a).put i b = t.put i b := by
  simp [Tab.put]

end Sys2Proof

namespace Sys2Proof.Machine

open Sys2Proof

namespace State

/-! ## One machine cancelled -/

@[simp] theorem cancelAwaiting_office_notice (s : State) (h : Hatch) :
    (s.cancelAwaiting h).office.notice = s.office.notice := by
  unfold cancelAwaiting
  split <;> rfl

@[simp] theorem cancelAwaiting_office_flags (s : State) (h : Hatch) :
    (s.cancelAwaiting h).office.flags = s.office.flags := by
  unfold cancelAwaiting
  split <;> rfl

/-- A machine that waits is counted as STOPPED as it is cancelled (R16, R27). -/
theorem cancelAwaiting_cancels (s : State) (h : Hatch) :
    (s.cancelAwaiting h).office.cancels
      = if (s.drop h).code = 2 then s.office.cancels.put 4 (bump (s.office.cancels.get 4)) else s.office.cancels := by
  unfold cancelAwaiting
  cases e : s.drop h <;> rfl

/-- Of the cancellation counters only STOPPED rises. -/
theorem cancelAwaiting_cancels_get (s : State) (h : Hatch) {i : Fin 5} (other : i ≠ 4) :
    (s.cancelAwaiting h).office.cancels.get i = s.office.cancels.get i := by
  rw [cancelAwaiting_cancels]
  split
  · exact Tab.get_put_ne _ other.symm _
  · rfl

/-! ## Every machine that waits -/

/-- How many of the hatches listed have a machine in AWAIT_DECL. -/
def awaiting (s : State) (l : List Hatch) : Nat := (l.filter fun h => decide ((s.drop h).code = 2)).length

theorem awaiting_cons (s : State) (h : Hatch) (l : List Hatch) :
    s.awaiting (h :: l) = (if (s.drop h).code = 2 then 1 else 0) + s.awaiting l := by
  unfold awaiting
  by_cases c : (s.drop h).code = 2 <;> simp [c, Nat.add_comm]

/-- A cancellation at one hatch leaves those that wait at the others. -/
theorem awaiting_cancelAwaiting (s : State) {h : Hatch} {l : List Hatch} (apart : h ∉ l) :
    (s.cancelAwaiting h).awaiting l = s.awaiting l := by
  unfold awaiting
  refine congrArg List.length (List.filter_congr fun k m => ?_)
  have other : k ≠ h := fun e => apart (e ▸ m)
  simp [cancelAwaiting_drop, other]

/-- STOPPED rises once for each machine that waits, and saturates. -/
theorem foldl_cancelAwaiting_cancels : ∀ (l : List Hatch) (s : State), l.Nodup →
    (l.foldl cancelAwaiting s).office.cancels
      = if s.awaiting l = 0 then s.office.cancels
        else s.office.cancels.put 4 (min (s.office.cancels.get 4 + s.awaiting l) 65535)
  | [], _, _ => rfl
  | h :: l, s, nodup => by
    obtain ⟨apart, rest⟩ := List.nodup_cons.1 nodup
    rw [List.foldl_cons, foldl_cancelAwaiting_cancels l _ rest, awaiting_cancelAwaiting s apart, awaiting_cons,
      cancelAwaiting_cancels]
    by_cases waits : (s.drop h).code = 2
    · simp only [waits, if_true, Tab.get_put_self, Tab.put_put, bump, Config.maxCount]
      rw [if_neg (by omega : ¬ 1 + s.awaiting l = 0)]
      split
      · next none => rw [none]
      · congr 1; omega
    · simp only [waits, if_false, Nat.zero_add]

/-! ## The evaluation -/

/-- The inputs of the intake state in the order of R141's table. -/
theorem intakeTarget_eq (s : State) :
    s.intakeTarget
      = if s.intake.enable = false then if Hatch.all.any (fun h => (s.drop h).inFlight) then .stopping else .stopped
        else if s.inWindow 0 = false then .closed
        else if 512 - s.journal.entries.length - s.journal.slotHolds = 0 ∨ s.freePlaces - s.store.holds = 0 then
          .suspended
        else .running := by
  unfold intakeTarget
  cases s.intake.enable
  · rfl
  · cases s.inWindow 0 <;> rfl

theorem evalIntake_same {s : State} (same : s.intakeTarget = s.intake.state) : s.evalIntake = s := if_pos same

/-- A change that leaves intake cancels what waits. -/
theorem evalIntake_leaves {s : State} (change : s.intakeTarget ≠ s.intake.state)
    (leaves : leavesIntake s.intake.state s.intakeTarget = true) :
    s.evalIntake
      = Hatch.all.foldl cancelAwaiting ((s.setIntake { s.intake with state := s.intakeTarget }).trigger .intake) :=
  (if_neg change).trans (if_pos leaves)

/-- Any other change cancels nothing. -/
theorem evalIntake_stays {s : State} (change : s.intakeTarget ≠ s.intake.state)
    (stays : leavesIntake s.intake.state s.intakeTarget = false) :
    s.evalIntake = (s.setIntake { s.intake with state := s.intakeTarget }).trigger .intake :=
  (if_neg change).trans (if_neg (by simp [stays]))

/-- A part of the state that no cancellation reaches is, after a change, as the change itself left it. -/
theorem evalIntake_part {β : Type} (p : State → β) (c : ∀ s h, p (cancelAwaiting s h) = p s) {s : State}
    (change : s.intakeTarget ≠ s.intake.state) :
    p s.evalIntake = p ((s.setIntake { s.intake with state := s.intakeTarget }).trigger .intake) := by
  cases e : leavesIntake s.intake.state s.intakeTarget
  · rw [evalIntake_stays change e]
  · rw [evalIntake_leaves change e, foldl_field p c]

/-- An evaluation sets the state alone of what intake control holds. -/
theorem evalIntake_intake (s : State) : s.evalIntake.intake = { s.intake with state := s.intakeTarget } := by
  by_cases same : s.intakeTarget = s.intake.state
  · rw [evalIntake_same same, same]
  · exact evalIntake_part State.intake cancelAwaiting_intake same

theorem evalIntake_notice {s : State} (change : s.intakeTarget ≠ s.intake.state) :
    s.evalIntake.office.notice = some (s.office.notice.getD 0 ||| Cause.intake.bit) :=
  evalIntake_part (fun s => s.office.notice) cancelAwaiting_office_notice change

@[simp] theorem evalIntake_office_flags (s : State) : s.evalIntake.office.flags = s.office.flags := by
  by_cases same : s.intakeTarget = s.intake.state
  · rw [evalIntake_same same]
  · exact evalIntake_part (fun s => s.office.flags) cancelAwaiting_office_flags same

/-- An evaluation moves no cancellation counter but STOPPED. -/
theorem evalIntake_cancels_get (s : State) {i : Fin 5} (other : i ≠ 4) :
    s.evalIntake.office.cancels.get i = s.office.cancels.get i := by
  by_cases same : s.intakeTarget = s.intake.state
  · rw [evalIntake_same same]
  · exact evalIntake_part (fun s => s.office.cancels.get i) (fun s h => cancelAwaiting_cancels_get s h other) same

theorem evalIntake_cancels_of_leaves {s : State} (change : s.intakeTarget ≠ s.intake.state)
    (leaves : leavesIntake s.intake.state s.intakeTarget = true) :
    s.evalIntake.office.cancels
      = if s.awaiting Hatch.all = 0 then s.office.cancels
        else s.office.cancels.put 4 (min (s.office.cancels.get 4 + s.awaiting Hatch.all) 65535) := by
  rw [evalIntake_leaves change leaves, foldl_cancelAwaiting_cancels _ _ (by decide)]
  rfl

theorem leavesIntake_iff (a b : IntakeState) :
    leavesIntake a b = true ↔ (a = .running ∨ a = .suspended) ∧ (b = .closed ∨ b = .stopping ∨ b = .stopped) := by
  simp [leavesIntake]

end State

open State in
/-- Settles O23: the state is R141's function of the inputs, and a change acts by whether it leaves intake; the
cancellations are counted by induction on the hatches. -/
theorem intakeFollowsItsInputs : Obligations.IntakeFollowsItsInputs := by
  unfold Obligations.IntakeFollowsItsInputs
  refine ⟨fun s => ?_, fun s change => ⟨fun leaves => ⟨fun h => ?_, ?_⟩, fun stays => ?_, leavesIntake_iff _ _⟩⟩
  · rw [← intakeTarget_eq]
    exact ⟨s.evalIntake_intake, evalIntake_same, evalIntake_notice, s.evalIntake_tables, s.evalIntake_cover,
      s.evalIntake_journal, s.evalIntake_store, s.evalIntake_counts, s.evalIntake_office_flags⟩
  · rw [evalIntake_port]
    simp only [ne_eq, change, not_false_eq_true, leaves, true_and]
  · exact evalIntake_cancels_of_leaves change leaves
  · rw [evalIntake_stays change stays]
    exact ⟨rfl, rfl⟩

end Sys2Proof.Machine
end

section
/-! PROOFS. Release counts (R130). -/

namespace Sys2Proof.Machine

open Sys2Proof

namespace State

theorem examineRelease_none (s : State) (h : Hatch) (c : BitVec 8) (absent : (s.port h).release = none) :
    s.examineRelease h c = s := by
  simp [examineRelease, absent]

/-- A counter that stands where it was last seen changes nothing. -/
theorem examineRelease_same (s : State) (h : Hatch) (k : ReleaseCounts) (held : (s.port h).release = some k) :
    s.examineRelease h k.seen = s := by
  simp [examineRelease, held]

/-- An advance at or before the allowed count is recorded. -/
theorem examineRelease_advance (s : State) (h : Hatch) {c : BitVec 8} {k : ReleaseCounts}
    (held : (s.port h).release = some k) (moved : c ≠ k.seen) (within : (c - k.seen).toNat ≤ (k.allowed - k.seen).toNat) :
    s.examineRelease h c = s.modPort h fun p => { p with release := some { k with seen := c } } := by
  unfold examineRelease
  rw [held]
  exact (if_neg moved).trans (if_pos within)

/-- Any other advance is an unexpected release. -/
theorem examineRelease_beyond (s : State) (h : Hatch) {c : BitVec 8} {k : ReleaseCounts}
    (held : (s.port h).release = some k) (beyond : (k.allowed - k.seen).toNat < (c - k.seen).toNat) :
    s.examineRelease h c
      = ((s.modPort h fun p => { p with release := some ⟨c, c⟩ }).raise .trayFault).faultHatch h := by
  have moved : c ≠ k.seen := by
    rintro rfl
    simp at beyond
  unfold examineRelease
  rw [held]
  exact (if_neg moved).trans (if_neg (Nat.not_le.2 beyond))

/-- Counting forward by less than a turn is read back as the difference. -/
theorem sub_of_forward {seen c : BitVec 8} {ahead : Nat} (turn : ahead < 256) (at' : c = seen + BitVec.ofNat 8 ahead) :
    (c - seen).toNat = ahead := by
  subst at'
  have e : seen + BitVec.ofNat 8 ahead - seen = BitVec.ofNat 8 ahead := by
    rw [BitVec.add_comm, BitVec.add_sub_cancel]
  rw [e, BitVec.toNat_ofNat, Nat.mod_eq_of_lt turn]

/-- The baseline while a delivery for the hatch is under way: the allowed count is its target. -/
theorem baselineRelease_delivering (s : State) (h : Hatch) (c : BitVec 8) {n : Nat} {b : BinNo} {target : BitVec 8}
    {deadline : Nat} (delivering : s.store.carousel = .delivering ⟨h, n⟩ b target deadline) :
    s.baselineRelease h c = s.modPort h fun p => { p with release := some ⟨c, target⟩ } := by
  unfold baselineRelease
  simp only [delivering, if_true]
  split
  · rfl
  · simp [arbiter, delivering]

/-- The baseline otherwise: both counts are its counter, and a hatch with bags queued calls the arbiter. -/
theorem baselineRelease_otherwise (s : State) (h : Hatch) (c : BitVec 8)
    (other : ∀ n b target deadline, s.store.carousel ≠ .delivering ⟨h, n⟩ b target deadline) :
    s.baselineRelease h c
      = if s.queue h = [] then s.modPort h fun p => { p with release := some ⟨c, c⟩ }
        else (s.modPort h fun p => { p with release := some ⟨c, c⟩ }).arbiter := by
  unfold baselineRelease
  cases e : s.store.carousel with
  | delivering g b t d =>
    have elsewhere : g.hatch ≠ h := by
      rintro rfl
      exact other _ _ _ _ e
    simp only [elsewhere, if_false]
  | _ => rfl

end State

open State in
/-- Settles O43: the three cases of a counter are exclusive by counting forward modulo 256. -/
theorem releaseCountsJudgeAnAdvance : Obligations.ReleaseCountsJudgeAnAdvance := by
  unfold Obligations.ReleaseCountsJudgeAnAdvance
  intro s h c
  refine ⟨s.examineRelease_none h c, fun k held => ⟨fun same => ?_, fun ahead forward within reached => ?_,
    fun beyond => ?_⟩, fun n b target deadline delivering => s.baselineRelease_delivering h c delivering,
    fun other => s.baselineRelease_otherwise h c other⟩
  · rw [same, examineRelease_same s h k held]
  · have turn : ahead < 256 := by have := (k.allowed - k.seen).isLt; omega
    have gap := sub_of_forward turn reached
    have moved : c ≠ k.seen := by
      rintro rfl
      simp at gap
      omega
    exact examineRelease_advance s h held moved (gap ▸ within)
  · rw [examineRelease_beyond s h held beyond]
    refine ⟨?_, ?_, (faultHatch_grows _ h).stays _ (raise_latched _ _), ?_, ?_⟩
    · rw [faultHatch_port_self, port_of_ports (raise_ports _ _), modPort_port_self]
    · rw [faultHatch_port_self]
    · have same : (s.modPort h fun p => { p with release := some ⟨c, c⟩ }).drop h = s.drop h := by simp [drop]
      rw [faultHatch_drop_self, drop_of_ports (raise_ports _ _), same]
    · simp

end Sys2Proof.Machine
end

section
/-! PROOFS. The commands of a POLL (R159 to R162). -/

namespace Sys2Proof.Machine

open Sys2Proof

namespace State

/-! ## What the rules ask of a POLL -/

/-- The flap field of the last report. -/
def LastFlap (s : State) (h : Hatch) (f : Flap) : Prop := ∃ r, (s.port h).snapshot = some r ∧ r.flap = f

/-- A drop in OPEN past its timeout. -/
def PastTimeout (s : State) (h : Hatch) : Prop := ∃ t d o dl, s.drop h = .opened t d o true dl

/-- TIPPING towards `x`, which the arrival counter has not reached. -/
def TipAsked (s : State) (h : Hatch) (x : BitVec 8) : Prop :=
  (∃ t d n dl, s.drop h = .tipping t d n x dl) ∧ ∃ r, (s.port h).snapshot = some r ∧ r.arrival ≠ x

/-- A delivery for the hatch towards `x`, which the release counter has not reached. -/
def ReleaseAsked (s : State) (h : Hatch) (x : BitVec 8) : Prop :=
  (∃ n b dl, s.store.carousel = .delivering ⟨h, n⟩ b x dl) ∧ ∃ r, (s.port h).snapshot = some r ∧ r.release ≠ x

/-- What the last report `r` shows taken, and its alarms, at least one of the three. -/
def ConsumeAsked (s : State) (h : Hatch) (r : HeadReport) (t d a : Bool) : Prop :=
  (s.port h).snapshot = some r ∧ t = (r.token.isSome && (s.port h).takenToken.isSome)
    ∧ d = (r.declaration.isSome && (s.port h).takenDecl.isSome) ∧ a = (r.tamper || r.chuteBlocked || r.printerFault)
    ∧ (t = true ∨ d = true ∨ a = true)

/-! ## When each command is formed -/

/-- In OPEN a locked flap is unlocked, and past the timeout an open one is driven shut. -/
theorem flapCommand_open (s : State) (h : Hatch) {r : HeadReport} {t : Snapshot} {d : Declared} {o p : Bool}
    {dl : Option Nat} (snap : (s.port h).snapshot = some r) (drop : s.drop h = .opened t d o p dl) :
    s.flapCommand h
      = match r.flap with
        | .shutLocked => some .unlock
        | .shutUnlocked => none
        | .opened => if p = true ∧ (s.port h).caps.flapDrive = true then some .closeFlap else none := by
  unfold flapCommand
  rw [snap, drop]
  cases flap : r.flap <;> cases p <;> simp [flap]

/-- Outside OPEN an unlocked flap is locked. -/
theorem flapCommand_shut (s : State) (h : Hatch) {r : HeadReport} (snap : (s.port h).snapshot = some r)
    (drop : (s.drop h).code ≠ 3) :
    s.flapCommand h = if r.flap = .shutUnlocked then some .lock else none := by
  unfold flapCommand
  rw [snap]
  cases d : s.drop h with
  | opened => exact absurd (by rw [d]; rfl) drop
  | _ => cases flap : r.flap <;> simp [flap]

theorem flapCommand_none (s : State) (h : Hatch) (snap : (s.port h).snapshot = none) : s.flapCommand h = none := by
  simp [flapCommand, snap]

theorem lastFlap_iff (s : State) (h : Hatch) {r : HeadReport} (snap : (s.port h).snapshot = some r) (f : Flap) :
    s.LastFlap h f ↔ r.flap = f := by
  simp [LastFlap, snap]

theorem pastTimeout_iff (s : State) (h : Hatch) {t : Snapshot} {d : Declared} {o p : Bool} {dl : Option Nat}
    (drop : s.drop h = .opened t d o p dl) : s.PastTimeout h ↔ p = true := by
  simp [PastTimeout, drop]

/-- The flap command is the one that the state and the last report ask (R161). -/
theorem flapCommand_iff (s : State) (h : Hatch) (c : PollCommand) :
    s.flapCommand h = some c
      ↔ (.unlock = c ∧ (s.drop h).code = 3 ∧ s.LastFlap h .shutLocked)
        ∨ (.lock = c ∧ (s.drop h).code ≠ 3 ∧ s.LastFlap h .shutUnlocked)
        ∨ (.closeFlap = c ∧ s.PastTimeout h ∧ s.LastFlap h .opened ∧ (s.port h).caps.flapDrive = true) := by
  cases snap : (s.port h).snapshot with
  | none => simp [flapCommand_none s h snap, LastFlap, snap]
  | some r =>
    by_cases isOpen : (s.drop h).code = 3
    · obtain ⟨t, d, o, p, dl, drop⟩ := Drop.code_eq_three.1 isOpen
      simp only [flapCommand_open s h snap drop, lastFlap_iff s h snap, pastTimeout_iff s h drop]
      cases flap : r.flap <;> simp [isOpen, and_comm]
    · have past : ¬s.PastTimeout h := fun ⟨t, d, o, dl, drop⟩ => isOpen (by rw [drop]; rfl)
      simp only [flapCommand_shut s h snap isOpen, lastFlap_iff s h snap]
      simp [isOpen, past, and_comm]

theorem flapCommand_unlock (s : State) (h : Hatch) :
    s.flapCommand h = some .unlock ↔ (s.drop h).code = 3 ∧ s.LastFlap h .shutLocked := by
  simp [flapCommand_iff]

theorem flapCommand_lock (s : State) (h : Hatch) :
    s.flapCommand h = some .lock ↔ (s.drop h).code ≠ 3 ∧ s.LastFlap h .shutUnlocked := by
  simp [flapCommand_iff]

theorem flapCommand_closeFlap (s : State) (h : Hatch) :
    s.flapCommand h = some .closeFlap
      ↔ s.PastTimeout h ∧ s.LastFlap h .opened ∧ (s.port h).caps.flapDrive = true := by
  simp [flapCommand_iff]

theorem tipCommand_iff (s : State) (h : Hatch) (c : PollCommand) :
    s.tipCommand h = some c ↔ ∃ x, .tip x = c ∧ s.TipAsked h x := by
  unfold tipCommand TipAsked
  cases (s.port h).snapshot with
  | none => simp
  | some r =>
    cases s.drop h with
    | tipping t d n x dl => simp [and_comm, eq_comm (a := x)]
    | _ => simp

theorem tipCommand_tip (s : State) (h : Hatch) (x : BitVec 8) : s.tipCommand h = some (.tip x) ↔ s.TipAsked h x := by
  simp [tipCommand_iff]

theorem releaseCommand_iff (s : State) (h : Hatch) (c : PollCommand) :
    s.releaseCommand h = some c ↔ ∃ x, .trayRelease x = c ∧ s.ReleaseAsked h x := by
  unfold releaseCommand ReleaseAsked
  cases (s.port h).snapshot with
  | none => simp
  | some r =>
    cases s.store.carousel with
    | delivering g b x dl =>
      obtain ⟨k, n⟩ := g
      simp [and_comm, and_assoc, eq_comm (a := x)]
    | _ => simp

theorem releaseCommand_trayRelease (s : State) (h : Hatch) (x : BitVec 8) :
    s.releaseCommand h = some (.trayRelease x) ↔ s.ReleaseAsked h x := by
  simp [releaseCommand_iff]

theorem consumeCommand_iff (s : State) (h : Hatch) (c : PollCommand) :
    s.consumeCommand h = some c ↔ ∃ r t d a, .consume t d a = c ∧ s.ConsumeAsked h r t d a := by
  unfold consumeCommand ConsumeAsked
  cases (s.port h).snapshot with
  | none => simp
  | some r => 
    constructor
    · intro e
      dsimp only at e
      split at e
      · next any =>
        refine ⟨r, _, _, _, Option.some.inj e, rfl, rfl, rfl, rfl, ?_⟩
        simpa [or_assoc] using any
      · cases e
    · rintro ⟨r', t, d, a, rfl, same, rfl, rfl, rfl, any⟩
      cases same
      exact if_pos (by simpa [or_assoc] using any)

theorem consumeCommand_consume (s : State) (h : Hatch) (t d a : Bool) :
    s.consumeCommand h = some (.consume t d a) ↔ ∃ r, s.ConsumeAsked h r t d a := by
  simp only [consumeCommand_iff, PollCommand.consume.injEq]
  constructor
  · rintro ⟨r, _, _, _, ⟨rfl, rfl, rfl⟩, asked⟩
    exact ⟨r, asked⟩
  · rintro ⟨r, asked⟩
    exact ⟨r, t, d, a, ⟨rfl, rfl, rfl⟩, asked⟩

/-! ## Which of them a POLL carries -/

/-- The source from which a command in a POLL comes. -/
def formed (s : State) (h : Hatch) : PollCommand → Option PollCommand
  | .receipt _ _ => (s.port h).receiptDue.map fun r => .receipt r (s.port h).receiptMode
  | .showCode _ => (s.port h).showDue.map .showCode
  | .unlock => s.flapCommand h
  | .lock => s.flapCommand h
  | .closeFlap => s.flapCommand h
  | .tip _ => s.tipCommand h
  | .trayRelease _ => s.releaseCommand h
  | .consume _ _ _ => s.consumeCommand h

/-- Each source forms only its own commands, so that a command carried was formed by its source. -/
theorem formed_of_mem (s : State) (h : Hatch) {c : PollCommand} (m : c ∈ s.pollCommands h) :
    s.formed h c = some c := by
  obtain ⟨x, m, rfl⟩ := List.mem_filterMap.1 (List.mem_of_mem_take m)
  simp only [List.mem_cons, List.not_mem_nil, or_false] at m
  rcases m with e | e | e | e | e | e
  · obtain ⟨r, due, rfl⟩ := Option.map_eq_some_iff.1 e.symm
    exact e.symm
  · obtain ⟨r, due, rfl⟩ := Option.map_eq_some_iff.1 e.symm
    exact e.symm
  · rcases (flapCommand_iff s h c).1 e.symm with ⟨rfl, _⟩ | ⟨rfl, _⟩ | ⟨rfl, _⟩ <;> exact e.symm
  · obtain ⟨x, rfl, _⟩ := (tipCommand_iff s h c).1 e.symm
    exact e.symm
  · obtain ⟨x, rfl, _⟩ := (releaseCommand_iff s h c).1 e.symm
    exact e.symm
  · obtain ⟨r, t, d, a, rfl, _⟩ := (consumeCommand_iff s h c).1 e.symm
    exact e.symm

theorem receipt_mem_pollCommands (s : State) (h : Hatch) {r : Receipt} (due : (s.port h).receiptDue = some r) :
    PollCommand.receipt r (s.port h).receiptMode ∈ s.pollCommands h := by
  simp [pollCommands, due]

theorem show_mem_pollCommands (s : State) (h : Hatch) {x : Nat} (due : (s.port h).showDue = some x) :
    PollCommand.showCode x ∈ s.pollCommands h := by
  cases r : (s.port h).receiptDue <;> simp [pollCommands, due, r]

/-- With no one-time command due the POLL has room for all the others. -/
theorem mem_of_formed (s : State) (h : Hatch) (noReceipt : (s.port h).receiptDue = none)
    (noShow : (s.port h).showDue = none) {c : PollCommand} (f : s.formed h c = some c) : c ∈ s.pollCommands h := by
  have all : s.pollCommands h
      = [s.flapCommand h, s.tipCommand h, s.releaseCommand h, s.consumeCommand h].filterMap id := by
    simp only [pollCommands, noReceipt, noShow, Option.map_none, List.filterMap_cons, id_eq]
    exact List.take_of_length_le (List.length_filterMap_le id [_, _, _, _])
  rw [all, List.mem_filterMap]
  refine ⟨some c, ?_, rfl⟩
  cases c <;> simp_all [formed]

end State

open State in
/-- Settles O46: a command is carried by its source alone, and each source follows the state and the last report. -/
theorem pollCommandsFollowTheState : Obligations.PollCommandsFollowTheState := by
  unfold Obligations.PollCommandsFollowTheState
  intro s h
  dsimp only
  refine ⟨List.length_take_le _ _, fun r => receipt_mem_pollCommands s h, fun x => show_mem_pollCommands s h,
    fun m => ?_, fun m => ?_, fun m => ?_, fun x m => ?_, fun x m => ?_, fun t d a m => ?_,
    fun noReceipt noShow => ⟨fun isOpen flap => ?_, fun isShut flap => ?_, fun past flap drive => ?_, fun x asked => ?_,
      fun x asked => ?_, fun r t d a asked => ?_⟩⟩
  · exact (flapCommand_unlock s h).1 (formed_of_mem s h m)
  · exact (flapCommand_lock s h).1 (formed_of_mem s h m)
  · exact (flapCommand_closeFlap s h).1 (formed_of_mem s h m)
  · exact (tipCommand_tip s h x).1 (formed_of_mem s h m)
  · exact (releaseCommand_trayRelease s h x).1 (formed_of_mem s h m)
  · exact (consumeCommand_consume s h t d a).1 (formed_of_mem s h m)
  · exact mem_of_formed s h noReceipt noShow ((flapCommand_unlock s h).2 ⟨isOpen, flap⟩)
  · exact mem_of_formed s h noReceipt noShow ((flapCommand_lock s h).2 ⟨isShut, flap⟩)
  · exact mem_of_formed s h noReceipt noShow ((flapCommand_closeFlap s h).2 ⟨past, flap, drive⟩)
  · exact mem_of_formed s h noReceipt noShow ((tipCommand_tip s h x).2 asked)
  · exact mem_of_formed s h noReceipt noShow ((releaseCommand_trayRelease s h x).2 asked)
  · exact mem_of_formed s h noReceipt noShow ((consumeCommand_consume s h t d a).2 ⟨r, asked⟩)

end Sys2Proof.Machine
end

section
/-! PROOFS. The token and declaration checks (R7, R10): what each test says, and the ladder of refusals. -/

namespace Sys2Proof.Machine

open Sys2Proof

namespace State

/-! ## What each test says -/

theorem denomAt_ne_void (s : State) (i : Nat) :
    i ≤ 15 ∧ s.denomAt i ≠ .void ↔ ∃ k : Fin 16, k.val = i ∧ s.tables.denoms.get k ≠ .void := by
  constructor
  · rintro ⟨bound, entry⟩
    have inside : i < 16 := by omega
    exact ⟨⟨i, inside⟩, rfl, by simpa [denomAt, inside] using entry⟩
  · rintro ⟨k, rfl, entry⟩
    exact ⟨by omega, by simpa [denomAt] using entry⟩

theorem lineOk_iff (s : State) (l : Line) :
    s.lineOk l = true
      ↔ 1 ≤ l.count ∧ l.count ≤ 9999 ∧ ∃ k : Fin 16, k.val = l.denom ∧ s.tables.denoms.get k ≠ .void := by
  rw [← denomAt_ne_void]
  simp [lineOk, and_assoc]

/-- The format check (R31). -/
theorem formatOk_iff (s : State) (d : Declaration) :
    s.formatOk d = true
      ↔ 1 ≤ d.lines.length ∧ d.lines.length ≤ 6 ∧ (d.lines.map Line.denom).Nodup
        ∧ (∀ l ∈ d.lines, 1 ≤ l.count ∧ l.count ≤ 9999
            ∧ ∃ i : Fin 16, i.val = l.denom ∧ s.tables.denoms.get i ≠ .void)
        ∧ d.bagClass ≤ 3 ∧ 1 ≤ d.total ∧ d.total ≤ 99999999 ∧ d.serial ≤ 9999999999 := by
  simp only [formatOk, Bool.and_eq_true, within_eq_true, decide_eq_true_eq, List.all_eq_true, lineOk_iff]
  unfold Config.maxTotal Config.maxSerial
  tauto

theorem inRanges_iff (s : State) (serial : Nat) :
    s.inRanges serial = true ↔ ∃ r ∈ s.tables.ranges, r.first ≤ serial ∧ serial ≤ r.last := by
  simp [inRanges]

/-- A serial passes the range test where the mode in force does not refuse it (R51). -/
theorem rangeTest_eq_none (s : State) (serial : Nat) (revoke : s.tables.screenMode = .revoke → ¬s.inRanges serial = true)
    (issue : s.tables.screenMode = .issue → s.inRanges serial = true) : s.rangeTest serial = none := by
  unfold rangeTest
  cases mode : s.tables.screenMode with
  | off => rfl
  | revoke => exact if_neg (revoke mode)
  | issue => exact if_pos (issue mode)

theorem rangeTest_revoke (s : State) (serial : Nat) (mode : s.tables.screenMode = .revoke)
    (inside : s.inRanges serial = true) : s.rangeTest serial = some .tagRevoked := by
  simp [rangeTest, mode, inside]

theorem rangeTest_issue (s : State) (serial : Nat) (mode : s.tables.screenMode = .issue)
    (outside : ¬s.inRanges serial = true) : s.rangeTest serial = some .tagNotIssued := by
  simp [rangeTest, mode, outside]

theorem openWithSerial_iff (s : State) (h : Hatch) (serial : Nat) :
    s.openWithSerial h serial = true
      ↔ ∃ tr x o past dl, s.drop h = .opened tr x o past dl ∧ x.serial = serial := by
  unfold openWithSerial
  cases s.drop h <;> simp

theorem any_other_iff (h : Hatch) (p : Hatch → Bool) :
    (Hatch.all.any fun k => decide (k ≠ h) && p k) = true ↔ ∃ k, k ≠ h ∧ p k = true := by
  simp [Hatch.mem_all]

/-- The repeat check (R62). -/
theorem repeats_iff (s : State) (h : Hatch) (serial : Nat) :
    s.repeats h serial = true
      ↔ (∃ x ∈ s.journal.entries, x.serial = serial)
        ∨ ∃ k, k ≠ h ∧ ∃ tr x o past dl, s.drop k = .opened tr x o past dl ∧ x.serial = serial := by
  unfold repeats
  rw [Bool.or_eq_true, any_other_iff]
  simp only [openWithSerial_iff, List.any_eq_true, decide_eq_true_eq]

/-! ## The declaration checks in order -/

/-- Checks 1 to 3 pass (R31, R37, R39). -/
def Weighed (s : State) (d : Declaration) : Prop :=
  (s.formatOk d = true ∧ s.linesTotal d.lines = d.total) ∧ s.expectedMass d ≤ Config.maxMass

/-- What passes checks 1 to 3 meets the range test. -/
theorem checkDeclaration_screen (s : State) (h : Hatch) (t : Snapshot) {d : Declaration} (weighed : s.Weighed d)
    {x : Refuse} (refused : s.rangeTest d.serial = some x) : s.checkDeclaration h t d = .error x := by
  obtain ⟨⟨format, total⟩, mass⟩ := weighed
  simp [checkDeclaration, format, total, Nat.not_lt.2 mass, refused]

/-- What passes the range test meets checks 6 to 10 in order. -/
theorem checkDeclaration_accounts (s : State) (h : Hatch) (t : Snapshot) {d : Declaration} (weighed : s.Weighed d)
    (screened : s.rangeTest d.serial = none) :
    s.checkDeclaration h t d
      = if s.repeats h d.serial then .error .tagRepeat
        else if t.entry.maxValue < s.valueTonight t + d.total then .error .valueLimit
        else if !s.coverPasses d.total then .error .cover
        else if s.journalRoom = 0 then .error .journalFullDecl
        else if s.storeRoom = 0 then .error .storeFullDecl
        else
          .ok ⟨d.serial, d.bagClass, d.lines, d.total, s.expectedMass d, s.tolerance (s.expectedMass d),
            s.suspectAt d.serial⟩ := by
  obtain ⟨⟨format, total⟩, mass⟩ := weighed
  simp [checkDeclaration, format, total, Nat.not_lt.2 mass, screened]

/-! ## The token checks in order -/

/-- A token whose entry is found meets checks 5 to 9. -/
theorem checkToken_found (s : State) (h : Hatch) {token : Nat} {slot : Slot} {e : DepositorEntry}
    (running : s.intake.state = .running) (service : s.inService h = true)
    (room : (s.queue h).length ≠ (s.port h).depth) (named : token ≠ 0) (found : s.lookup token = some (slot, e)) :
    s.checkToken h token = s.checkDepositor h ⟨slot, e, (s.counts.get slot).bags, (s.counts.get slot).value⟩ := by
  simp [checkToken, running, service, room, found, named]

end State

open State in
/-- Settles O55: each refusal follows from the tests before it, taken in the order of R7 and R10. -/
theorem tokensAndDeclarationsMeetTheirChecks : Obligations.TokensAndDeclarationsMeetTheirChecks := by
  unfold Obligations.TokensAndDeclarationsMeetTheirChecks
  refine ⟨formatOk_iff, fun s h t d => ?_, fun s h token => ?_⟩
  · intro e inside fails summed weighed screened first valued covered
    have range : s.inRanges d.serial = true ↔ inside := inRanges_iff s d.serial
    have pass (ok : screened) : s.rangeTest d.serial = none :=
      rangeTest_eq_none s d.serial (fun m i => ok.2.1 m (range.1 i)) (fun m => range.2 (ok.2.2 m))
    have accounts (ok : screened) := checkDeclaration_accounts s h t ok.1 (pass ok)
    refine ⟨?_, ?_, ?_, ?_, ?_, ?_, fun ok mode hit => ?_, fun ok mode miss => ?_, ?_, repeats_iff s h d.serial,
      fun format => ?_, fun format total => ?_⟩
    · rintro ⟨⟨⟨ok, fresh⟩, value⟩, cover⟩ journal store
      rw [accounts ok]
      simp [fresh, Nat.not_lt.2 value, coverPasses, cover, journal, store]
      exact ⟨rfl, rfl, rfl⟩
    · rintro ⟨⟨⟨ok, fresh⟩, value⟩, cover⟩ journal store
      refine (accounts ok).trans ?_
      simp [fresh, Nat.not_lt.2 value, coverPasses, cover, journal, store]
    · rintro ⟨⟨⟨ok, fresh⟩, value⟩, cover⟩ journal
      refine (accounts ok).trans ?_
      simp [fresh, Nat.not_lt.2 value, coverPasses, cover, journal]
    · rintro ⟨⟨ok, fresh⟩, value⟩ exceeds
      have cover : ¬s.cover.committed + s.cover.held + d.total ≤ s.tables.limit := fun c => exceeds ⟨⟨⟨ok, fresh⟩, value⟩, c⟩
      refine (accounts ok).trans ?_
      simp [fresh, Nat.not_lt.2 value, coverPasses, cover]
    · rintro ⟨ok, fresh⟩ exceeds
      have value : t.entry.maxValue < s.valueTonight t + d.total := Nat.not_le.1 fun v => exceeds ⟨⟨ok, fresh⟩, v⟩
      refine (accounts ok).trans ?_
      simp [fresh, value]
    · intro ok again
      have known : s.repeats h d.serial = true := by
        by_contra fresh
        exact again ⟨ok, Bool.not_eq_true _ ▸ fresh⟩
      refine (accounts ok).trans ?_
      simp [known]
    · exact checkDeclaration_screen s h t ok (rangeTest_revoke s d.serial mode (range.2 hit))
    · exact checkDeclaration_screen s h t ok (rangeTest_issue s d.serial mode fun i => miss (range.1 i))
    · rintro ⟨format, total⟩ heavy
      have mass : Config.maxMass < s.expectedMass d := Nat.not_le.1 fun m => heavy ⟨⟨format, total⟩, m⟩
      show s.checkDeclaration h t d = _
      simp [checkDeclaration, format, total, mass]
    · show s.checkDeclaration h t d = _
      simp [checkDeclaration, format]
    · show s.checkDeclaration h t d = _
      simp [checkDeclaration, format, total]
  · refine ⟨fun shut => ?_, fun full => ?_, fun running out => ?_, fun running service full => ?_,
      fun running service room unknown => ?_, fun slot e running service room named found => ?_⟩
    · rcases shut with state | state | state <;> simp [checkToken, state]
    · simp only [checkToken, full, apply_ite (Except.error (α := Snapshot))]
    · simp [checkToken, running, out]
    · simp [checkToken, running, service, full]
    · cases found : s.lookup token with
      | none => simp [checkToken, running, service, room, found]
      | some x =>
        have zero : token = 0 := unknown.resolve_right (by simp [found])
        subst zero
        simp [checkToken, running, service, room, found]
    · rw [checkToken_found s h running service room named found]
      refine ⟨fun suspended => ?_, fun active closed => ?_, fun active hours => ⟨fun busy => ?_, fun free => ?_⟩⟩
      · simp [checkDepositor, suspended]
      · simp [checkDepositor, active, closed]
      · unfold checkDepositor
        rw [if_neg (by simp [active]), if_neg (by simp [hours]),
          if_pos ((any_other_iff h fun k => s.busyWith k e.token).2 busy)]
      · have none : ¬(Hatch.all.any fun k => decide (k ≠ h) && s.busyWith k e.token) = true := by
          rw [any_other_iff]
          rintro ⟨k, other, busy⟩
          simp [free k other] at busy
        unfold checkDepositor
        rw [if_neg (by simp [active]), if_neg (by simp [hours]), if_neg none]

end Sys2Proof.Machine
end

section
/-! PROOFS. The ending of a transaction by a fault or the loss of a link (R16, R22, R24, R25). -/

namespace Sys2Proof.Machine

open Sys2Proof

namespace State

/-! ## What the near marks leave of the office port -/

@[simp] theorem evalCover_office_cancels (s : State) : s.evalCover.office.cancels = s.office.cancels := by
  unfold evalCover; dsimp only; split <;> simp
@[simp] theorem evalCover_office_count (s : State) : s.evalCover.office.count = s.office.count := by
  unfold evalCover; dsimp only; split <;> simp
@[simp] theorem evalJournal_office_cancels (s : State) : s.evalJournal.office.cancels = s.office.cancels := by
  unfold evalJournal; dsimp only; split <;> simp
@[simp] theorem evalJournal_office_count (s : State) : s.evalJournal.office.count = s.office.count := by
  unfold evalJournal; dsimp only; split <;> simp
@[simp] theorem evalStore_office_cancels (s : State) : s.evalStore.office.cancels = s.office.cancels := by
  unfold evalStore; dsimp only; split <;> simp
@[simp] theorem evalStore_office_count (s : State) : s.evalStore.office.count = s.office.count := by
  unfold evalStore; dsimp only; split <;> simp

/-! ## The entry with a number -/

theorem findEntry_of_journal {s t : State} (e : t.journal = s.journal) (n : Nat) : t.findEntry n = s.findEntry n := by
  simp [findEntry, e]

theorem findEntry_number {s : State} {n : Nat} {e : Entry} (found : s.findEntry n = some e) : e.number = n := by
  simpa using List.find?_some found

/-- A change that keeps the number is made at the entry that the number finds. -/
theorem findEntry_modEntry (s : State) (n : Nat) (f : Entry → Entry) (keeps : ∀ e, (f e).number = e.number) :
    (s.modEntry n f).findEntry n = (s.findEntry n).map f := by
  have same : ((fun e : Entry => e.number == n) ∘ fun e => if e.number = n then f e else e)
      = fun e => e.number == n := by
    funext e
    by_cases c : e.number = n <;> simp [c, keeps]
  unfold findEntry modEntry
  simp only [setJournal_journal, List.find?_map, same]
  cases found : s.journal.entries.find? fun e => e.number == n with
  | none => rfl
  | some e => simp [findEntry_number (s := s) found]

theorem findEntry_strandEntry (s : State) (n : Nat) :
    (s.strandEntry n).findEntry n = (s.findEntry n).map fun e => { e with state := .stranded } :=
  (findEntry_of_journal (raise_journal _ _) n).trans (findEntry_modEntry s n _ fun _ => rfl)

/-! ## Bins -/

theorem bin_of_store {s t : State} (e : t.store.bins = s.store.bins) (b : BinNo) : t.bin b = s.bin b := by
  simp [bin, e]

/-- The pending place leaves the bin of the entry with its totals (R117). -/
theorem releasePending_bin (s : State) {n : Nat} {e : Entry} {b : BinNo} (found : s.findEntry n = some e)
    (has : e.bin = some b) :
    (s.releasePending n).bin b
      = { s.bin b with
          pending := (s.bin b).pending - 1
          mass := (s.bin b).mass - (e.mass.getD e.expected)
          value := (s.bin b).value - e.total } := by
  refine (bin_of_store (evalStore_store_bins _) b).trans ?_
  simp only [releasePlace, found, has, setBin_bin_self]
  rfl

/-! ## The ending from each drop state -/

/-- What an ending from drop state `d` has done to the accounts, in `u` against `s`. -/
def EndedFrom (s u : State) : Drop → Prop
  | .opened _ d _ _ _ =>
    u.cover.held = s.cover.held - d.total ∧ u.journal.slotHolds = s.journal.slotHolds - 1
    ∧ u.store.holds = s.store.holds - 1 ∧ u.journal.entries = s.journal.entries ∧ u.store.bins = s.store.bins
  | .weighing _ _ n _ =>
    u.cover.held = s.cover.held ∧ u.journal.slotHolds = s.journal.slotHolds ∧ u.store.holds = s.store.holds - 1
    ∧ u.latched .stranded = true ∧ u.store.bins = s.store.bins
    ∧ u.journal.entries = (s.journal.entries.map fun e => if e.number = n then { e with state := .stranded } else e)
  | .tipping _ _ n _ _ =>
    u.cover.held = s.cover.held ∧ u.journal.slotHolds = s.journal.slotHolds ∧ u.store.holds = s.store.holds
    ∧ u.latched .stranded = true
    ∧ u.journal.entries = (s.journal.entries.map fun e => if e.number = n then { e with state := .stranded } else e)
    ∧ ∀ e b, s.findEntry n = some e → e.bin = some b →
        u.bin b
          = { s.bin b with
              pending := (s.bin b).pending - 1
              mass := (s.bin b).mass - (e.mass.getD e.expected)
              value := (s.bin b).value - e.total }
  | .awaitDecl _ _ => u.cover = s.cover ∧ u.journal = s.journal ∧ u.store = s.store
  | .idle => u.cover = s.cover ∧ u.journal = s.journal ∧ u.store = s.store
  | .fault => u.cover = s.cover ∧ u.journal = s.journal ∧ u.store = s.store
  | .offline => u.cover = s.cover ∧ u.journal = s.journal ∧ u.store = s.store

/-- A transaction in OPEN is released: its three holds go. -/
theorem endTransaction_opened (s : State) (h : Hatch) (x : Drop) {t : Snapshot} {d : Declared} {o p : Bool}
    {dl : Option Nat} (e : s.drop h = .opened t d o p dl) :
    s.endTransaction h x
      = ((((s.setDrop h x).releaseCover d.total).removeSlot).removeStoreHold).evalIntake := by
  simp [endTransaction, e]

theorem endTransaction_weighing (s : State) (h : Hatch) (x : Drop) {t : Snapshot} {d : Declared} {n dl : Nat}
    (e : s.drop h = .weighing t d n dl) :
    s.endTransaction h x = (((s.setDrop h x).strandEntry n).removeStoreHold).evalIntake := by
  simp [endTransaction, e]

theorem endTransaction_tipping (s : State) (h : Hatch) (x : Drop) {t : Snapshot} {d : Declared} {n dl : Nat}
    {target : BitVec 8} (e : s.drop h = .tipping t d n target dl) :
    s.endTransaction h x = (((s.setDrop h x).strandEntry n).releasePending n).evalIntake := by
  simp [endTransaction, e]

/-- A machine that owns nothing changes its state alone. -/
theorem endTransaction_plain (s : State) (h : Hatch) (x : Drop) (e : (s.drop h).inFlight = false) :
    s.endTransaction h x = s.setDrop h x := by
  unfold endTransaction
  cases d : s.drop h <;> simp_all [Drop.inFlight]

theorem endTransaction_endedFrom (s : State) (h : Hatch) (x : Drop) :
    EndedFrom s (s.endTransaction h x) (s.drop h) := by
  cases e : s.drop h with
  | opened t d o p dl =>
    rw [endTransaction_opened s h x e]
    simp [EndedFrom, releaseCover, removeSlot]
  | weighing t d n dl =>
    rw [endTransaction_weighing s h x e]
    have strand := ((removeStoreHold_grows _).trans (evalIntake_grows _)).stays _
      (strandEntry_latched (s.setDrop h x) n)
    simp [EndedFrom, strand, strandEntry_entries]
  | tipping t d n target dl =>
    rw [endTransaction_tipping s h x e]
    have strand := ((releasePending_grows _ n).trans (evalIntake_grows _)).stays _
      (strandEntry_latched (s.setDrop h x) n)
    refine ⟨by simp, by simp, by simp, strand, by simp [strandEntry_entries], fun entry b found has => ?_⟩
    have stranded : ((s.setDrop h x).strandEntry n).findEntry n = some { entry with state := .stranded } := by
      rw [findEntry_strandEntry, findEntry_of_journal (setDrop_journal s h x), found]
      rfl
    have same : ((s.setDrop h x).strandEntry n).bin b = s.bin b := bin_of_store (by simp) b
    rw [bin_of_store (congrArg Store.bins (evalIntake_store _)), releasePending_bin _ stranded has, same]
  | offline | idle | awaitDecl | fault =>
    rw [endTransaction_plain s h x (by rw [e]; rfl)]
    exact ⟨rfl, rfl, rfl⟩

/-- An ending counts no cancellation but those that its evaluation of intake makes. -/
theorem endTransaction_cancels_get (s : State) (h : Hatch) (x : Drop) {i : Fin 5} (other : i ≠ 4) :
    (s.endTransaction h x).office.cancels.get i = s.office.cancels.get i := by
  cases e : s.drop h with
  | opened => rw [endTransaction_opened s h x e, evalIntake_cancels_get _ other]; simp [releaseCover, removeStoreHold]
  | weighing => rw [endTransaction_weighing s h x e, evalIntake_cancels_get _ other]; simp [strandEntry, removeStoreHold]
  | tipping => rw [endTransaction_tipping s h x e, evalIntake_cancels_get _ other]; simp [strandEntry, releasePending]
  | offline | idle | awaitDecl | fault => rw [endTransaction_plain s h x (by rw [e]; rfl), setDrop_office]

/-! ## A faulted hatch -/

theorem faultHatch_stays (s : State) (h : Hatch) (e : s.drop h = .offline ∨ s.drop h = .fault) :
    s.faultHatch h = s.modPort h fun p => { p with faultFlag := true } := by
  have same : (s.modPort h fun p => { p with faultFlag := true }).drop h = s.drop h := by simp [drop]
  unfold faultHatch
  rcases e with e | e <;> simp [same, e]

theorem faultHatch_ends (s : State) (h : Hatch) (up : s.drop h ≠ .offline) (sound : s.drop h ≠ .fault) :
    s.faultHatch h = (s.modPort h fun p => { p with faultFlag := true }).endTransaction h .fault := by
  have same : (s.modPort h fun p => { p with faultFlag := true }).drop h = s.drop h := by simp [drop]
  unfold faultHatch
  cases e : s.drop h <;> simp_all

theorem faultHatch_endedFrom (s : State) (h : Hatch) : EndedFrom s (s.faultHatch h) (s.drop h) := by
  by_cases stays : s.drop h = .offline ∨ s.drop h = .fault
  · rw [faultHatch_stays s h stays]
    rcases stays with e | e <;> (rw [e]; exact ⟨rfl, rfl, rfl⟩)
  · obtain ⟨up, sound⟩ := not_or.1 stays
    have ended := endTransaction_endedFrom (s.modPort h fun p => { p with faultFlag := true }) h .fault
    have same : (s.modPort h fun p => { p with faultFlag := true }).drop h = s.drop h := by simp [drop]
    rw [faultHatch_ends s h up sound]
    rw [same] at ended
    cases e : s.drop h <;> (rw [e] at ended; exact ended)

theorem faultHatch_cancels_get (s : State) (h : Hatch) {i : Fin 5} (other : i ≠ 4) :
    (s.faultHatch h).office.cancels.get i = s.office.cancels.get i := by
  by_cases stays : s.drop h = .offline ∨ s.drop h = .fault
  · rw [faultHatch_stays s h stays, modPort_office]
  · obtain ⟨up, sound⟩ := not_or.1 stays
    rw [faultHatch_ends s h up sound, endTransaction_cancels_get _ h _ other, modPort_office]

/-! ## A link that leaves UP -/

theorem dropLink_uncommitted (s : State) (h : Hatch) (e : (s.drop h).code = 2 ∨ (s.drop h).code = 3) :
    s.dropLink h = (s.endTransaction h .offline).countCancel .linkLost := by
  unfold dropLink
  cases d : s.drop h <;> simp_all [Drop.code]

theorem dropLink_committed (s : State) (h : Hatch) (e : (s.drop h).code = 4 ∨ (s.drop h).code = 5) :
    s.dropLink h = (s.endTransaction h .offline).modPort h fun p => { p with faultFlag := true } := by
  unfold dropLink
  cases d : s.drop h <;> simp_all [Drop.code]

theorem dropLink_plain (s : State) (h : Hatch) (e : (s.drop h).code = 1 ∨ (s.drop h).code = 6) :
    s.dropLink h = s.endTransaction h .offline := by
  unfold dropLink
  cases d : s.drop h <;> simp_all [Drop.code]

theorem dropLink_offline (s : State) (h : Hatch) (e : s.drop h = .offline) : s.dropLink h = s := by
  simp [dropLink, e]

end State

/-- The classes of drop state that the loss of a link tells apart. -/
theorem Drop.code_cases (d : Drop) :
    d = .offline ∨ (d.code = 1 ∨ d.code = 6) ∨ (d.code = 2 ∨ d.code = 3) ∨ (d.code = 4 ∨ d.code = 5) := by
  cases d <;> simp [Drop.code]

namespace State

theorem dropLink_endedFrom (s : State) (h : Hatch) : EndedFrom s (s.dropLink h) (s.drop h) := by
  have ended := endTransaction_endedFrom s h .offline
  rcases Drop.code_cases (s.drop h) with e | e | e | e
  · rw [dropLink_offline s h e, e]
    exact ⟨rfl, rfl, rfl⟩
  · rwa [dropLink_plain s h e]
  · rw [dropLink_uncommitted s h e]
    cases d : s.drop h <;> (rw [d] at ended; exact ended)
  · rw [dropLink_committed s h e]
    cases d : s.drop h <;> (rw [d] at ended; exact ended)

/-- The machine is OFFLINE, and a bag committed is remembered by the fault flag (R25). -/
theorem dropLink_port_self (s : State) (h : Hatch) :
    (s.dropLink h).port h
      = { s.port h with
          drop := .offline
          faultFlag := (s.port h).faultFlag || decide ((s.drop h).code = 4 ∨ (s.drop h).code = 5) } := by
  have ended := endTransaction_port_self s h .offline (by decide)
  rcases Drop.code_cases (s.drop h) with e | e | e | e
  · rw [dropLink_offline s h e, e]
    simp [Drop.code, ← e, drop]
  · rw [dropLink_plain s h e, ended]
    rcases e with e | e <;> simp [e]
  · rw [dropLink_uncommitted s h e, port_of_ports (countCancel_ports _ _), ended]
    rcases e with e | e <;> simp [e]
  · rw [dropLink_committed s h e, modPort_port_self, ended]
    simp [e]

theorem dropLink_drop_self (s : State) (h : Hatch) : (s.dropLink h).drop h = .offline :=
  congrArg Port.drop (dropLink_port_self s h)

/-- LINK_LOST counts an uncommitted transaction alone (R16, R25). -/
theorem dropLink_linkLost (s : State) (h : Hatch) :
    (s.dropLink h).office.cancels.get 3
      = if (s.drop h).code = 2 ∨ (s.drop h).code = 3 then bump (s.office.cancels.get 3)
        else s.office.cancels.get 3 := by
  have ended := endTransaction_cancels_get s h .offline (i := 3) (by decide)
  rcases Drop.code_cases (s.drop h) with e | e | e | e
  · rw [dropLink_offline s h e, if_neg (by simp [e, Drop.code])]
  · rw [dropLink_plain s h e, ended, if_neg (by omega)]
  · rw [dropLink_uncommitted s h e, if_pos e, ← ended]
    exact Tab.get_put_self _ _ _
  · rw [dropLink_committed s h e, modPort_office, ended, if_neg (by omega)]

/-! ## The alarm set of a report -/

/-- An alarm of a report that faults the hatch (R24). -/
def alarmOn (s : State) (h : Hatch) (given : Bool) (f : Flag) : State :=
  if given then (s.raise f).faultHatch h else s

/-- PRINTER_FAULT leaves the display for receipts (R24). -/
def printerOn (s : State) (h : Hatch) (given : Bool) : State :=
  if given then (s.raise .printer).modPort h fun p => { p with receiptMode := .display } else s

theorem takeAlarms_eq (s : State) (h : Hatch) (r : HeadReport) (surround : Bool) :
    s.takeAlarms h r surround
      = ((s.alarmOn h (r.tamper || surround) .headAlarm).alarmOn h r.chuteBlocked .jam).printerOn h r.printerFault :=
  rfl

theorem alarmOn_grows (s : State) (h : Hatch) (given : Bool) (f : Flag) : Grows s (s.alarmOn h given f) :=
  .ite ((raise_grows s f).trans (faultHatch_grows _ h)) (.refl s)

theorem alarmOn_latched (s : State) (h : Hatch) {given : Bool} (f : Flag) (on : given = true) :
    (s.alarmOn h given f).latched f = true := by
  subst on
  exact (faultHatch_grows _ h).stays _ (raise_latched s f)

theorem alarmOn_drop (s : State) (h : Hatch) (given : Bool) (f : Flag) :
    (s.alarmOn h given f).drop h
      = if given = true then (if s.drop h = .offline then .offline else .fault) else s.drop h := by
  cases given
  · rfl
  · refine (faultHatch_drop_self (s.raise f) h).trans ?_
    rw [drop_of_ports (raise_ports s f)]
    rfl

theorem printerOn_grows (s : State) (h : Hatch) (given : Bool) : Grows s (s.printerOn h given) :=
  .ite ((raise_grows s _).trans (.ofFlags rfl)) (.refl s)

theorem printerOn_drop (s : State) (h : Hatch) (given : Bool) : (s.printerOn h given).drop h = s.drop h := by
  cases given
  · rfl
  · simp [printerOn, drop, port_of_ports (raise_ports s .printer)]

/-- The drop state after the alarm set. -/
theorem takeAlarms_drop (s : State) (h : Hatch) (r : HeadReport) (surround : Bool) :
    (s.takeAlarms h r surround).drop h
      = if r.tamper = true ∨ surround = true ∨ r.chuteBlocked = true then
          (if s.drop h = .offline then .offline else .fault)
        else s.drop h := by
  rw [takeAlarms_eq, printerOn_drop, alarmOn_drop, alarmOn_drop]
  cases r.tamper <;> cases surround <;> cases r.chuteBlocked <;> by_cases o : s.drop h = .offline <;> simp [o]

end State

open State in
/-- Settles O53: every ending is `endTransaction` from the drop state, and what a fault or a lost link adds to it is
the fault flag, the count of LINK_LOST or the alarm. -/
theorem faultsAndLinkLossEndTransactions : Obligations.FaultsAndLinkLossEndTransactions := by
  unfold Obligations.FaultsAndLinkLossEndTransactions
  refine ⟨fun s h => ?_, fun s h r surround => ⟨fun given => ?_, fun given => ?_, fun given => ?_, fun given => ?_,
    fun tamper quiet chute => ?_⟩⟩
  · have fault := faultHatch_endedFrom s h
    have lost := dropLink_endedFrom s h
    refine ⟨⟨by simp, by simp, by simp, ?_⟩, ⟨by simp, by simp, by simp, ?_⟩, ?_, faultHatch_drop_self s h,
      dropLink_drop_self s h, ?_, fun e => ?_, fun e1 e2 => ?_, faultHatch_cancels_get s h (by decide)⟩
    · cases e : s.drop h <;> (rw [e] at fault; exact fault)
    · cases e : s.drop h <;> (rw [e] at lost; exact lost)
    · rw [faultHatch_port_self]
    · rw [dropLink_port_self]
    · rw [dropLink_linkLost, if_pos e]
      rfl
    · rw [dropLink_linkLost, if_neg (not_or.2 ⟨e1, e2⟩)]
  · exact ((alarmOn_grows _ _ _ _).trans (printerOn_grows _ _ _)).stays _ (alarmOn_latched s h _ (by simpa using given))
  · exact (printerOn_grows _ _ _).stays _ (alarmOn_latched _ h _ given)
  · rw [takeAlarms_drop, if_pos given]
  · rw [takeAlarms_eq, given]
    exact ⟨raise_latched _ _, by simp [printerOn]⟩
  · rw [takeAlarms_drop, if_neg (by simp [tamper, quiet, chute])]

end Sys2Proof.Machine
end

section
/-! PROOFS. A passed declaration, the commit, the verdict and the arrival (R11, R13, R17, R20). -/

namespace Sys2Proof.Machine

open Sys2Proof

namespace State

/-! ## Ports and flags -/

/-- Two changes at one port are one. -/
theorem modPort_modPort (s : State) (h : Hatch) (f g : Port → Port) :
    (s.modPort h f).modPort h g = s.modPort h fun p => g (f p) := by
  simp [modPort, setPort, setPorts, port]

theorem setDrop_port_link (s : State) (h k : Hatch) (d : Drop) :
    ((s.setDrop h d).port k).link = (s.port k).link := by
  rw [setDrop_port]
  split
  · next e => rw [e]
  · rfl

theorem queue_of_store {s t : State} (e : t.store.queues = s.store.queues) (k : Hatch) : t.queue k = s.queue k := by
  simp [queue, e]

/-- A flag that rises changes nothing but the office port. -/
theorem raise_only_office (s : State) (f : Flag) : s.raise f = s.setOffice (s.raise f).office := by
  unfold raise
  (repeat' split) <;> rfl

/-! ## The four holds (R11) -/

theorem placeHolds_drop (s : State) (h : Hatch) (t : Snapshot) (d : Declared) :
    (s.placeHolds h t d).drop h = .opened t d false false (some (s.now + Config.openTime))
      ∧ ((s.placeHolds h t d).port h).showDue = some 25 := by
  unfold placeHolds
  have shown : ∀ (u : State) (x : Drop), ((u.setDrop h x).showAt h 25).port h
      = { u.port h with drop := x, showDue := some 25 } := fun u x => by
    rw [showAt_port, if_pos rfl, setDrop_port, if_pos rfl]
  have opened : ∀ (u : State) (x : Drop), ((u.setDrop h x).showAt h 25).drop h = x := fun u x =>
    congrArg Port.drop (shown u x)
  rw [evalIntake_drop_eq _ _ (by rw [opened]; simp [Drop.code]), evalIntake_port_eq _ _ (by rw [opened]; simp [Drop.code]), opened, shown]
  simp

theorem placeHolds_port_link (s : State) (h k : Hatch) (t : Snapshot) (d : Declared) :
    ((s.placeHolds h t d).port k).link = (s.port k).link := by
  unfold placeHolds
  rw [evalIntake_port_link, (showAt_quiet _ _ _).link, setDrop_port_link]
  exact congrArg Port.link (port_of_ports (by simp) k)

/-! ## The commit (R13) -/

theorem slotHolds_iff (s : State) (slot : Slot) (token : Nat) :
    s.slotHolds slot token = true ↔ (s.tables.depositors.get slot).map DepositorEntry.token = some token := by
  unfold slotHolds
  cases s.tables.depositors.get slot <;> simp

theorem countBag_get (s : State) (t : Snapshot) (total : Nat) (i : Slot) :
    (s.countBag t total).counts.get i
      = if i = t.slot ∧ (s.tables.depositors.get t.slot).map DepositorEntry.token = some t.entry.token then
          ⟨(s.counts.get i).bags + 1, (s.counts.get i).value + total, (s.counts.get i).token⟩
        else s.counts.get i := by
  simp only [← slotHolds_iff]
  unfold countBag
  by_cases holds : s.slotHolds t.slot t.entry.token = true
  · by_cases here : i = t.slot
    · subst here; simp [holds]
    · simp [holds, here, Tab.get_put_ne _ (Ne.symm here)]
  · simp [holds]

theorem storing_of_hand {s t : State} (e : t.office.hand = s.office.hand) : t.storing = s.storing := by
  simp [storing, e]

/-- The next number, and the epoch with it where the number wraps (R99). -/
theorem advanceNumber_journal (s : State) :
    s.advanceNumber.journal
      = if s.journal.next = Config.maxWord then
          { s.journal with next := 1, epoch := (s.journal.epoch + 1) % 65536 }
        else { s.journal with next := s.journal.next + 1 } := by
  unfold advanceNumber
  split <;> simp

theorem wrapWrite_tableStore (s : State) :
    s.wrapWrite.tableStore
      = if s.tableStore.good = true ∧ s.storing = false then
          { s.tableStore with epoch := s.journal.epoch, writing := true }
        else s.tableStore := by
  unfold wrapWrite
  cases s.tableStore.good <;> cases s.storing <;> rfl

/-- The epoch of a wrap is written while the table store is good and no STORE_TABLES is in flight (R183). -/
theorem advanceNumber_tableStore (s : State) :
    s.advanceNumber.tableStore
      = if s.journal.next = Config.maxWord ∧ s.tableStore.good = true ∧ s.storing = false then
          { s.tableStore with epoch := (s.journal.epoch + 1) % 65536, writing := true }
        else s.tableStore := by
  unfold advanceNumber
  by_cases wrap : s.journal.next = Config.maxWord
  · rw [if_pos wrap, wrapWrite_tableStore]
    have free (j : Journal) : (s.setJournal j).storing = s.storing := rfl
    simp [wrap, free]
  · simp [wrap]

/-- A new entry takes a slot hold's place at the newest end (R98). -/
theorem appendEntry_journal (s : State) (e : Entry) :
    (s.appendEntry e).journal.entries = s.journal.entries ++ [e]
      ∧ (s.appendEntry e).journal.slotHolds = s.journal.slotHolds - 1
      ∧ (s.appendEntry e).journal.last = e.number
      ∧ (s.appendEntry e).journal.next = (if s.journal.next = Config.maxWord then 1 else s.journal.next + 1)
      ∧ (s.appendEntry e).journal.epoch
        = (if s.journal.next = Config.maxWord then (s.journal.epoch + 1) % 65536 else s.journal.epoch) := by
  unfold appendEntry
  by_cases wrap : s.journal.next = Sys2Proof.Config.maxWord <;> simp [advanceNumber_journal, removeSlot, wrap]

theorem appendEntry_tableStore (s : State) (e : Entry) :
    (s.appendEntry e).tableStore
      = if s.journal.next = Config.maxWord ∧ s.tableStore.good = true ∧ s.storing = false then
          { s.tableStore with epoch := (s.journal.epoch + 1) % 65536, writing := true }
        else s.tableStore := by
  unfold appendEntry
  rw [evalJournal_tableStore, advanceNumber_tableStore]
  rfl

@[simp] theorem appendEntry_office_count (s : State) (e : Entry) :
    (s.appendEntry e).office.count = s.office.count := by
  simp [appendEntry]

/-- A commit is counted toward the mitigation. -/
theorem noteCommit_count (s : State) : s.noteCommit.office.count = bump s.office.count := by
  have timer (u : State) : u.startTimer.office.count = u.office.count := by
    unfold startTimer
    split <;> rfl
  have triggers (u : State) : u.countTriggers.office.count = u.office.count := by
    unfold countTriggers
    (repeat' split) <;> rfl
  unfold noteCommit
  rw [triggers, timer]
  rfl

/-- What the commit does before the entry: D moves to S and the night counters rise. -/
def committed (s : State) (t : Snapshot) (d : Declared) : State := (s.commitCover d.total).countBag t d.total

theorem commit_eq (s : State) (h : Hatch) (t : Snapshot) (d : Declared) :
    s.commit h t d
      = (((s.committed t d).appendEntry (s.newEntry h t d)).noteCommit).setDrop h
          (.weighing t d s.journal.next (s.now + Config.weighTime)) := rfl

theorem committed_kept (s : State) (t : Snapshot) (d : Declared) : Kept s (s.committed t d) :=
  (commitCover_kept s _).trans (countBag_kept _ _ _)

@[simp] theorem committed_journal (s : State) (t : Snapshot) (d : Declared) : (s.committed t d).journal = s.journal := by
  simp [committed]
@[simp] theorem committed_store (s : State) (t : Snapshot) (d : Declared) : (s.committed t d).store = s.store := by
  simp [committed]
@[simp] theorem committed_tables (s : State) (t : Snapshot) (d : Declared) : (s.committed t d).tables = s.tables := by
  simp [committed]
@[simp] theorem committed_tableStore (s : State) (t : Snapshot) (d : Declared) :
    (s.committed t d).tableStore = s.tableStore := by
  simp [committed]
@[simp] theorem committed_ports (s : State) (t : Snapshot) (d : Declared) : (s.committed t d).ports = s.ports := by
  simp [committed]
@[simp] theorem committed_office_count (s : State) (t : Snapshot) (d : Declared) :
    (s.committed t d).office.count = s.office.count := by
  simp [committed, commitCover]

theorem committed_cover (s : State) (t : Snapshot) (d : Declared) :
    (s.committed t d).cover.held = s.cover.held - d.total
      ∧ (s.committed t d).cover.committed = s.cover.committed + d.total := by
  simp [committed, commitCover]

theorem committed_counts (s : State) (t : Snapshot) (d : Declared) (i : Slot) :
    (s.committed t d).counts.get i
      = if i = t.slot ∧ (s.tables.depositors.get t.slot).map DepositorEntry.token = some t.entry.token then
          ⟨(s.counts.get i).bags + 1, (s.counts.get i).value + d.total, (s.counts.get i).token⟩
        else s.counts.get i := by
  unfold committed
  rw [countBag_get]
  simp [commitCover]

end State

open State in
/-- Settles O51: the holds are those of `placeHolds`, and the commit is the moved D, the appended entry and the
counted commit, one lemma for each. -/
theorem holdsArePlacedAndCommitted : Obligations.HoldsArePlacedAndCommitted := by
  unfold Obligations.HoldsArePlacedAndCommitted
  refine ⟨fun s h t x => ?_, fun s h t d c clock => ?_⟩
  · obtain ⟨drop, shown⟩ := placeHolds_drop s h t x
    exact ⟨by simp [placeHolds, holdCover], by simp [placeHolds, holdCover],
      by simp [placeHolds, placeSlot], by simp [placeHolds, placeSlot],
      by simp [placeHolds, placeStoreHold], by simp [placeHolds, placeStoreHold], by simp [placeHolds, placeStoreHold],
      drop, shown, by simp [placeHolds], by simp [placeHolds], fun k => placeHolds_port_link s h k t x⟩
  · obtain ⟨entries, slots, last, next, epoch⟩ := appendEntry_journal (s.committed t d) (s.newEntry h t d)
    have stored := appendEntry_tableStore (s.committed t d) (s.newEntry h t d)
    obtain ⟨held, moved⟩ := committed_cover s t d
    rw [committed_journal] at entries slots next epoch
    rw [committed_journal, committed_tableStore, storing_of_hand (committed_kept s t d).hand] at stored
    have created : (s.newEntry h t d).created = c := by simp [newEntry, stampTime, clock]
    rw [commit_eq]
    refine ⟨by simp [held], by simp [moved], ?_, by simp [slots], ?_, fun plain => ?_,
      fun wrap => ?_, fun i => ?_, setDrop_drop_self _ _ _, ?_, by simp, by simp, by simp, by simp, fun k => ?_⟩
    · simp only [setDrop_journal, noteCommit_journal, entries, ← created]
      rfl
    · rw [setDrop_journal, noteCommit_journal, last]
      rfl
    · have step : s.journal.next ≠ Config.maxWord := plain
      simp only [setDrop_journal, noteCommit_journal, setDrop_tableStore, noteCommit_tableStore, next, epoch, stored,
        step, if_false, false_and, and_self]
    · have turn : s.journal.next = Config.maxWord := wrap
      simp only [setDrop_journal, noteCommit_journal, setDrop_tableStore, noteCommit_tableStore, next, epoch, stored,
        turn, if_true, true_and]
      refine ⟨fun good free => if_pos ⟨good, free⟩, fun kept => if_neg fun ⟨good, free⟩ => ?_⟩
      rcases kept with bad | busy
      · simp [bad] at good
      · simp [busy] at free
    · simp [committed_counts]
    · simp [noteCommit_count, bump, Config.maxCount]
    · rw [setDrop_port_link]
      exact congrArg Port.link (port_of_ports (by simp) k)

namespace State

/-! ## The verdict (R17, R18) -/

end State

theorem verdictOf_eq (r : Reasons) :
    verdictOf r = if r.tagSuspect || r.overrange || r.low || r.high || r.unstable then .quarantined else .accepted := by
  obtain ⟨a, b, c, d, e⟩ := r
  revert a b c d e
  decide

theorem Config.binCapacity_eq (b : BinNo) : Sys2Proof.Config.binCapacity b = if b = 0 then 24 else 12 := by
  exact if_congr Fin.val_eq_zero_iff rfl rfl

namespace State

/-- A store hold becomes a pending place of the bin (R116). -/
theorem placePending_store (s : State) (b : BinNo) (mass total : Nat) :
    (s.placePending b mass total).store.holds = s.store.holds - 1
      ∧ (s.placePending b mass total).store.queues = s.store.queues
      ∧ (s.placePending b mass total).bin b
        = { s.bin b with
            state :=
              if (s.bin b).arrived.length + (s.bin b).pending + 1 = (if b = 0 then 24 else 12) then .full
              else (s.bin b).state
            pending := (s.bin b).pending + 1
            mass := (s.bin b).mass + mass
            value := (s.bin b).value + total }
      ∧ ∀ c, c ≠ b → (s.placePending b mass total).bin c = s.bin c := by
  have bins (c : BinNo) := bin_of_store (s := s.setBin b
    { s.bin b with
      state := if (s.bin b).arrived.length + ((s.bin b).pending + 1) = Sys2Proof.Config.binCapacity b then .full
        else (s.bin b).state
      pending := (s.bin b).pending + 1
      mass := (s.bin b).mass + mass
      value := (s.bin b).value + total }) (t := s.placePending b mass total)
    (by simp [placePending, setBin, setStore]) c
  refine ⟨by simp [placePending, setBin], by simp [placePending, setBin], ?_, fun c other => ?_⟩
  · rw [bins, setBin_bin_self, Config.binCapacity_eq, ← Nat.add_assoc]
  · rw [bins, setBin_bin_ne _ other.symm]

theorem placePending_drop_eq (s : State) (b : BinNo) (mass total : Nat) (h : Hatch) (e : (s.drop h).code ≠ 2) :
    (s.placePending b mass total).drop h = s.drop h := by
  have same (u : State) (p : u.ports = s.ports) : u.evalIntake.drop h = s.drop h := by
    rw [evalIntake_drop_eq _ _ (by rw [drop_of_ports p]; exact e), drop_of_ports p]
  exact same _ (by simp)

/-- QUARANTINE, where the verdict asks it. -/
def flagVerdict (s : State) (v : Verdict) : State := if v = .quarantined then s.raise .quarantine else s

theorem flagVerdict_only_office (s : State) (v : Verdict) :
    s.flagVerdict v = s.setOffice (s.flagVerdict v).office := by
  unfold flagVerdict
  split
  · exact raise_only_office s _
  · rfl

/-- The verdict up to the pending place: the flag, the entry's fields and TIPPING with its target. -/
def judged (s : State) (h : Hatch) (t : Snapshot) (d : Declared) (n : Nat) (r : Reasons) (mass : Option Nat)
    (arrival : BitVec 8) : State :=
  ((s.flagVerdict (verdictOf r)).modEntry n fun e =>
      { e with
        mass := mass, verdict := some (verdictOf r), reasons := r
        route := (s.chooseBin (verdictOf r) t.entry.homeBin n).2
        bin := some (s.chooseBin (verdictOf r) t.entry.homeBin n).1 }).setDrop h
    (.tipping t d n (arrival + 1) (s.now + Sys2Proof.Config.tipTime))

/-- The bin is chosen from the bins alone, so the flag raised before does not touch the choice. -/
theorem conclude_eq (s : State) (h : Hatch) (t : Snapshot) (d : Declared) (n : Nat) (r : Reasons) (mass : Option Nat)
    (arrival : BitVec 8) :
    s.conclude h t d n r mass arrival
      = (s.judged h t d n r mass arrival).placePending (s.chooseBin (verdictOf r) t.entry.homeBin n).1
          (mass.getD d.expected) d.total := by
  have same : (s.flagVerdict (verdictOf r)).chooseBin (verdictOf r) t.entry.homeBin n
      = s.chooseBin (verdictOf r) t.entry.homeBin n := by
    rw [flagVerdict_only_office]
    rfl
  have time : (s.flagVerdict (verdictOf r)).now = s.now := by
    rw [flagVerdict_only_office]
    rfl
  unfold judged
  rw [← same, ← time]
  rfl

section
variable (s : State) (h : Hatch) (t : Snapshot) (d : Declared) (n : Nat) (r : Reasons) (mass : Option Nat)
  (arrival : BitVec 8)

theorem judged_store : (s.judged h t d n r mass arrival).store = s.store := by
  unfold judged
  rw [flagVerdict_only_office]
  rfl

theorem judged_cover : (s.judged h t d n r mass arrival).cover = s.cover := by
  unfold judged
  rw [flagVerdict_only_office]
  rfl

theorem judged_tables : (s.judged h t d n r mass arrival).tables = s.tables := by
  unfold judged
  rw [flagVerdict_only_office]
  rfl

theorem judged_journal :
    (s.judged h t d n r mass arrival).journal
      = { s.journal with
          entries := s.journal.entries.map fun e =>
            if e.number = n then
              { e with
                mass := mass, verdict := some (verdictOf r), reasons := r
                route := (s.chooseBin (verdictOf r) t.entry.homeBin n).2
                bin := some (s.chooseBin (verdictOf r) t.entry.homeBin n).1 }
            else e } := by
  unfold judged
  rw [flagVerdict_only_office]
  rfl

theorem judged_drop :
    (s.judged h t d n r mass arrival).drop h = .tipping t d n (arrival + 1) (s.now + Sys2Proof.Config.tipTime) :=
  setDrop_drop_self _ _ _

theorem judged_latched (bad : verdictOf r = .quarantined) :
    (s.judged h t d n r mass arrival).latched .quarantine = true := by
  have raised : s.flagVerdict (verdictOf r) = s.raise .quarantine := if_pos bad
  unfold judged
  rw [raised]
  exact raise_latched s _

end

/-! ## The arrival (R20) -/

/-- An arrival whose entry is found, as one change of each part. -/
theorem arrive_eq (s : State) (h : Hatch) {n : Nat} {e : Entry} (found : s.findEntry n = some e) :
    s.arrive h n
      = ((((s.modEntry n fun e => { e with state := .inTray }).setQueue h (s.queue h ++ [n])).modPort h fun p =>
          { p with
            receiptDue := some ⟨n, e.epoch, e.created, e.total, e.hatch⟩
            showDue := some 29, zeroArmed := true, drop := .idle }).evalIntake).arbiter := by
  have entry : ((s.modEntry n fun e => { e with state := .inTray }).setQueue h (s.queue h ++ [n])).findEntry n
      = some { e with state := .inTray } := by
    rw [findEntry_of_journal (setQueue_journal _ _ _), findEntry_modEntry s n _ (by intro; rfl), found]
    rfl
  unfold arrive receiptAt showAt
  simp only [entry, modPort_modPort, findEntry_number found]

/-- What an arrival leaves of each part. -/
theorem arrive_parts (s : State) (h : Hatch) {n : Nat} {e : Entry} (found : s.findEntry n = some e) :
    (s.arrive h n).journal
        = { s.journal with
            entries := s.journal.entries.map fun x => if x.number = n then { x with state := .inTray } else x }
      ∧ ((s.arrive h n).store.queues = (s.setQueue h (s.queue h ++ [n])).store.queues
        ∧ (s.arrive h n).store.bins = s.store.bins ∧ (s.arrive h n).store.holds = s.store.holds)
      ∧ (((s.arrive h n).port h).receiptDue = some ⟨n, e.epoch, e.created, e.total, e.hatch⟩
        ∧ ((s.arrive h n).port h).showDue = some 29 ∧ ((s.arrive h n).port h).zeroArmed = true
        ∧ (s.arrive h n).drop h = .idle)
      ∧ (s.arrive h n).cover = s.cover ∧ (s.arrive h n).tables = s.tables := by
  have port (u : State) (f : Port → Port) (idle : (f (u.port h)).drop = .idle) :
      ((u.modPort h f).evalIntake).port h = f (u.port h) := by
    rw [evalIntake_port_eq, modPort_port_self]
    simp [drop, idle, Drop.code]
  rw [arrive_eq s h found]
  refine ⟨by simp [modEntry], ⟨by simp [setQueue], by simp [setQueue], by simp [setQueue]⟩, ⟨?_, ?_, ?_, ?_⟩, by simp,
    by simp⟩
  · rw [arbiter_port_receiptDue, port _ _ rfl]
  · rw [arbiter_port_showDue, port _ _ rfl]
  · rw [arbiter_port_zeroArmed, port _ _ rfl]
  · rw [arbiter_drop, drop, port _ _ rfl]

end State

open State in
/-- Settles O52: the verdict and the arrival are read off their equations `conclude_eq` and `arrive_eq`. -/
theorem verdictAndArrival : Obligations.VerdictAndArrival := by
  unfold Obligations.VerdictAndArrival
  refine ⟨fun s h t d n r mass arrival => ?_, fun s h n e found => ?_⟩
  · dsimp only
    rw [← verdictOf_eq, conclude_eq]
    have store := judged_store s h t d n r mass arrival
    have bins (b : BinNo) := bin_of_store (congrArg Store.bins store) b
    obtain ⟨holds, queues, chosen, others⟩ := placePending_store (s.judged h t d n r mass arrival)
      (s.chooseBin (verdictOf r) t.entry.homeBin n).1 (mass.getD d.expected) d.total
    rw [store] at holds queues
    rw [bins] at chosen
    have tips := judged_drop s h t d n r mass arrival
    refine ⟨?_, ?_, holds, queues, chosen, fun b other => (others b other).trans (bins b), fun bad => ?_, ?_, ?_, ?_⟩
    · rw [placePending_journal, judged_journal]
    · rw [placePending_drop_eq _ _ _ _ _ (by simp [tips, Drop.code]), tips]
      rfl
    · exact (placePending_grows _ _ _ _).stays _ (judged_latched s h t d n r mass arrival bad)
    · rw [placePending_cover, judged_cover]
    · rw [placePending_tables, judged_tables]
    · rw [placePending_journal, judged_journal]
  · obtain ⟨journal, store, ports, cover, tables⟩ := arrive_parts s h found
    refine ⟨by rw [journal], ?_, fun k other => ?_, ?_, ?_, ?_, ?_, cover, ?_, ?_, tables, by rw [journal]⟩
    · exact (queue_of_store store.1 h).trans (setQueue_queue_self s h _)
    · exact (queue_of_store store.1 k).trans (setQueue_queue_ne s other.symm _)
    · exact ports.1
    · exact ports.2.1
    · exact ports.2.2.1
    · exact ports.2.2.2
    · exact store.2.1
    · exact store.2.2

end Sys2Proof.Machine
end

section
/-! PROOFS. The four drop deadlines (R9, R15, R18, R21). -/

namespace Sys2Proof.Machine

open Sys2Proof

namespace State

theorem exec_declTimeout (s : State) (h : Hatch) :
    exec (.declTimeout h) s = .next (s.event fun s => s.declExpiry h) := rfl
theorem exec_openTimeout (s : State) (h : Hatch) :
    exec (.openTimeout h) s = .next (s.event fun s => s.openExpiry h) := rfl
theorem exec_weighingTimeout (s : State) (h : Hatch) :
    exec (.weighingTimeout h) s = .next (s.event fun s => s.weighExpiry h) := rfl
theorem exec_tippingTimeout (s : State) (h : Hatch) :
    exec (.tippingTimeout h) s = .next (s.event fun s => s.tipExpiry h) := rfl

/-- An event of the settled controller that changes nothing. -/
theorem event_unchanged {s : State} {f : State → State} (settled : s.Settled) (same : f s = s) : s.event f = s :=
  (event_eq settled.1 (same.symm ▸ settled.2)).trans same

/-! ## Cancellations -/

/-- A machine that owns nothing is cancelled with its count and its prompt (R16). -/
theorem cancelDrop_plain (s : State) (h : Hatch) (c : Cancel) (e : (s.drop h).inFlight = false) :
    s.cancelDrop h c = (s.countCancel c).modPort h fun p => { p with drop := .idle, showDue := some 28 } := by
  unfold cancelDrop
  rw [endTransaction_plain s h .idle e]
  exact modPort_modPort (s.countCancel c) h (fun p => { p with drop := .idle }) fun p => { p with showDue := some 28 }

/-- A machine cancelled is IDLE with DROP_CANCELLED due. -/
theorem cancelDrop_port_self (s : State) (h : Hatch) (c : Cancel) :
    (s.cancelDrop h c).port h = { s.port h with drop := .idle, showDue := some 28 } := by
  have ended := endTransaction_port_self s h .idle (by decide)
  unfold cancelDrop
  rw [showAt_port, if_pos rfl, port_of_ports (countCancel_ports _ _), ended]

/-- The cancellation is counted once. -/
theorem cancelDrop_cancels_get (s : State) (h : Hatch) (c : Cancel) (other : c.index ≠ 4) :
    (s.cancelDrop h c).office.cancels.get c.index = bump (s.office.cancels.get c.index) := by
  rw [← endTransaction_cancels_get s h .idle other]
  exact Tab.get_put_self _ _ _

/-- What an open drop cancelled has released. -/
theorem cancelDrop_opened (s : State) (h : Hatch) (c : Cancel) {t : Snapshot} {d : Declared} {o p : Bool}
    {dl : Option Nat} (e : s.drop h = .opened t d o p dl) : EndedFrom s (s.cancelDrop h c) (.opened t d o p dl) :=
  e ▸ endTransaction_endedFrom s h .idle

/-! ## Each deadline in force -/

theorem declExpiry_await (s : State) (h : Hatch) {t : Snapshot} {dl : Nat} (e : s.drop h = .awaitDecl t dl) :
    s.declExpiry h = (s.reach dl).cancelDrop h .declTimeout := by
  simp [declExpiry, e]

theorem openExpiry_unopened (s : State) (h : Hatch) {t : Snapshot} {d : Declared} {p : Bool} {dl : Nat}
    (e : s.drop h = .opened t d false p (some dl)) : s.openExpiry h = (s.reach dl).cancelDrop h .openTimeout := by
  simp [openExpiry, e]

theorem flapLastOpen_iff (s : State) (h : Hatch) :
    s.flapLastOpen h = true ↔ (s.port h).snapshot.map HeadReport.flap = some .opened := by
  unfold flapLastOpen
  cases (s.port h).snapshot <;> simp

/-- The OPEN deadline past an opened flap: the mark, and FLAP_LEFT_OPEN where no drive can shut it (R15). -/
theorem openExpiry_opened (s : State) (h : Hatch) {t : Snapshot} {d : Declared} {p : Bool} {dl : Nat}
    (e : s.drop h = .opened t d true p (some dl)) :
    s.openExpiry h
      = if (s.port h).snapshot.map HeadReport.flap = some .opened ∧ (s.port h).caps.flapDrive = false then
          ((s.reach dl).setDrop h (.opened t d true true none)).raise .flapLeftOpen
        else (s.reach dl).setDrop h (.opened t d true true none) := by
  have passes : s.openExpiry h = (s.reach dl).passTimeout h t d := by simp [openExpiry, e]
  have same : (s.reach dl).flapLastOpen h = s.flapLastOpen h := rfl
  have drive : (s.reach dl).port h = s.port h := rfl
  rw [passes]
  unfold passTimeout
  simp only [same, drive, ← flapLastOpen_iff, Bool.and_eq_true, Bool.not_eq_true']

theorem weighExpiry_weighing (s : State) (h : Hatch) {t : Snapshot} {d : Declared} {n dl : Nat} {r : HeadReport}
    (e : s.drop h = .weighing t d n dl) (snap : (s.port h).snapshot = some r) :
    s.weighExpiry h = (s.reach dl).conclude h t d n (unstableReasons d) none r.arrival := by
  simp [weighExpiry, e, lastArrival, snap]

theorem tipExpiry_tipping (s : State) (h : Hatch) {t : Snapshot} {d : Declared} {n dl : Nat} {target : BitVec 8}
    (e : s.drop h = .tipping t d n target dl) : s.tipExpiry h = ((s.reach dl).raise .jam).faultHatch h := by
  simp [tipExpiry, e]

/-! ## Deadlines not in force (log entry 8) -/

theorem declExpiry_idle (s : State) (h : Hatch) (e : (s.drop h).code ≠ 2) : s.declExpiry h = s := by
  unfold declExpiry
  cases d : s.drop h with
  | awaitDecl => exact absurd (by rw [d]; rfl) e
  | _ => rfl

theorem openExpiry_idle (s : State) (h : Hatch) (e : (s.drop h).code ≠ 3 ∨ (s.drop h).deadline = none) :
    s.openExpiry h = s := by
  unfold openExpiry
  cases d : s.drop h with
  | opened t x o p dl =>
    rcases e with e | e
    · exact absurd (by rw [d]; rfl) e
    · have none : dl = none := by simpa [d, Drop.deadline] using e
      subst none
      cases o <;> rfl
  | _ => rfl

theorem weighExpiry_idle (s : State) (h : Hatch) (e : (s.drop h).code ≠ 4) : s.weighExpiry h = s := by
  unfold weighExpiry
  cases d : s.drop h with
  | weighing => exact absurd (by rw [d]; rfl) e
  | _ => rfl

theorem tipExpiry_idle (s : State) (h : Hatch) (e : (s.drop h).code ≠ 5) : s.tipExpiry h = s := by
  unfold tipExpiry
  cases d : s.drop h with
  | tipping => exact absurd (by rw [d]; rfl) e
  | _ => rfl

end State

open State in
/-- Settles O50: one equation for each deadline in force, and none has an effect out of it. -/
theorem dropTimeouts : Obligations.DropTimeouts := by
  unfold Obligations.DropTimeouts
  refine ⟨fun s h settled => ⟨fun t dl e => ?_, fun t d past dl e => ?_, fun t d past dl e => ?_,
    fun t d n dl e r snap => ?_, fun t d n target dl e => ?_⟩, fun s h settled => ⟨fun e => ?_, fun e => ?_, fun e => ?_,
    fun e => ?_⟩⟩
  · have cancels : s.declExpiry h
        = ((s.reach dl).countCancel .declTimeout).modPort h fun p => { p with drop := .idle, showDue := some 28 } := by
      rw [declExpiry_await s h e]
      exact cancelDrop_plain (s.reach dl) h _ (congrArg Drop.inFlight e)
    have quiet := event_settled (f := fun s => s.declExpiry h) settled
      (cancels ▸ ((reach_kept s dl).trans (countCancel_kept _ _)).trans (modPort_kept _ _ _)) (cancels ▸ rfl)
    rw [exec_declTimeout, quiet, cancels]
    rfl
  · obtain ⟨held, slots, holds, entries, bins⟩ := cancelDrop_opened (s.reach dl) h .openTimeout e
    have port := cancelDrop_port_self (s.reach dl) h .openTimeout
    refine ⟨((s.reach dl).cancelDrop h .openTimeout).pump, ?_, ?_, ?_, ?_, ?_, ?_, ?_, ?_, ?_, ?_, ?_, ?_, ?_⟩
    · rw [exec_openTimeout, event_run _ settled.1, openExpiry_unopened s h e]
    · rw [pump_drop, drop, port]
    · rw [pump_port, port]
    · rw [pump_office_cancels]
      exact cancelDrop_cancels_get (s.reach dl) h .openTimeout (by decide)
    · rw [pump_cover, held]
      rfl
    · rw [pump_cover]
      simp [cancelDrop]
    · rw [pump_journal, slots]
      rfl
    · rw [pump_journal, entries]
      rfl
    · rw [pump_store, holds]
      rfl
    · rw [pump_store, bins]
      rfl
    · rw [pump_store]
      simp [cancelDrop]
    · simp [cancelDrop]
    · simp [cancelDrop, reach]
  · have opened := openExpiry_opened s h e
    rw [exec_openTimeout]
    split
    · next left =>
      rw [event_run _ settled.1, opened, if_pos left]
      rfl
    · next left =>
      rw [if_neg left] at opened
      have quiet := event_settled (f := fun s => s.openExpiry h) settled
        (opened ▸ (reach_kept s dl).trans (setDrop_kept _ _ _)) (opened ▸ rfl)
      rw [quiet, opened]
      rfl
  · rw [exec_weighingTimeout, event_run _ settled.1, weighExpiry_weighing s h e snap]
    rfl
  · rw [exec_tippingTimeout, event_run _ settled.1, tipExpiry_tipping s h e]
    rfl
  · rw [exec_declTimeout, event_unchanged settled (declExpiry_idle s h e)]
  · rw [exec_openTimeout, event_unchanged settled (openExpiry_idle s h e)]
  · rw [exec_weighingTimeout, event_unchanged settled (weighExpiry_idle s h e)]
  · rw [exec_tippingTimeout, event_unchanged settled (tipExpiry_idle s h e)]

end Sys2Proof.Machine
end

section
/-! PROOFS. ANSWER (R154, R155, R26, R119). -/

namespace Sys2Proof.Machine

open Sys2Proof

namespace State

theorem exec_answer (s : State) (h : Hatch) (c : Bool) (a : HeadAnswer) :
    exec (.answer h c a) s = .next (s.event fun s => s.frameEvent h c (.answer a)) := rfl

/-! ## A failed verification -/

/-- A part of the state that the steps of a failed verification leave alone. -/
theorem failVerification_part {β : Type} (p : State → β) (strand : ∀ s n, p (strandFromTray s n) = p s)
    (queue : ∀ (s : State) h q, p (s.setQueue h q) = p s) (port : ∀ (s : State) h f, p (s.modPort h f) = p s)
    (flag : ∀ s f, p (raise s f) = p s) (intake : ∀ s, p (evalIntake s) = p s)
    (grant : ∀ s h, p (withdrawGrant s h) = p s) (s : State) (h : Hatch) : p (s.failVerification h) = p s := by
  unfold failVerification
  rw [grant, intake, flag, port, queue, foldl_field p strand]

@[simp] theorem failVerification_tables (s : State) (h : Hatch) : (s.failVerification h).tables = s.tables :=
  failVerification_part State.tables (by simp [strandFromTray]) (by simp) (by simp) (by simp) (by simp) (by simp) s h
@[simp] theorem failVerification_cover (s : State) (h : Hatch) : (s.failVerification h).cover = s.cover :=
  failVerification_part State.cover (by simp [strandFromTray]) (by simp) (by simp) (by simp) (by simp) (by simp) s h
@[simp] theorem failVerification_now (s : State) (h : Hatch) : (s.failVerification h).now = s.now :=
  failVerification_part State.now (by simp [strandFromTray]) (by simp) (by simp) (by simp) (by simp) (by simp) s h

/-- What a failed verification leaves of the hatch's port, but the release counts, the drop state and the due SHOW:
the fault flag is set. -/
theorem failVerification_port_part {β : Type} (p : Port → β)
    (c : ∀ (q : Port) (d : Drop) (x : Option Nat), p { q with drop := d, showDue := x } = p q)
    (r : ∀ (q : Port) (k : Option ReleaseCounts), p { q with release := k } = p q) (s : State) (h : Hatch) :
    p ((s.failVerification h).port h) = p { s.port h with faultFlag := true } := by
  have stranded : ((s.queue h).foldl strandFromTray s).ports = s.ports :=
    foldl_field State.ports (by simp [strandFromTray]) _ s
  unfold failVerification
  rw [withdrawGrant_port_part p r, evalIntake_port_part p c, port_of_ports (raise_ports _ _), modPort_port_self,
    port_of_ports (setQueue_ports _ _ _), port_of_ports stranded]

/-! ## The link comes UP -/

/-- The port as an ANSWER resolves it (R154, R155). -/
theorem resolveAnswer_port (s : State) (h : Hatch) (a : HeadAnswer) :
    (s.resolveAnswer h a).port h
      = { s.port h with
          caps := ⟨a.caps.weigh, a.caps.scan, (s.config h).printOffered && a.caps.print, a.caps.flapDrive⟩
          depth := min (s.config h).depth a.depth
          receiptMode := if (s.config h).printOffered && a.caps.print then .printed else .display
          link := .up
          misses := 0
          streak := 0 } := modPort_port_self _ _ _

/-- A machine that joins is in FAULT with its flag set, or IDLE where its tray agrees (R26). -/
theorem joinLink_drop (s : State) (h : Hatch) (n : Nat) :
    (s.joinLink h n).drop h = if (s.port h).faultFlag = false ∧ s.trayAgrees h n = true then .idle else .fault := by
  unfold joinLink
  cases flag : (s.port h).faultFlag <;> cases agrees : s.trayAgrees h n <;> simp

/-- What `joinLink` leaves of the port but the drop state, the due SHOW and the release counts: a tray that does
not agree sets the fault flag. -/
theorem joinLink_port_part {β : Type} (p : Port → β)
    (c : ∀ (q : Port) (d : Drop) (x : Option Nat), p { q with drop := d, showDue := x } = p q)
    (r : ∀ (q : Port) (k : Option ReleaseCounts), p { q with release := k } = p q) (s : State) (h : Hatch) (n : Nat) :
    p ((s.joinLink h n).port h)
      = p { s.port h with faultFlag := (s.port h).faultFlag || !s.trayAgrees h n } := by
  have set (u : State) (d : Drop) : p ((u.setDrop h d).port h) = p (u.port h) := by
    rw [setDrop_port, if_pos rfl]
    exact c (u.port h) d (u.port h).showDue
  have keeps (b : Bool) (e : b = (s.port h).faultFlag) : p (s.port h) = p { s.port h with faultFlag := b } := by
    subst e; rfl
  unfold joinLink
  split
  · next flag => exact (set _ _).trans (keeps _ (by simp [flag]))
  · next flag =>
    split
    · next agrees => exact (set _ _).trans (keeps _ (by simp [agrees]))
    · next fails =>
      rw [set, failVerification_port_part p c r]
      simp [fails]

theorem joinLink_kept_tables (s : State) (h : Hatch) (n : Nat) :
    (s.joinLink h n).tables = s.tables ∧ (s.joinLink h n).cover = s.cover ∧ (s.joinLink h n).now = s.now := by
  unfold joinLink
  (repeat' split) <;> simp

/-- Where the machine was flagged or its tray agrees nothing is verified away. -/
theorem joinLink_kept_store (s : State) (h : Hatch) (n : Nat) (e : (s.port h).faultFlag = true ∨ s.trayAgrees h n = true) :
    (s.joinLink h n).journal = s.journal ∧ (s.joinLink h n).store = s.store := by
  unfold joinLink
  split
  · exact ⟨rfl, rfl⟩
  · next flag =>
    rw [if_pos (e.resolve_left flag)]
    exact ⟨rfl, rfl⟩

theorem sendPoll_port (s : State) (h : Hatch) :
    (s.sendPoll h).port h
      = { s.port h with
          lineOut := some (.poll (s.pollCommands h))
          window := some (s.now + Config.windowTime)
          pollStart := s.now
          showDue := none
          receiptDue := none } := modPort_port_self _ _ _

end State

open State in
/-- Settles O47: in EXCHANGE the answer resolves the port, the machine joins and the first POLL is sent. -/
theorem answerBringsTheLinkUp : Obligations.AnswerBringsTheLinkUp := by
  unfold Obligations.AnswerBringsTheLinkUp
  intro s h a settled
  dsimp only
  split
  · next t link =>
    have taken : s.frameEvent h false (.answer a) = ((s.resolveAnswer h a).joinLink h a.trayCount).sendPoll h := by
      simp [frameEvent, takeFrame, takeAnswer, link]
    have port := resolveAnswer_port s h a
    have agrees : (s.resolveAnswer h a).trayAgrees h a.trayCount
        = ((decide (a.trayCount = (s.queue h).length)
              || (s.deliveringFor h && decide (a.trayCount + 1 = (s.queue h).length)))
            && decide ((s.queue h).length ≤ min (s.config h).depth a.depth)) := by
      unfold trayAgrees
      rw [port]
      rfl
    have flag : ((s.resolveAnswer h a).port h).faultFlag = (s.port h).faultFlag := by rw [port]
    obtain ⟨tables, cover, now⟩ := joinLink_kept_tables (s.resolveAnswer h a) h a.trayCount
    have joined {β : Type} (p : Port → β)
        (c : ∀ (q : Port) (d : Drop) (x : Option Nat), p { q with drop := d, showDue := x } = p q)
        (r : ∀ (q : Port) (k : Option ReleaseCounts), p { q with release := k } = p q) :=
      joinLink_port_part p c r (s.resolveAnswer h a) h a.trayCount
    rw [agrees, flag, port] at joined
    have state := joinLink_drop (s.resolveAnswer h a) h a.trayCount
    rw [agrees, flag] at state
    refine ⟨_, (exec_answer s h false a).trans (congrArg _ ((event_run _ settled.1).trans (congrArg _ taken))), ?_⟩
    rw [pump_drop, pump_port, drop, sendPoll_port]
    refine ⟨joined Port.link (by intros; rfl) (by intros; rfl), joined Port.caps (by intros; rfl) (by intros; rfl),
      joined Port.depth (by intros; rfl) (by intros; rfl), joined Port.receiptMode (by intros; rfl) (by intros; rfl),
      joined Port.misses (by intros; rfl) (by intros; rfl), joined Port.streak (by intros; rfl) (by intros; rfl),
      joined Port.inverted (by intros; rfl) (by intros; rfl), congrArg (fun x => some (x + Config.windowTime)) now,
      rfl, rfl, state, joined Port.faultFlag (by intros; rfl) (by intros; rfl), fun kept => ?_, ?_, ?_, ?_⟩
    · have same := joinLink_kept_store (s.resolveAnswer h a) h a.trayCount (by rw [flag, agrees]; exact kept)
      rw [pump_journal, pump_store]
      exact same
    · rw [pump_tables]
      exact tables
    · rw [pump_cover]
      exact cover
    · rw [pump_now]
      exact now
  · next link =>
    have taken : s.frameEvent h false (.answer a) = s.countBad h := by simp [frameEvent, takeFrame, takeAnswer, link]
    rw [exec_answer, event_settled settled (taken ▸ countBad_kept s h) (taken ▸ rfl), taken]
    rfl
  · next link =>
    have taken : s.frameEvent h false (.answer a) = s := by simp [frameEvent, takeFrame, takeAnswer, link]
    rw [exec_answer, event_unchanged settled taken]
  · next link =>
    have taken : s.frameEvent h false (.answer a) = s := by simp [frameEvent, takeFrame, takeAnswer, link]
    rw [exec_answer, event_unchanged settled taken]

end Sys2Proof.Machine
end

section
/-! PROOFS. A report that answers a poll (R5 to R20, R48, R158). -/

namespace Sys2Proof.Machine

open Sys2Proof

/-! ## The last seen release count stands through every part of a report -/

/-- The last seen release count of hatch `h` stands. -/
structure SeenKept (h : Hatch) (s t : State) : Prop where
  seen : (t.port h).release.map ReleaseCounts.seen = (s.port h).release.map ReleaseCounts.seen

namespace SeenKept

variable {h : Hatch} {s t u : State}

theorem refl (s : State) : SeenKept h s s := ⟨rfl⟩

theorem trans (a : SeenKept h s t) (b : SeenKept h t u) : SeenKept h s u := ⟨b.seen.trans a.seen⟩

theorem ite {c : Prop} [Decidable c] (a : SeenKept h s t) (b : SeenKept h s u) :
    SeenKept h s (if c then t else u) := by
  split <;> assumption

theorem ofRelease (e : (t.port h).release = (s.port h).release) : SeenKept h s t := ⟨by rw [e]⟩

theorem ofPorts (e : t.ports = s.ports) : SeenKept h s t := ofRelease (by rw [State.port_of_ports e])

end SeenKept

namespace State

theorem modPort_seenKept (s : State) (h k : Hatch) (f : Port → Port)
    (c : ∀ p, (f p).release.map ReleaseCounts.seen = p.release.map ReleaseCounts.seen) :
    SeenKept k s (s.modPort h f) := by
  refine ⟨?_⟩
  rw [modPort_port]
  split
  · next e => rw [e, c]
  · rfl

theorem setDrop_seenKept (s : State) (h k : Hatch) (d : Drop) : SeenKept k s (s.setDrop h d) :=
  modPort_seenKept s h k (fun p => { p with drop := d }) fun _ => rfl

theorem showAt_seenKept (s : State) (h k : Hatch) (c : Nat) : SeenKept k s (s.showAt h c) :=
  modPort_seenKept s h k (fun p => { p with showDue := some c }) fun _ => rfl

/-- A delivery raises the allowed count alone (R125). -/
theorem deliver_seenKept (s : State) (g : Grant) (b : BinNo) (k : Hatch) : SeenKept k s (s.deliver g b) :=
  (modPort_seenKept s g.hatch k
    (fun p => { p with release := p.release.map fun c => { c with allowed := s.releaseTarget g } }) fun p => by
      cases p.release <;> rfl).trans (.ofPorts rfl)

theorem arbiter_seenKept (s : State) (k : Hatch) : SeenKept k s s.arbiter := by
  unfold arbiter
  split
  · split
    · unfold grantTo
      split
      · exact .refl s
      · exact .ite ((SeenKept.ofPorts (by rfl)).trans (deliver_seenKept _ _ _ k)) (.ofPorts rfl)
    · exact .refl s
  · exact .refl s

theorem evalIntake_seenKept (s : State) (k : Hatch) : SeenKept k s s.evalIntake := .ofRelease (by simp)

theorem faultWith_seenKept (s : State) (h k : Hatch) (f : Flag) : SeenKept k s ((s.raise f).faultHatch h) :=
  .ofRelease (by rw [faultHatch_port_release, port_of_ports (raise_ports _ _)])

theorem cancelDrop_seenKept (s : State) (h k : Hatch) (c : Cancel) : SeenKept k s (s.cancelDrop h c) :=
  ((SeenKept.ofRelease (endTransaction_port_release s h k .idle)).trans (.ofPorts (countCancel_ports _ c))).trans
    (showAt_seenKept _ _ _ _)

theorem commit_seenKept (s : State) (h k : Hatch) (t : Snapshot) (d : Declared) : SeenKept k s (s.commit h t d) := by
  rw [commit_eq]
  exact (SeenKept.ofPorts (by simp)).trans (setDrop_seenKept _ _ _ _)

theorem conclude_seenKept (s : State) (h k : Hatch) (t : Snapshot) (d : Declared) (n : Nat) (r : Reasons)
    (m : Option Nat) (a : BitVec 8) : SeenKept k s (s.conclude h t d n r m a) := by
  have judged : SeenKept k s (s.judged h t d n r m a) := by
    unfold judged
    rw [flagVerdict_only_office]
    exact (SeenKept.ofPorts (by rfl)).trans (setDrop_seenKept _ _ _ _)
  rw [conclude_eq]
  exact judged.trans ((SeenKept.ofPorts (by simp)).trans (evalIntake_seenKept _ _))

theorem receiptAt_seenKept (s : State) (h k : Hatch) (n : Nat) : SeenKept k s (s.receiptAt h n) := by
  unfold receiptAt
  split
  · next e _ =>
    exact modPort_seenKept s h k
      (fun p => { p with receiptDue := some ⟨e.number, e.epoch, e.created, e.total, e.hatch⟩ }) fun _ => rfl
  · exact .refl s

theorem arrive_seenKept (s : State) (h k : Hatch) (n : Nat) : SeenKept k s (s.arrive h n) := by
  have queued : SeenKept k s ((s.modEntry n fun e => { e with state := .inTray }).setQueue h (s.queue h ++ [n])) :=
    .ofPorts rfl
  exact ((((queued.trans (receiptAt_seenKept _ _ _ _)).trans (showAt_seenKept _ _ _ _)).trans
    (modPort_seenKept _ h k (fun p => { p with zeroArmed := true, drop := .idle }) fun _ => rfl)).trans
    (evalIntake_seenKept _ _)).trans (arbiter_seenKept _ _)

theorem takeFields_seenKept (s : State) (h : Hatch) (r : HeadReport) : SeenKept h s (s.takeFields h r) := by
  unfold takeFields
  split
  · exact .refl s
  · exact .ite (faultWith_seenKept _ _ _ _) (.refl s)
  · exact .ite (faultWith_seenKept _ _ _ _) (.refl s)
  · exact .ite (faultWith_seenKept _ _ _ _) (.refl s)
  · exact .ite (setDrop_seenKept _ _ _ _) (.ite (commit_seenKept _ _ _ _ _) (.ite (cancelDrop_seenKept _ _ _ _) (.refl s)))
  · exact .ite (faultWith_seenKept _ _ _ _) (.ite (faultWith_seenKept _ _ _ _) (.ite (conclude_seenKept _ _ _ _ _ _ _ _ _) (.refl s)))
  · exact .ite (faultWith_seenKept _ _ _ _) (.ite (arrive_seenKept _ _ _ _) (.refl s))

theorem captureZero_seenKept (s : State) (h : Hatch) (r : HeadReport) : SeenKept h s (s.captureZero h r) := by
  have disarmed := modPort_seenKept s h h (fun p => { p with zeroArmed := false }) fun _ => rfl
  exact .ite (.ite (disarmed.trans (.ofPorts rfl)) (disarmed.trans (.ofPorts (raise_ports _ _)))) (.refl s)

theorem takePlate_seenKept (s : State) (h : Hatch) (r : HeadReport) : SeenKept h s (s.takePlate h r) :=
  .ite ((takeFields_seenKept s h r).trans (captureZero_seenKept _ _ _)) (takeFields_seenKept s h r)

theorem refuse_seenKept (s : State) (h : Hatch) (r : Refuse) : SeenKept h s (s.refuse h r) :=
  (SeenKept.ofPorts (countRefusal_ports s r)).trans (showAt_seenKept _ _ _ _)

theorem processToken_seenKept (s : State) (h : Hatch) (t : Nat) : SeenKept h s (s.processToken h t) := by
  unfold processToken
  split
  · exact (setDrop_seenKept _ _ _ _).trans (showAt_seenKept _ _ _ _)
  · exact refuse_seenKept _ _ _

theorem takeToken_seenKept (s : State) (h : Hatch) (t : Nat) : SeenKept h s (s.takeToken h t) := by
  unfold takeToken
  split
  · exact processToken_seenKept _ _ _
  · exact .ite (.refl s) ((setDrop_seenKept _ _ _ _).trans (processToken_seenKept _ _ _))
  · exact showAt_seenKept _ _ _ _
  · exact showAt_seenKept _ _ _ _
  · exact showAt_seenKept _ _ _ _
  · exact refuse_seenKept _ _ _
  · exact .refl s

theorem placeHolds_seenKept (s : State) (h : Hatch) (t : Snapshot) (d : Declared) :
    SeenKept h s (s.placeHolds h t d) :=
  (((SeenKept.ofPorts (by simp)).trans (setDrop_seenKept _ _ _ _)).trans (showAt_seenKept _ _ _ _)).trans
    (evalIntake_seenKept _ _)

theorem takeDeclaration_seenKept (s : State) (h : Hatch) (d : Declaration) : SeenKept h s (s.takeDeclaration h d) := by
  unfold takeDeclaration
  split
  · unfold processDeclaration
    split
    · exact placeHolds_seenKept _ _ _ _
    · exact (setDrop_seenKept _ _ _ _).trans (refuse_seenKept _ _ _)
  · exact showAt_seenKept _ _ _ _
  all_goals exact .refl s

end State

end Sys2Proof.Machine
end

section
/-! PROOFS. A quiet report, part by part (R5, R158). -/

namespace Sys2Proof.Machine

open Sys2Proof

namespace State

theorem exec_report (s : State) (h : Hatch) (c : Bool) (r : HeadReport) :
    exec (.report h c r) s = .next (s.event fun s => s.frameEvent h c (.report r)) := rfl

/-! ## The parts of a report in order -/

/-- The token part of a report. -/
def takeTokenPart (s : State) (h : Hatch) : Option Nat → State
  | some t => s.takeToken h t
  | none => s

/-- The declaration part of a report. -/
def takeDeclPart (s : State) (h : Hatch) : Option Declaration → State
  | some d => s.takeDeclaration h d
  | none => s

theorem takeReport_eq (s : State) (h : Hatch) (r : HeadReport) (surround : Bool) (token : Option Nat)
    (decl : Option Declaration) :
    s.takeReport h r surround token decl
      = (((s.takeAlarms h r surround).takePlate h r).takeTokenPart h token).takeDeclPart h decl := by
  cases token <;> cases decl <;> rfl

theorem takeTokenPart_seenKept (s : State) (h : Hatch) (token : Option Nat) :
    SeenKept h s (s.takeTokenPart h token) := by
  cases token
  · exact .refl s
  · exact takeToken_seenKept _ _ _

theorem takeDeclPart_seenKept (s : State) (h : Hatch) (decl : Option Declaration) :
    SeenKept h s (s.takeDeclPart h decl) := by
  cases decl
  · exact .refl s
  · exact takeDeclaration_seenKept _ _ _

/-- What is delivered of a field once a baseline has been taken (R159). -/
theorem delivered_eq {α : Type} [DecidableEq α] (taken field : Option α) :
    delivered false taken field = if field = taken then none else field := by
  by_cases e : field = taken <;> simp [delivered, e]

/-- A counter at the last seen count is examined without effect. -/
theorem examineRelease_seen (s : State) (h : Hatch) (c : BitVec 8)
    (stands : (s.port h).release.map ReleaseCounts.seen = some c) : s.examineRelease h c = s := by
  obtain ⟨k, held, rfl⟩ := Option.map_eq_some_iff.1 stands
  exact examineRelease_same s h k held

theorem takeAlarms_none (s : State) (h : Hatch) {r : HeadReport} (tamper : r.tamper = false)
    (chute : r.chuteBlocked = false) (printer : r.printerFault = false) : s.takeAlarms h r false = s := by
  simp [takeAlarms, tamper, chute, printer]

/-- The state that a quiet report leaves, before the transmitter looks: recorded, then plate, token and declaration. -/
def quietTaken (s : State) (h : Hatch) (r : HeadReport) (token : Option Nat) (decl : Option Declaration) : State :=
  (((s.recordReport h r).takePlate h r).takeTokenPart h token).takeDeclPart h decl

/-- A quiet report is its parts alone: no alarm is delivered, and the release counter has not moved. -/
theorem exec_quietReport {s : State} {h : Hatch} {r : HeadReport} (q : s.QuietReport h r) :
    exec (.report h false r) s
      = .next (s.quietTaken h r (if r.token = (s.port h).takenToken then none else r.token)
          (if r.declaration = (s.port h).takenDecl then none else r.declaration)).pump := by
  obtain ⟨settled, up, window, snap, tamper, chute, printer, surround, k, held, still⟩ := q
  have baseline : (s.port h).snapshot.isNone = false := by simpa using snap
  have recorded : ((s.recordReport h r).port h).release = (s.port h).release := by simp [recordReport]
  have stands : ∀ token decl, (((s.quietTaken h r token decl).port h).release.map ReleaseCounts.seen) = some r.release := by
    intro token decl
    have kept := ((takePlate_seenKept (s.recordReport h r) h r).trans (takeTokenPart_seenKept _ h token)).trans
      (takeDeclPart_seenKept _ h decl)
    refine kept.seen.trans ?_
    rw [recorded, held, ← still]
    rfl
  have taken : s.frameEvent h false (.report r)
      = s.quietTaken h r (if r.token = (s.port h).takenToken then none else r.token)
          (if r.declaration = (s.port h).takenDecl then none else r.declaration) := by
    have answered : s.frameEvent h false (.report r) = s.takeAnsweringReport h r := by
      simp [frameEvent, takeFrame, takeValidReport, up, window]
    rw [answered]
    unfold takeAnsweringReport
    simp only [baseline, surround, delivered_eq, takeReport_eq, Bool.false_eq_true, if_false]
    rw [takeAlarms_none _ h tamper chute printer]
    exact examineRelease_seen _ h _ (stands _ _)
  rw [exec_report, event_run _ settled.1, taken]

/-- Where what is left makes no frame, the transmitter begins none. -/
theorem pump_kept {s t : State} (w : s.NothingWaits) (k : Kept s t) (n : t.office.notice = s.office.notice) :
    t.pump = t :=
  pump_eq _ (w.of_office k.transmitter k.replies n)

/-! ## The recorded report -/

theorem recordReport_drop (s : State) (h : Hatch) (r : HeadReport) : (s.recordReport h r).drop h = s.drop h := by
  simp [recordReport, drop]

theorem recordReport_zeroArmed (s : State) (h : Hatch) (r : HeadReport) :
    ((s.recordReport h r).port h).zeroArmed = (s.port h).zeroArmed := by
  simp [recordReport]

theorem recordReport_nothingWaits {s : State} (w : s.NothingWaits) (h : Hatch) (r : HeadReport) :
    (s.recordReport h r).NothingWaits := w

/-! ## The fields by the drop state -/

/-- A state in which a shut flap is no news. -/
theorem takeFields_shut (s : State) (h : Hatch) {r : HeadReport} (shut : r.flap ≠ .opened)
    (e : (s.drop h).code = 1 ∨ (s.drop h).code = 2 ∨ (s.drop h).code = 6) : s.takeFields h r = s := by
  unfold takeFields
  cases d : s.drop h <;> simp_all [Drop.code]

/-- A flap OPEN outside OPEN is forced (R23). -/
theorem takeFields_forced (s : State) (h : Hatch) {r : HeadReport} (flap : r.flap = .opened)
    (on : (s.drop h).code ≠ 0) (shut : (s.drop h).code ≠ 3) : s.takeFields h r = s.forceFlap h := by
  unfold takeFields
  cases d : s.drop h <;> simp_all [Drop.code]

theorem takeFields_opened (s : State) (h : Hatch) (r : HeadReport) {t : Snapshot} {d : Declared} {o p : Bool}
    {dl : Option Nat} (e : s.drop h = .opened t d o p dl) : s.takeFields h r = s.takeOpenFields h t d o p dl r := by
  simp [takeFields, e]

/-- A flap not opened and no bag: nothing has come of an open drop yet. -/
theorem takeFields_opened_wait (s : State) (h : Hatch) {r : HeadReport} {t : Snapshot} {d : Declared} {p : Bool}
    {dl : Option Nat} (e : s.drop h = .opened t d false p dl) (shut : r.flap ≠ .opened) (empty : r.bag = false) :
    s.takeFields h r = s := by
  simp [takeFields, e, takeOpenFields, shut, empty]

theorem takeFields_opened_bag (s : State) (h : Hatch) {r : HeadReport} {t : Snapshot} {d : Declared} {o p : Bool}
    {dl : Option Nat} (e : s.drop h = .opened t d o p dl) (shut : r.flap ≠ .opened) (bag : r.bag = true) :
    s.takeFields h r = s.commit h t d := by
  simp [takeFields, e, takeOpenFields, shut, bag]

theorem takeFields_weighing (s : State) (h : Hatch) {r : HeadReport} {t : Snapshot} {d : Declared} {n dl : Nat}
    (e : s.drop h = .weighing t d n dl) (shut : r.flap ≠ .opened) :
    s.takeFields h r
      = if r.bag = false then s.loseBag h else if r.stable = true then s.weigh h t d n r else s := by
  simp [takeFields, e, shut]

theorem takeFields_tipping (s : State) (h : Hatch) {r : HeadReport} {t : Snapshot} {d : Declared} {n dl : Nat}
    {target : BitVec 8} (e : s.drop h = .tipping t d n target dl) (shut : r.flap ≠ .opened) :
    s.takeFields h r = if r.arrival = target then s.arrive h n else s := by
  simp [takeFields, e, shut]

/-! ## The plate and zero capture (R48) -/

/-- With no mark armed, an unstable reading or a bag, the report takes its fields alone. -/
theorem takePlate_fields (s : State) (h : Hatch) {r : HeadReport}
    (e : (s.port h).zeroArmed = false ∨ r.stable = false ∨ r.bag = true) : s.takePlate h r = s.takeFields h r := by
  have none (u : State) (c : r.stable = false ∨ r.bag = true) : u.captureZero h r = u := by
    rcases c with c | c <;> simp [captureZero, c]
  unfold takePlate
  rcases e with e | e
  · simp [e]
  · rw [none _ e, ite_self]

/-- The report that completes an arrival does not capture. -/
theorem takePlate_arrival (s : State) (h : Hatch) {r : HeadReport} (e : s.completesArrival h r = true) :
    s.takePlate h r = s.takeFields h r := by
  simp [takePlate, e]

/-- Where the fields change nothing, an armed mark is examined. -/
theorem takePlate_capture (s : State) (h : Hatch) {r : HeadReport} (armed : (s.port h).zeroArmed = true)
    (e : s.completesArrival h r = false) (still : s.takeFields h r = s) : s.takePlate h r = s.captureZero h r := by
  simp [takePlate, armed, e, still]

theorem completesArrival_eq (s : State) (h : Hatch) {r : HeadReport} {t : Snapshot} {d : Declared} {n dl : Nat}
    {target : BitVec 8} (e : s.drop h = .tipping t d n target dl) (shut : r.flap ≠ .opened) :
    s.completesArrival h r = decide (r.arrival = target) := by
  simp [completesArrival, e, shut]

theorem completesArrival_other (s : State) (h : Hatch) (r : HeadReport) (e : (s.drop h).code ≠ 5) :
    s.completesArrival h r = false := by
  unfold completesArrival
  cases d : s.drop h with
  | tipping => exact absurd (by rw [d]; rfl) e
  | _ => rfl

/-- The zero capture of a stable reading without a bag: Z moves within the band, else ZERO_DRIFT. -/
theorem captureZero_eq (s : State) (h : Hatch) (r : HeadReport) :
    s.captureZero h r
      = if r.stable = true ∧ r.bag = false then
          if -((s.calibration h).band : Int) ≤ r.raw - (s.calibration h).zero
              ∧ r.raw - (s.calibration h).zero ≤ (s.calibration h).band then
            (s.modPort h fun p => { p with zeroArmed := false }).setCalibration h
              { s.calibration h with zero := r.raw }
          else (s.modPort h fun p => { p with zeroArmed := false }).raise .zeroDrift
        else s := by
  have band : (r.raw - (s.calibration h).zero).natAbs ≤ (s.calibration h).band
      ↔ -((s.calibration h).band : Int) ≤ r.raw - (s.calibration h).zero
        ∧ r.raw - (s.calibration h).zero ≤ (s.calibration h).band := by omega
  unfold captureZero
  simp only [Bool.and_eq_true, Bool.not_eq_true', band]

/-! ## Token and declaration by the drop state -/

/-- A refusal shown at a machine in `next`. -/
theorem refuse_eq (s : State) (h : Hatch) (e : Refuse) {next : Drop} (at' : s.drop h = next) :
    s.refuse h e
      = { s with
          office :=
            { s.office with
              refusals := s.office.refusals.put e.counter (min (s.office.refusals.get e.counter + 1) 65535) }
          ports := s.ports.set h { s.port h with drop := next, showDue := some e.code } } := by
  subst at'
  rfl

theorem setDrop_refuse (s : State) (h : Hatch) (e : Refuse) (next : Drop) :
    (s.setDrop h next).refuse h e
      = { s with
          office :=
            { s.office with
              refusals := s.office.refusals.put e.counter (min (s.office.refusals.get e.counter + 1) 65535) }
          ports := s.ports.set h { s.port h with drop := next, showDue := some e.code } } := by
  rw [refuse_eq _ h e (setDrop_drop_self s h next)]
  simp [setDrop, modPort, setPort, setPorts, port]

theorem processToken_ok (s : State) (h : Hatch) {token : Nat} {t : Snapshot} (ok : s.checkToken h token = .ok t) :
    s.processToken h token
      = { s with
          ports := s.ports.set h { s.port h with drop := .awaitDecl t (s.now + 30000), showDue := some 24 } } := by
  simp [processToken, ok, setDrop, showAt, modPort, setPort, setPorts, port, Config.declTime]

theorem processToken_error (s : State) (h : Hatch) {token : Nat} {e : Refuse}
    (refused : s.checkToken h token = .error e) : s.processToken h token = s.refuse h e := by
  simp [processToken, refused]

theorem processDeclaration_ok (s : State) (h : Hatch) {t : Snapshot} {d : Declaration} {x : Declared}
    (ok : s.checkDeclaration h t d = .ok x) : s.processDeclaration h t d = s.placeHolds h t x := by
  simp [processDeclaration, ok]

theorem processDeclaration_error (s : State) (h : Hatch) {t : Snapshot} {d : Declaration} {e : Refuse}
    (refused : s.checkDeclaration h t d = .error e) : s.processDeclaration h t d = (s.setDrop h .idle).refuse h e := by
  simp [processDeclaration, refused]

end State

end Sys2Proof.Machine
end

section
/-! PROOFS. What a quiet report does in each drop state, and O48. -/

namespace Sys2Proof.Machine

open Sys2Proof

namespace State

/-- The port as a report leaves it that is recorded. -/
def recordedPort (s : State) (h : Hatch) (r : HeadReport) : Port :=
  { s.port h with
    snapshot := some r
    takenToken := r.token
    takenDecl := r.declaration
    window := none
    misses := 0
    streak := 0
    surroundLatch := if (s.config h).aux = .surround then false else (s.port h).surroundLatch }

theorem recordReport_eq (s : State) (h : Hatch) (r : HeadReport) :
    s.recordReport h r = { s with ports := s.ports.set h (s.recordedPort h r) } := rfl

/-- A change at the recorded port is one change of the port. -/
theorem recordReport_modPort (s : State) (h : Hatch) (r : HeadReport) (f : Port → Port) :
    (s.recordReport h r).modPort h f = { s with ports := s.ports.set h (f (s.recordedPort h r)) } :=
  modPort_modPort s h (fun _ => s.recordedPort h r) f

theorem recordReport_setDrop (s : State) (h : Hatch) (r : HeadReport) (x : Drop) :
    (s.recordReport h r).setDrop h x = { s with ports := s.ports.set h { s.recordedPort h r with drop := x } } :=
  recordReport_modPort s h r fun p => { p with drop := x }

theorem recordReport_showAt (s : State) (h : Hatch) (r : HeadReport) (c : Nat) :
    (s.recordReport h r).showAt h c = { s with ports := s.ports.set h { s.recordedPort h r with showDue := some c } } :=
  recordReport_modPort s h r fun p => { p with showDue := some c }

section

variable {s : State} {h : Hatch} {r : HeadReport}

/-! ## Which parts a quiet report has -/

theorem quiet_plain (q : s.QuietReport h r) (noToken : r.token = none ∨ r.token = (s.port h).takenToken)
    (noDecl : r.declaration = none ∨ r.declaration = (s.port h).takenDecl) :
    exec (.report h false r) s = .next ((s.recordReport h r).takePlate h r).pump := by
  have token : (if r.token = (s.port h).takenToken then none else r.token) = none := by
    rcases noToken with e | e <;> simp [e]
  have decl : (if r.declaration = (s.port h).takenDecl then none else r.declaration) = none := by
    rcases noDecl with e | e <;> simp [e]
  rw [exec_quietReport q, token, decl]
  rfl

theorem quiet_token (q : s.QuietReport h r) {token : Nat} (shown : r.token = some token)
    (new : r.token ≠ (s.port h).takenToken)
    (noDecl : r.declaration = none ∨ r.declaration = (s.port h).takenDecl) :
    exec (.report h false r) s = .next (((s.recordReport h r).takePlate h r).takeToken h token).pump := by
  have decl : (if r.declaration = (s.port h).takenDecl then none else r.declaration) = none := by
    rcases noDecl with e | e <;> simp [e]
  rw [exec_quietReport q, if_neg new, shown, decl]
  rfl

theorem quiet_declaration (q : s.QuietReport h r) {decl : Declaration} (shown : r.declaration = some decl)
    (new : r.declaration ≠ (s.port h).takenDecl) (noToken : r.token = none ∨ r.token = (s.port h).takenToken) :
    exec (.report h false r) s = .next (((s.recordReport h r).takePlate h r).takeDeclaration h decl).pump := by
  have token : (if r.token = (s.port h).takenToken then none else r.token) = none := by
    rcases noToken with e | e <;> simp [e]
  rw [exec_quietReport q, if_neg new, shown, token]
  rfl

/-- What of a quiet report's outcome makes no frame stands as it is. -/
theorem QuietReport.pump_eq (q : s.QuietReport h r) {t : State} (k : Kept (s.recordReport h r) t)
    (n : t.office.notice = s.office.notice) : t.pump = t :=
  pump_kept (recordReport_nothingWaits q.1.2 h r) k n

theorem QuietReport.pump_recorded (q : s.QuietReport h r) : (s.recordReport h r).pump = s.recordReport h r :=
  q.pump_eq (.refl _) rfl

/-! ## The zero capture of a quiet report (R48) -/

/-- A recorded report whose fields have no effect, with its zero capture. -/
def zeroCaptured (s : State) (h : Hatch) (r : HeadReport) : State :=
  let disarmed : State := { s with ports := s.ports.set h { s.recordedPort h r with zeroArmed := false } }
  if r.stable = true ∧ r.bag = false then
    if -((s.calibration h).band : Int) ≤ r.raw - (s.calibration h).zero
        ∧ r.raw - (s.calibration h).zero ≤ (s.calibration h).band then
      { disarmed with
        tables :=
          { s.tables with calibrations := s.tables.calibrations.set h { s.calibration h with zero := r.raw } } }
    else (disarmed.raise .zeroDrift).pump
  else s.recordReport h r

/-- Only a ZERO_DRIFT can wait for the transmitter. -/
theorem QuietReport.pump_captureZero (q : s.QuietReport h r) :
    ((s.recordReport h r).captureZero h r).pump = s.zeroCaptured h r := by
  have same : (s.recordReport h r).calibration h = s.calibration h := rfl
  rw [captureZero_eq, recordReport_modPort, same]
  unfold zeroCaptured
  dsimp only
  split
  · split
    · exact q.pump_eq ⟨rfl, rfl, rfl, rfl, rfl, rfl, rfl, rfl⟩ rfl
    · rfl
  · exact q.pump_recorded

theorem quiet_capture (q : s.QuietReport h r) (armed : (s.port h).zeroArmed = true)
    (noToken : r.token = none ∨ r.token = (s.port h).takenToken)
    (noDecl : r.declaration = none ∨ r.declaration = (s.port h).takenDecl)
    (going : (s.recordReport h r).completesArrival h r = false)
    (still : (s.recordReport h r).takeFields h r = s.recordReport h r) :
    exec (.report h false r) s = .next (s.zeroCaptured h r) := by
  rw [quiet_plain q noToken noDecl, takePlate_capture _ h (by rw [recordReport_zeroArmed]; exact armed) going still,
    q.pump_captureZero]

/-! ## A quiet report without zero capture -/

theorem quiet_fields (q : s.QuietReport h r) (e : (s.port h).zeroArmed = false ∨ r.stable = false ∨ r.bag = true)
    (noToken : r.token = none ∨ r.token = (s.port h).takenToken)
    (noDecl : r.declaration = none ∨ r.declaration = (s.port h).takenDecl) :
    exec (.report h false r) s = .next ((s.recordReport h r).takeFields h r).pump := by
  rw [quiet_plain q noToken noDecl, takePlate_fields _ h (by rw [recordReport_zeroArmed]; exact e)]

theorem quiet_fields_token (q : s.QuietReport h r)
    (e : (s.port h).zeroArmed = false ∨ r.stable = false ∨ r.bag = true) {token : Nat} (shown : r.token = some token)
    (new : r.token ≠ (s.port h).takenToken)
    (noDecl : r.declaration = none ∨ r.declaration = (s.port h).takenDecl) :
    exec (.report h false r) s = .next (((s.recordReport h r).takeFields h r).takeToken h token).pump := by
  rw [quiet_token q shown new noDecl, takePlate_fields _ h (by rw [recordReport_zeroArmed]; exact e)]

theorem quiet_fields_declaration (q : s.QuietReport h r)
    (e : (s.port h).zeroArmed = false ∨ r.stable = false ∨ r.bag = true) {decl : Declaration}
    (shown : r.declaration = some decl) (new : r.declaration ≠ (s.port h).takenDecl)
    (noToken : r.token = none ∨ r.token = (s.port h).takenToken) :
    exec (.report h false r) s = .next (((s.recordReport h r).takeFields h r).takeDeclaration h decl).pump := by
  rw [quiet_declaration q shown new noToken, takePlate_fields _ h (by rw [recordReport_zeroArmed]; exact e)]

/-! ## Token and declaration at the recorded port -/

/-- A refusal at the recorded port, with the state that the machine is left in. -/
theorem setDrop_refuse_pump (q : s.QuietReport h r) (e : Refuse) (next : Drop) :
    (((s.recordReport h r).setDrop h next).refuse h e).pump = ((s.recordReport h r).setDrop h next).refuse h e :=
  q.pump_eq ((setDrop_kept _ _ _).trans (refuse_kept _ _ _)) rfl

/-- The outcome of the token checks at a machine in IDLE. -/
def tokenOutcome (s : State) (h : Hatch) (token : Nat) : State :=
  match s.checkToken h token with
  | .ok t =>
    { s with ports := s.ports.set h { s.port h with drop := .awaitDecl t (s.now + 30000), showDue := some 24 } }
  | .error e =>
    { s with
      office :=
        { s.office with
          refusals := s.office.refusals.put e.counter (min (s.office.refusals.get e.counter + 1) 65535) }
      ports := s.ports.set h { s.port h with drop := .idle, showDue := some e.code } }

theorem processToken_idle (s : State) (h : Hatch) (token : Nat) (idle : s.drop h = .idle) :
    s.processToken h token = s.tokenOutcome h token := by
  unfold tokenOutcome
  cases e : s.checkToken h token with
  | ok t => exact processToken_ok s h e
  | error e' => exact (processToken_error s h e).trans (refuse_eq s h e' idle)

theorem tokenOutcome_notice (s : State) (h : Hatch) (token : Nat) :
    (s.tokenOutcome h token).office.notice = s.office.notice := by
  unfold tokenOutcome
  cases s.checkToken h token <;> rfl

/-- The token checks make no frame. -/
theorem QuietReport.pump_processToken (q : s.QuietReport h r) {u : State} (k : Kept (s.recordReport h r) u)
    (n : u.office.notice = s.office.notice) (token : Nat) (idle : u.drop h = .idle) :
    (u.processToken h token).pump = u.tokenOutcome h token := by
  have kept := k.trans (processToken_kept u h token)
  rw [processToken_idle u h token idle] at kept ⊢
  exact q.pump_eq kept ((tokenOutcome_notice u h token).trans n)

/-- The outcome of the declaration checks at a machine in AWAIT_DECL. -/
theorem QuietReport.pump_processDeclaration (q : s.QuietReport h r) (t : Snapshot) (d : Declaration) :
    ((s.recordReport h r).processDeclaration h t d).pump
      = match (s.recordReport h r).checkDeclaration h t d with
        | .ok x => ((s.recordReport h r).placeHolds h t x).pump
        | .error e => ((s.recordReport h r).setDrop h .idle).refuse h e := by
  cases e : (s.recordReport h r).checkDeclaration h t d with
  | ok x => rw [processDeclaration_ok _ h e]
  | error e' => rw [processDeclaration_error _ h e, setDrop_refuse_pump q]

/-- PLEASE_WAIT falls due, and makes no frame. -/
theorem QuietReport.pump_showAt (q : s.QuietReport h r) (c : Nat) :
    ((s.recordReport h r).showAt h c).pump = (s.recordReport h r).showAt h c :=
  q.pump_eq (showAt_kept _ _ _) rfl

/-! ## Every drop state with an armed zero -/

theorem quiet_capture_shut (q : s.QuietReport h r) (armed : (s.port h).zeroArmed = true)
    (noToken : r.token = none ∨ r.token = (s.port h).takenToken)
    (noDecl : r.declaration = none ∨ r.declaration = (s.port h).takenDecl) (shut : r.flap ≠ .opened)
    (e : (s.drop h).code = 1 ∨ (s.drop h).code = 2 ∨ (s.drop h).code = 6) :
    exec (.report h false r) s = .next (s.zeroCaptured h r) := by
  have e' : ((s.recordReport h r).drop h).code = 1 ∨ ((s.recordReport h r).drop h).code = 2
      ∨ ((s.recordReport h r).drop h).code = 6 := by
    rwa [recordReport_drop]
  exact quiet_capture q armed noToken noDecl (completesArrival_other _ h r (by omega)) (takeFields_shut _ h shut e')

theorem quiet_capture_opened (q : s.QuietReport h r) (armed : (s.port h).zeroArmed = true)
    (noToken : r.token = none ∨ r.token = (s.port h).takenToken)
    (noDecl : r.declaration = none ∨ r.declaration = (s.port h).takenDecl) (shut : r.flap ≠ .opened) {t : Snapshot}
    {d : Declared} {past : Bool} {dl : Option Nat} (e : s.drop h = .opened t d false past dl) (empty : r.bag = false) :
    exec (.report h false r) s = .next (s.zeroCaptured h r) := by
  have e' := (recordReport_drop s h r).trans e
  exact quiet_capture q armed noToken noDecl (completesArrival_other _ h r (by rw [e']; simp [Drop.code]))
    (takeFields_opened_wait _ h e' shut empty)

theorem quiet_capture_tipping (q : s.QuietReport h r) (armed : (s.port h).zeroArmed = true)
    (noToken : r.token = none ∨ r.token = (s.port h).takenToken)
    (noDecl : r.declaration = none ∨ r.declaration = (s.port h).takenDecl) (shut : r.flap ≠ .opened) {t : Snapshot}
    {d : Declared} {n dl : Nat} {target : BitVec 8} (e : s.drop h = .tipping t d n target dl) :
    exec (.report h false r) s
      = .next (if r.arrival = target then ((s.recordReport h r).arrive h n).pump else s.zeroCaptured h r) := by
  have e' := (recordReport_drop s h r).trans e
  have completes := completesArrival_eq _ h e' shut
  have fields := takeFields_tipping _ h e' shut
  split
  · next arrived =>
    rw [quiet_plain q noToken noDecl, takePlate_arrival _ h (completes.trans (decide_eq_true arrived)), fields,
      if_pos arrived]
  · next going =>
    exact quiet_capture q armed noToken noDecl (completes.trans (decide_eq_false going)) (fields.trans (if_neg going))

/-! ## Every drop state without zero capture -/

section

variable (still : (s.port h).zeroArmed = false ∨ r.stable = false ∨ r.bag = true)
include still

theorem quiet_fields_opened (q : s.QuietReport h r) (noToken : r.token = none ∨ r.token = (s.port h).takenToken)
    (noDecl : r.declaration = none ∨ r.declaration = (s.port h).takenDecl) {t : Snapshot} {d : Declared} {o past : Bool}
    {dl : Option Nat} (e : s.drop h = .opened t d o past dl) :
    exec (.report h false r) s = .next
      (if r.flap = .opened then
        { s with ports := s.ports.set h { s.recordedPort h r with drop := .opened t d true past dl } }
      else if r.bag then ((s.recordReport h r).commit h t d).pump
      else if o then ((s.recordReport h r).cancelDrop h .emptyClose).pump
      else s.recordReport h r) := by
  rw [quiet_fields q still noToken noDecl, takeFields_opened _ h r ((recordReport_drop s h r).trans e)]
  unfold takeOpenFields
  split
  · rw [recordReport_setDrop]
    exact congrArg _ (q.pump_eq ⟨rfl, rfl, rfl, rfl, rfl, rfl, rfl, rfl⟩ rfl)
  · split
    · rfl
    · split
      · rfl
      · rw [q.pump_recorded]

theorem quiet_fields_weighing (q : s.QuietReport h r) (noToken : r.token = none ∨ r.token = (s.port h).takenToken)
    (noDecl : r.declaration = none ∨ r.declaration = (s.port h).takenDecl) (shut : r.flap ≠ .opened) {t : Snapshot}
    {d : Declared} {n dl : Nat} (e : s.drop h = .weighing t d n dl) :
    exec (.report h false r) s = .next
      (if r.bag = false then (((s.recordReport h r).raise .jam).faultHatch h).pump
      else if r.stable then ((s.recordReport h r).weigh h t d n r).pump
      else s.recordReport h r) := by
  rw [quiet_fields q still noToken noDecl, takeFields_weighing _ h ((recordReport_drop s h r).trans e) shut]
  split
  · rfl
  · split
    · rfl
    · rw [q.pump_recorded]

theorem quiet_fields_tipping (q : s.QuietReport h r) (noToken : r.token = none ∨ r.token = (s.port h).takenToken)
    (noDecl : r.declaration = none ∨ r.declaration = (s.port h).takenDecl) (shut : r.flap ≠ .opened) {t : Snapshot}
    {d : Declared} {n dl : Nat} {target : BitVec 8} (e : s.drop h = .tipping t d n target dl) :
    exec (.report h false r) s = .next
      (if r.arrival = target then ((s.recordReport h r).arrive h n).pump else s.recordReport h r) := by
  rw [quiet_fields q still noToken noDecl, takeFields_tipping _ h ((recordReport_drop s h r).trans e) shut]
  split
  · rfl
  · rw [q.pump_recorded]

/-- Where the fields have no effect, a token is taken at the recorded port. -/
theorem quiet_token_alone (q : s.QuietReport h r) {token : Nat} (shown : r.token = some token)
    (new : r.token ≠ (s.port h).takenToken) (noDecl : r.declaration = none ∨ r.declaration = (s.port h).takenDecl)
    (noEffect : (s.recordReport h r).takeFields h r = s.recordReport h r) :
    exec (.report h false r) s = .next ((s.recordReport h r).takeToken h token).pump := by
  rw [quiet_fields_token q still shown new noDecl, noEffect]

/-- Where the fields have no effect, a declaration is taken at the recorded port. -/
theorem quiet_declaration_alone (q : s.QuietReport h r) {decl : Declaration} (shown : r.declaration = some decl)
    (new : r.declaration ≠ (s.port h).takenDecl) (noToken : r.token = none ∨ r.token = (s.port h).takenToken)
    (noEffect : (s.recordReport h r).takeFields h r = s.recordReport h r) :
    exec (.report h false r) s = .next ((s.recordReport h r).takeDeclaration h decl).pump := by
  rw [quiet_fields_declaration q still shown new noToken, noEffect]

end

/-! ## Fields without effect at the recorded port, by the drop state -/

theorem recorded_fields_shut (s : State) (h : Hatch) {r : HeadReport} (shut : r.flap ≠ .opened)
    (e : (s.drop h).code = 1 ∨ (s.drop h).code = 2 ∨ (s.drop h).code = 6) :
    (s.recordReport h r).takeFields h r = s.recordReport h r :=
  takeFields_shut _ h shut (by rwa [recordReport_drop])

theorem recorded_fields_opened (s : State) (h : Hatch) {r : HeadReport} (shut : r.flap ≠ .opened) {t : Snapshot}
    {d : Declared} {o past : Bool} {dl : Option Nat} (e : s.drop h = .opened t d o past dl) (empty : r.bag = false)
    (unopened : o = false) : (s.recordReport h r).takeFields h r = s.recordReport h r := by
  subst unopened
  exact takeFields_opened_wait _ h ((recordReport_drop s h r).trans e) shut empty

theorem recorded_fields_weighing (s : State) (h : Hatch) {r : HeadReport} (shut : r.flap ≠ .opened) {t : Snapshot}
    {d : Declared} {n dl : Nat} (e : s.drop h = .weighing t d n dl) (bag : r.bag = true) (unstable : r.stable = false) :
    (s.recordReport h r).takeFields h r = s.recordReport h r := by
  rw [takeFields_weighing _ h ((recordReport_drop s h r).trans e) shut]
  simp [bag, unstable]

theorem recorded_fields_tipping (s : State) (h : Hatch) {r : HeadReport} (shut : r.flap ≠ .opened) {t : Snapshot}
    {d : Declared} {n dl : Nat} {target : BitVec 8} (e : s.drop h = .tipping t d n target dl)
    (going : r.arrival ≠ target) : (s.recordReport h r).takeFields h r = s.recordReport h r :=
  (takeFields_tipping _ h ((recordReport_drop s h r).trans e) shut).trans (if_neg going)

/-! ## What token and declaration do in each drop state (R6, R9) -/

theorem takeToken_waits (s : State) (h : Hatch) (token : Nat) (e : (s.drop h).inFlight = true) :
    s.takeToken h token = s.showAt h 26 := by
  unfold takeToken
  cases d : s.drop h <;> simp_all [Drop.inFlight]

theorem takeDeclaration_void (s : State) (h : Hatch) (d : Declaration) (e : (s.drop h).inFlight = true ∨ s.drop h = .fault) :
    s.takeDeclaration h d = s := by
  unfold takeDeclaration
  cases x : s.drop h <;> simp_all [Drop.inFlight]

/-- A token in a state with a bag earns PLEASE_WAIT. -/
theorem QuietReport.pump_takeToken_waits (q : s.QuietReport h r) (token : Nat) (e : (s.drop h).inFlight = true) :
    ((s.recordReport h r).takeToken h token).pump = (s.recordReport h r).showAt h 26 := by
  rw [takeToken_waits _ h token (by rwa [recordReport_drop]), q.pump_showAt]

/-- A declaration in a state with a bag and in FAULT has no effect. -/
theorem QuietReport.pump_takeDeclaration_void (q : s.QuietReport h r) (d : Declaration)
    (e : (s.drop h).inFlight = true ∨ s.drop h = .fault) :
    ((s.recordReport h r).takeDeclaration h d).pump = s.recordReport h r := by
  rw [takeDeclaration_void _ h d (by rwa [recordReport_drop]), q.pump_recorded]

theorem QuietReport.pump_takeToken_idle (q : s.QuietReport h r) (token : Nat) (e : s.drop h = .idle) :
    ((s.recordReport h r).takeToken h token).pump = (s.recordReport h r).tokenOutcome h token := by
  have e' := (recordReport_drop s h r).trans e
  have taken : (s.recordReport h r).takeToken h token = (s.recordReport h r).processToken h token := by
    simp [takeToken, e']
  rw [taken]
  exact q.pump_processToken (.refl _) rfl token e'

/-- The same token again has no effect; another takes the place of the one that waits. -/
theorem QuietReport.pump_takeToken_await (q : s.QuietReport h r) (token : Nat) {t : Snapshot} {dl : Nat}
    (e : s.drop h = .awaitDecl t dl) :
    ((s.recordReport h r).takeToken h token).pump
      = if t.entry.token = token then s.recordReport h r
        else ((s.recordReport h r).setDrop h .idle).tokenOutcome h token := by
  have taken : (s.recordReport h r).takeToken h token
      = if t.entry.token = token then s.recordReport h r
        else ((s.recordReport h r).setDrop h .idle).processToken h token := by
    simp [takeToken, (recordReport_drop s h r).trans e]
  rw [taken]
  split
  · exact q.pump_recorded
  · exact q.pump_processToken (setDrop_kept _ _ _) rfl token (setDrop_drop_self _ _ _)

theorem QuietReport.pump_takeToken_fault (q : s.QuietReport h r) (token : Nat) (e : s.drop h = .fault) :
    ((s.recordReport h r).takeToken h token).pump = (s.recordReport h r).refuse h .outOfService := by
  have taken : (s.recordReport h r).takeToken h token = (s.recordReport h r).refuse h .outOfService := by
    simp [takeToken, (recordReport_drop s h r).trans e]
  rw [taken]
  exact q.pump_eq (refuse_kept _ _ _) rfl

theorem QuietReport.pump_takeDeclaration_idle (q : s.QuietReport h r) (d : Declaration) (e : s.drop h = .idle) :
    ((s.recordReport h r).takeDeclaration h d).pump = (s.recordReport h r).showAt h 27 := by
  have taken : (s.recordReport h r).takeDeclaration h d = (s.recordReport h r).showAt h 27 := by
    simp [takeDeclaration, (recordReport_drop s h r).trans e]
  rw [taken, q.pump_showAt]

theorem takeDeclaration_await (s : State) (h : Hatch) (r : HeadReport) (d : Declaration) {t : Snapshot} {dl : Nat}
    (e : s.drop h = .awaitDecl t dl) :
    (s.recordReport h r).takeDeclaration h d = (s.recordReport h r).processDeclaration h t d := by
  simp [takeDeclaration, (recordReport_drop s h r).trans e]

/-- A bag and a token in one report: the commit, then PLEASE_WAIT. -/
theorem takeToken_commit (s : State) (h : Hatch) (t : Snapshot) (d : Declared) (token : Nat) :
    (s.commit h t d).takeToken h token = (s.commit h t d).showAt h 26 := by
  refine takeToken_waits _ h token ?_
  rw [commit_eq, setDrop_drop_self]
  rfl

end

end State

open State in
/-- Settles O48: a quiet report is its record, then its plate, its token and its declaration, each taken by the
state that the machine is in. -/
theorem reportIsTakenByTheDropState : Obligations.ReportIsTakenByTheDropState := by
  unfold Obligations.ReportIsTakenByTheDropState
  intro s h r q
  refine
    ⟨fun armed noToken noDecl shut =>
      ⟨fun e => ?capture_shut, fun t d past dl e empty => ?capture_opened, fun t d n target dl e => ?capture_tipping⟩,
    fun still =>
      ⟨fun noToken noDecl =>
        ⟨fun flap on out => ?fields_forced, fun shut e => ?fields_shut, fun t d o past dl e => ?fields_opened,
          fun t d n dl e shut => ?fields_weighing, fun t d n target dl e shut => ?fields_tipping⟩,
      fun token shown new noDecl shut =>
        ⟨fun e => ?token_idle, fun t dl e => ?token_await,
          fun t d o past dl e => ⟨fun empty unopened => ?token_opened, fun bag => ?token_commit⟩,
          fun t d n dl e bag unstable => ?token_weighing, fun t d n target dl e going => ?token_tipping,
          fun e => ?token_fault⟩,
      fun decl shown new noToken shut =>
        ⟨fun e => ?decl_idle, fun e => ?decl_fault, fun t d o past dl e empty unopened => ?decl_opened,
          fun t d n dl e bag unstable => ?decl_weighing, fun t d n target dl e going => ?decl_tipping⟩,
      fun t dl decl e shown new noToken shut => ?decl_await⟩⟩
  case capture_shut => exact quiet_capture_shut q armed noToken noDecl shut e
  case capture_opened => exact quiet_capture_opened q armed noToken noDecl shut e empty
  case capture_tipping => exact quiet_capture_tipping q armed noToken noDecl shut e
  case fields_forced =>
    rw [quiet_fields q still noToken noDecl, takeFields_forced _ h flap (by rwa [recordReport_drop])
      (by rwa [recordReport_drop])]
    rfl
  case fields_shut =>
    rw [quiet_fields q still noToken noDecl, recorded_fields_shut s h shut e, q.pump_recorded]
    rfl
  case fields_opened => exact quiet_fields_opened still q noToken noDecl e
  case fields_weighing => exact quiet_fields_weighing still q noToken noDecl shut e
  case fields_tipping => exact quiet_fields_tipping still q noToken noDecl shut e
  case token_idle =>
    rw [quiet_token_alone still q shown new noDecl (recorded_fields_shut s h shut (by simp [e, Drop.code])),
      q.pump_takeToken_idle token e]
    rfl
  case token_await =>
    rw [quiet_token_alone still q shown new noDecl (recorded_fields_shut s h shut (by simp [e, Drop.code])),
      q.pump_takeToken_await token e, recordReport_setDrop]
    rfl
  case token_opened =>
    rw [quiet_token_alone still q shown new noDecl (recorded_fields_opened s h shut e empty unopened),
      q.pump_takeToken_waits token (by rw [e]; rfl)]
    rfl
  case token_commit =>
    rw [quiet_fields_token q still shown new noDecl,
      takeFields_opened_bag _ h ((recordReport_drop s h r).trans e) shut bag, takeToken_commit]
    rfl
  case token_weighing =>
    rw [quiet_token_alone still q shown new noDecl (recorded_fields_weighing s h shut e bag unstable),
      q.pump_takeToken_waits token (by rw [e]; rfl)]
    rfl
  case token_tipping =>
    rw [quiet_token_alone still q shown new noDecl (recorded_fields_tipping s h shut e going),
      q.pump_takeToken_waits token (by rw [e]; rfl)]
    rfl
  case token_fault =>
    rw [quiet_token_alone still q shown new noDecl (recorded_fields_shut s h shut (by simp [e, Drop.code])),
      q.pump_takeToken_fault token e, refuse_eq _ h _ ((recordReport_drop s h r).trans e)]
    rfl
  case decl_idle =>
    rw [quiet_declaration_alone still q shown new noToken (recorded_fields_shut s h shut (by simp [e, Drop.code])),
      q.pump_takeDeclaration_idle decl e, recordReport_showAt]
    rfl
  case decl_fault =>
    rw [quiet_declaration_alone still q shown new noToken (recorded_fields_shut s h shut (by simp [e, Drop.code])),
      q.pump_takeDeclaration_void decl (.inr e)]
    rfl
  case decl_opened =>
    rw [quiet_declaration_alone still q shown new noToken (recorded_fields_opened s h shut e empty unopened),
      q.pump_takeDeclaration_void decl (.inl (by rw [e]; rfl))]
    rfl
  case decl_weighing =>
    rw [quiet_declaration_alone still q shown new noToken (recorded_fields_weighing s h shut e bag unstable),
      q.pump_takeDeclaration_void decl (.inl (by rw [e]; rfl))]
    rfl
  case decl_tipping =>
    rw [quiet_declaration_alone still q shown new noToken (recorded_fields_tipping s h shut e going),
      q.pump_takeDeclaration_void decl (.inl (by rw [e]; rfl))]
    rfl
  case decl_await =>
    rw [quiet_declaration_alone still q shown new noToken (recorded_fields_shut s h shut (by simp [e, Drop.code])),
      takeDeclaration_await s h r decl e, q.pump_processDeclaration]
    simp only [setDrop_refuse]
    rfl

end Sys2Proof.Machine
end

section
/-! PROOFS. The steps of RESET (R191). -/

namespace Sys2Proof.Machine

open Sys2Proof

/-! ## What no step of RESET changes -/

/-- `t` has of `s` what the steps of RESET after the first leave alone; of intake, all but enable and state. -/
structure Lasting (s t : State) : Prop where
  tables : t.tables = s.tables
  tableStore : t.tableStore = s.tableStore
  counts : t.counts = s.counts
  straps : t.straps = s.straps
  now : t.now = s.now
  committed : t.cover.committed = s.cover.committed
  next : t.journal.next = s.journal.next
  last : t.journal.last = s.journal.last
  epoch : t.journal.epoch = s.journal.epoch
  length : t.journal.entries.length = s.journal.entries.length
  queues : t.store.queues = s.store.queues
  doorOpen : t.store.doorOpen = s.store.doorOpen
  intake : { t.intake with enable := false, state := .stopped } = { s.intake with enable := false, state := .stopped }
  replies : t.office.replies = s.office.replies
  count : t.office.count = s.office.count
  timer : t.office.timer = s.office.timer
  badFrames : t.office.badFrames = s.office.badFrames
  unexpectedDrops : t.office.unexpectedDrops = s.office.unexpectedDrops

namespace Lasting

variable {s t u : State}

theorem refl (s : State) : Lasting s s := by constructor <;> rfl

theorem trans (a : Lasting s t) (b : Lasting t u) : Lasting s u where
  tables := b.tables.trans a.tables
  tableStore := b.tableStore.trans a.tableStore
  counts := b.counts.trans a.counts
  straps := b.straps.trans a.straps
  now := b.now.trans a.now
  committed := b.committed.trans a.committed
  next := b.next.trans a.next
  last := b.last.trans a.last
  epoch := b.epoch.trans a.epoch
  length := b.length.trans a.length
  queues := b.queues.trans a.queues
  doorOpen := b.doorOpen.trans a.doorOpen
  intake := b.intake.trans a.intake
  replies := b.replies.trans a.replies
  count := b.count.trans a.count
  timer := b.timer.trans a.timer
  badFrames := b.badFrames.trans a.badFrames
  unexpectedDrops := b.unexpectedDrops.trans a.unexpectedDrops

theorem foldl {α : Type} {f : State → α → State} (k : ∀ s a, Lasting s (f s a)) :
    ∀ (l : List α) (s : State), Lasting s (l.foldl f s)
  | [], s => .refl s
  | a :: l, s => (k s a).trans (foldl k l (f s a))

end Lasting

namespace State

theorem raise_lasting (s : State) (f : Flag) : Lasting s (s.raise f) := by constructor <;> simp

theorem evalCover_lasting (s : State) : Lasting s s.evalCover := by
  unfold evalCover
  dsimp only
  split <;> constructor <;> simp

theorem evalJournal_lasting (s : State) : Lasting s s.evalJournal := by
  unfold evalJournal
  dsimp only
  split <;> constructor <;> simp

theorem evalStore_lasting (s : State) : Lasting s s.evalStore := by
  unfold evalStore
  dsimp only
  split <;> constructor <;> simp

theorem modPort_lasting (s : State) (h : Hatch) (f : Port → Port) : Lasting s (s.modPort h f) := by constructor <;> rfl

theorem countCancel_lasting (s : State) (c : Cancel) : Lasting s (s.countCancel c) := by constructor <;> rfl

theorem cancelAwaiting_lasting (s : State) (h : Hatch) : Lasting s (s.cancelAwaiting h) := by
  unfold cancelAwaiting
  split
  · constructor <;> rfl
  · exact .refl s

theorem evalIntake_lasting (s : State) : Lasting s s.evalIntake := by
  have changed : Lasting s ((s.setIntake { s.intake with state := s.intakeTarget }).trigger .intake) := by
    constructor <;> rfl
  unfold evalIntake
  split
  · exact .refl s
  · dsimp only
    split
    · exact changed.trans (.foldl cancelAwaiting_lasting _ _)
    · exact changed

theorem releaseCover_lasting (s : State) (d : Nat) : Lasting s (s.releaseCover d) :=
  Lasting.trans (t := s.setCover { s.cover with held := s.cover.held - d }) (by constructor <;> rfl)
    (evalCover_lasting _)

theorem removeStoreHold_lasting (s : State) : Lasting s s.removeStoreHold :=
  Lasting.trans (t := s.setStore { s.store with holds := s.store.holds - 1 }) (by constructor <;> rfl)
    (evalStore_lasting _)

theorem strandEntry_lasting (s : State) (n : Nat) : Lasting s (s.strandEntry n) :=
  Lasting.trans (t := s.modEntry n fun e => { e with state := .stranded })
    (by constructor <;> simp [modEntry]) (raise_lasting _ _)

theorem releasePending_lasting (s : State) (n : Nat) : Lasting s (s.releasePending n) :=
  Lasting.trans (t := s.releasePlace n) (by constructor <;> simp) (evalStore_lasting _)

theorem endTransaction_lasting (s : State) (h : Hatch) (d : Drop) : Lasting s (s.endTransaction h d) := by
  have left : Lasting s (s.setDrop h d) := modPort_lasting _ _ _
  unfold endTransaction
  split
  · exact ((((left.trans (releaseCover_lasting _ _)).trans (by constructor <;> rfl)).trans
      (removeStoreHold_lasting _)).trans (evalIntake_lasting _))
  · exact ((left.trans (strandEntry_lasting _ _)).trans (removeStoreHold_lasting _)).trans (evalIntake_lasting _)
  · exact ((left.trans (strandEntry_lasting _ _)).trans (releasePending_lasting _ _)).trans (evalIntake_lasting _)
  all_goals exact left

theorem dropLink_lasting (s : State) (h : Hatch) : Lasting s (s.dropLink h) := by
  have ended := endTransaction_lasting s h .offline
  rcases Drop.code_cases (s.drop h) with e | e | e | e
  · rw [dropLink_offline s h e]
    exact .refl s
  · rwa [dropLink_plain s h e]
  · rw [dropLink_uncommitted s h e]
    exact ended.trans (countCancel_lasting _ _)
  · rw [dropLink_committed s h e]
    exact ended.trans (modPort_lasting _ _ _)

theorem resetDrop_lasting (s : State) (h : Hatch) : Lasting s (s.resetDrop h) := by
  unfold resetDrop
  split
  · exact dropLink_lasting s h
  · exact .refl s

/-- Step 5 at one port changes the port, and what the loss of its link changes. -/
theorem resetPort_lasting (s : State) (h : Hatch) : Lasting s (s.resetPort h) := by
  have unlinked : Lasting s (s.unlink h) := by
    unfold unlink
    split
    · exact (dropLink_lasting s h).trans (modPort_lasting _ _ _)
    · exact .refl s
  unfold resetPort
  split
  · exact modPort_lasting _ _ _
  · exact (unlinked.trans (modPort_lasting _ _ _)).trans (modPort_lasting _ _ _)

theorem freshMarks_lasting (s : State) : Lasting s s.freshMarks :=
  (((Lasting.trans (t := (((s.setCover { s.cover with near := false }).setJournal
    { s.journal with near := false }).setStore { s.store with near := false })) (by constructor <;> rfl)
    (evalCover_lasting _)).trans (evalJournal_lasting _)).trans (evalStore_lasting _))

end State

/-! ## What the ending of one transaction leaves of the other hatches -/

namespace State

/-- Another machine keeps its state, or was in AWAIT_DECL and is in IDLE. -/
theorem evalIntake_drop_cases (s : State) (k : Hatch) :
    s.evalIntake.drop k = s.drop k ∨ (s.drop k).code = 2 ∧ s.evalIntake.drop k = .idle := by
  have port := evalIntake_port s k
  split at port
  · next change =>
    obtain ⟨-, -, waits⟩ := change
    exact .inr ⟨waits, congrArg Port.drop port⟩
  · exact .inl (congrArg Port.drop port)

theorem endTransaction_drop_cases (s : State) {h k : Hatch} (other : h ≠ k) (d : Drop) :
    (s.endTransaction h d).drop k = s.drop k ∨ (s.drop k).code = 2 ∧ (s.endTransaction h d).drop k = .idle := by
  have left : ∀ {u : State}, u.ports = (s.setDrop h d).ports →
      u.evalIntake.drop k = s.drop k ∨ (s.drop k).code = 2 ∧ u.evalIntake.drop k = .idle := by
    intro u same
    have e : u.drop k = s.drop k := (drop_of_ports same k).trans (setDrop_drop_ne s other d)
    have cases := evalIntake_drop_cases u k
    rwa [e] at cases
  unfold endTransaction
  split
  · exact left (by simp)
  · exact left (by simp)
  · exact left (by simp)
  all_goals exact .inl (setDrop_drop_ne s other d)

theorem dropLink_drop_cases (s : State) {h k : Hatch} (other : h ≠ k) :
    (s.dropLink h).drop k = s.drop k ∨ (s.drop k).code = 2 ∧ (s.dropLink h).drop k = .idle := by
  have ended := endTransaction_drop_cases s other .offline
  rcases Drop.code_cases (s.drop h) with e | e | e | e
  · exact .inl (by rw [dropLink_offline s h e])
  · rwa [dropLink_plain s h e]
  · rwa [dropLink_uncommitted s h e, drop_of_ports (countCancel_ports _ _)]
  · rw [dropLink_committed s h e]
    simp only [drop, modPort_port_ne _ other] at ended ⊢
    exact ended

/-- A part of a port that no change of drop state, due SHOW and fault flag reaches is kept. -/
theorem dropLink_port_part {β : Type} (p : Port → β)
    (c : ∀ (q : Port) (d : Drop) (x : Option Nat), p { q with drop := d, showDue := x } = p q)
    (flag : ∀ (q : Port), p { q with faultFlag := true } = p q) (s : State) (h k : Hatch) :
    p ((s.dropLink h).port k) = p (s.port k) := by
  have ended := endTransaction_port_part p c s h k .offline
  rcases Drop.code_cases (s.drop h) with e | e | e | e
  · rw [dropLink_offline s h e]
  · rwa [dropLink_plain s h e]
  · rwa [dropLink_uncommitted s h e, port_of_ports (countCancel_ports _ _)]
  · rw [dropLink_committed s h e, modPort_port]
    split
    · next same => subst same; exact (flag _).trans ended
    · exact ended

theorem dropLink_faultFlag_ne (s : State) {h k : Hatch} (other : h ≠ k) :
    ((s.dropLink h).port k).faultFlag = (s.port k).faultFlag := by
  rcases Drop.code_cases (s.drop h) with e | e | e | e
  · rw [dropLink_offline s h e]
  · simp [dropLink_plain s h e]
  · simp [dropLink_uncommitted s h e, port_of_ports (countCancel_ports _ _)]
  · simp [dropLink_committed s h e, modPort_port_ne _ other]

/-! ## The holds as one transaction ends -/

/-- What hatch `h` owned leaves a sum over the four machines. -/
theorem sumDrops_ended {s t : State} (h : Hatch) (f : Holds → Nat) (none : f ⟨0, 0, 0, 0⟩ = 0)
    (self : t.drop h = .offline) (others : ∀ k, h ≠ k → (t.drop k).holds = (s.drop k).holds) :
    t.sumDrops f = s.sumDrops f - f (s.drop h).holds := by
  have own : f (t.drop h).holds = 0 := by rw [self]; exact none
  cases h <;> simp [sumDrops, Hatch.all, own, others] <;> omega

/-- An ending takes from the accounts what the machine owned. -/
theorem EndedFrom.accounts {s u : State} {d : Drop} (e : EndedFrom s u d) :
    u.cover.held = s.cover.held - d.holds.cover ∧ u.journal.slotHolds = s.journal.slotHolds - d.holds.slots
      ∧ u.store.holds = s.store.holds - d.holds.store := by
  cases d with
  | opened | weighing => exact ⟨e.1, e.2.1, e.2.2.1⟩
  | tipping => exact ⟨e.1, e.2.1, e.2.2.1⟩
  | offline | idle | awaitDecl | fault =>
    obtain ⟨cover, journal, store⟩ := e
    simp [Drop.holds, cover, journal, store]

theorem dropLink_holdsAgree {s : State} (h : Hatch) (agree : s.HoldsAgree) : (s.dropLink h).HoldsAgree := by
  obtain ⟨cover, slots, store⟩ := agree
  obtain ⟨cover', slots', store'⟩ := (dropLink_endedFrom s h).accounts
  have others : ∀ k, h ≠ k → ((s.dropLink h).drop k).holds = (s.drop k).holds := by
    intro k other
    rcases dropLink_drop_cases s other with same | ⟨waited, idle⟩
    · rw [same]
    · obtain ⟨t, dl, e⟩ := Drop.code_eq_two.1 waited
      rw [idle, e]
      rfl
  have sum (f : Holds → Nat) (none : f ⟨0, 0, 0, 0⟩ = 0) :=
    sumDrops_ended (s := s) (t := s.dropLink h) h f none (dropLink_drop_self s h) others
  exact ⟨by rw [cover', cover, sum _ rfl], by rw [slots', slots, sum _ rfl], by rw [store', store, sum _ rfl]⟩

/-! ## Step 2: the transactions end -/

/-- Whether a fault is remembered at a hatch, or will be as its link is lost (R25). -/
def remembersFault (s : State) (h : Hatch) : Bool :=
  (s.port h).faultFlag || decide ((s.drop h).code = 4 ∨ (s.drop h).code = 5)

end State

/-- `t` has the links of `s`, and transactions may have ended on link loss. -/
structure LinksDropped (s t : State) : Prop where
  agree : s.HoldsAgree → t.HoldsAgree
  offline : ∀ k, s.drop k = .offline → t.drop k = .offline
  remembers : ∀ k, t.remembersFault k = s.remembersFault k
  link : ∀ k, (t.port k).link = (s.port k).link
  inverted : ∀ k, (t.port k).inverted = (s.port k).inverted
  contactOpen : ∀ k, (t.port k).contactOpen = (s.port k).contactOpen
  badFrames : ∀ k, (t.port k).badFrames = (s.port k).badFrames
  missCount : ∀ k, (t.port k).missCount = (s.port k).missCount

namespace LinksDropped

variable {s t u : State}

theorem refl (s : State) : LinksDropped s s := by constructor <;> simp

theorem trans (a : LinksDropped s t) (b : LinksDropped t u) : LinksDropped s u where
  agree e := b.agree (a.agree e)
  offline k e := b.offline k (a.offline k e)
  remembers k := (b.remembers k).trans (a.remembers k)
  link k := (b.link k).trans (a.link k)
  inverted k := (b.inverted k).trans (a.inverted k)
  contactOpen k := (b.contactOpen k).trans (a.contactOpen k)
  badFrames k := (b.badFrames k).trans (a.badFrames k)
  missCount k := (b.missCount k).trans (a.missCount k)

theorem foldl {α : Type} {f : State → α → State} (k : ∀ s a, LinksDropped s (f s a)) :
    ∀ (l : List α) (s : State), LinksDropped s (l.foldl f s)
  | [], s => .refl s
  | a :: l, s => (k s a).trans (foldl k l (f s a))

theorem linksAgree (a : LinksDropped s t) (l : s.LinksAgree) : t.LinksAgree := fun h down =>
  a.offline h (l h (by rwa [← a.link h]))

end LinksDropped

namespace State

theorem dropLink_remembersFault (s : State) (h k : Hatch) : (s.dropLink h).remembersFault k = s.remembersFault k := by
  unfold remembersFault
  by_cases other : h = k
  · subst other
    simp [dropLink_drop_self, Drop.code, dropLink_port_self s h]
  · rw [dropLink_faultFlag_ne s other]
    rcases dropLink_drop_cases s other with same | ⟨waited, idle⟩
    · rw [same]
    · rw [idle, waited]
      rfl

theorem dropLink_linksDropped (s : State) (h : Hatch) : LinksDropped s (s.dropLink h) where
  agree := dropLink_holdsAgree h
  offline k e := by
    by_cases other : h = k
    · subst other; exact dropLink_drop_self s h
    · rcases dropLink_drop_cases s other with same | ⟨waited, _⟩
      · rwa [same]
      · rw [e] at waited; exact absurd waited (by decide)
  remembers := dropLink_remembersFault s h
  link := dropLink_port_part Port.link (fun _ _ _ => rfl) (fun _ => rfl) s h
  inverted := dropLink_port_part Port.inverted (fun _ _ _ => rfl) (fun _ => rfl) s h
  contactOpen := dropLink_port_part Port.contactOpen (fun _ _ _ => rfl) (fun _ => rfl) s h
  badFrames := dropLink_port_part Port.badFrames (fun _ _ _ => rfl) (fun _ => rfl) s h
  missCount := dropLink_port_part Port.missCount (fun _ _ _ => rfl) (fun _ => rfl) s h

theorem resetDrop_linksDropped (s : State) (h : Hatch) : LinksDropped s (s.resetDrop h) := by
  unfold resetDrop
  split
  · exact dropLink_linksDropped s h
  · exact .refl s

theorem resetDrop_drop_self {s : State} (l : s.LinksAgree) (h : Hatch) : (s.resetDrop h).drop h = .offline := by
  unfold resetDrop
  split
  · exact dropLink_drop_self s h
  · next down => exact l h down

/-- Every machine of the list is OFFLINE once the list has been gone through. -/
theorem foldl_resetDrop_offline (l : List Hatch) {s : State} (agree : s.LinksAgree) {h : Hatch} (mem : h ∈ l) :
    (l.foldl resetDrop s).drop h = .offline := by
  induction l generalizing s with
  | nil => exact absurd mem List.not_mem_nil
  | cons k l ih =>
    have step := resetDrop_linksDropped s k
    rcases List.mem_cons.1 mem with rfl | later
    · exact (LinksDropped.foldl resetDrop_linksDropped l _).offline h (resetDrop_drop_self agree h)
    · exact ih (step.linksAgree agree) later

/-- With every machine OFFLINE nothing is held. -/
theorem HoldsAgree.none {s : State} (agree : s.HoldsAgree) (offline : ∀ h, s.drop h = .offline) :
    s.cover.held = 0 ∧ s.journal.slotHolds = 0 ∧ s.store.holds = 0 := by
  obtain ⟨cover, slots, store⟩ := agree
  simp [cover, slots, store, sumDrops, Hatch.all, offline, Drop.holds]

end State

end Sys2Proof.Machine
end

section
/-! PROOFS. The machine after RESET (R152, R163, R191), and O19. -/

namespace Sys2Proof.Machine

open Sys2Proof

/-! ## A port after RESET -/

/-- The port of a machine OFFLINE after step 5: DISABLED it stays so, else it starts anew at HOLD_OFF. -/
def Port.restarted (now depth : Nat) (p : Port) : Port :=
  let q : Port :=
    if p.link = .disabled then p
    else
      { (if p.link = .up then p.discard else p) with link := .holdOff (now + Config.holdOffTime), streak := 0 }
  { q with caps := noCaps, depth := depth, receiptMode := .display, surroundLatch := false }

/-- What a restart keeps of a port, and what it sets. -/
theorem Port.restarted_fields (now depth : Nat) (p : Port) :
    let q := p.restarted now depth
    q.link = (if p.link = .disabled then .disabled else .holdOff (now + 1500))
      ∧ q.caps = noCaps ∧ q.depth = depth ∧ q.receiptMode = .display ∧ q.surroundLatch = false
      ∧ (p.release = none → q.release = none)
      ∧ q.badFrames = p.badFrames ∧ q.missCount = p.missCount ∧ q.inverted = p.inverted
      ∧ q.contactOpen = p.contactOpen ∧ q.faultFlag = p.faultFlag ∧ q.drop = p.drop := by
  unfold Port.restarted
  by_cases off : p.link = .disabled
  · simp [off]
  · by_cases up : p.link = .up
    · simp [up, discard, Config.holdOffTime]
    · simp [off, up, Config.holdOffTime]

namespace State

theorem modPort_congr {s : State} {h : Hatch} {f g : Port → Port} (e : f (s.port h) = g (s.port h)) :
    s.modPort h f = s.modPort h g := by
  unfold modPort
  rw [e]

/-- A link that leaves UP at a machine OFFLINE discards what the port held, and nothing else. -/
theorem unlink_offline (s : State) (h : Hatch) (e : s.drop h = .offline) :
    s.unlink h = s.modPort h fun p => if p.link = .up then p.discard else p := by
  unfold unlink
  split
  · next up =>
    unfold leaveUp
    rw [dropLink_offline s h e]
    exact modPort_congr (if_pos up).symm
  · next down =>
    have same : (s.modPort h fun p => p) = s := by
      cases h <;> rfl
    exact same.symm.trans (modPort_congr (if_neg down).symm)

theorem resetPort_offline (s : State) (h : Hatch) (e : s.drop h = .offline) :
    s.resetPort h = s.modPort h (Port.restarted s.now (s.config h).depth) := by
  unfold resetPort
  split
  · next off =>
    refine modPort_congr ?_
    simp [Port.restarted, off]
  · next on =>
    unfold forgetHead enterHoldOff
    rw [unlink_offline s h e, modPort_modPort, modPort_modPort]
    refine modPort_congr ?_
    simp [Port.restarted, on, config]

/-- A change at each port in turn is each port's own change. -/
theorem foldl_modPort_port (s : State) (f : Hatch → Port → Port) (k : Hatch) :
    (Hatch.all.foldl (fun u h => u.modPort h (f h)) s).port k = f k (s.port k) := by
  cases k <;> simp [Hatch.all, modPort_port]

/-- With every machine OFFLINE, step 5 is a change at each port. -/
theorem foldl_resetPort (s : State) (l : List Hatch) (u : State) (offline : ∀ k, u.drop k = .offline)
    (now : u.now = s.now) (tables : u.tables = s.tables) :
    l.foldl resetPort u = l.foldl (fun u h => u.modPort h (Port.restarted s.now (s.config h).depth)) u := by
  induction l generalizing u with
  | nil => rfl
  | cons h l ih =>
    have step : u.resetPort h = u.modPort h (Port.restarted s.now (s.config h).depth) := by
      rw [resetPort_offline u h (offline h), now, config, tables]
      rfl
    have stays : ∀ k, (u.modPort h (Port.restarted s.now (s.config h).depth)).drop k = .offline := by
      intro k
      unfold drop
      rw [modPort_port]
      split
      · next same =>
        subst same
        obtain ⟨-, -, -, -, -, -, -, -, -, -, -, drop⟩ :=
          Port.restarted_fields s.now (s.config k).depth (u.port k)
        exact drop.trans (offline k)
      · exact offline k
    rw [List.foldl_cons, List.foldl_cons, step]
    exact ih _ stays now tables

/-! ## The steps in order -/

/-- Steps 1 and 2: the office port is cleared, and the transactions end. -/
def resetTransactions (s : State) : State := Hatch.all.foldl resetDrop s.clearOffice

/-- Step 3: intake is disabled. -/
def resetIntake (s : State) : State :=
  (s.resetTransactions.setIntake { s.resetTransactions.intake with enable := false }).evalIntake

/-- Steps 4 and 5: the store and the ports restart. -/
def resetPorts (s : State) : State := Hatch.all.foldl resetPort s.resetIntake.resetStore

theorem resetSteps_eq (s : State) :
    s.resetSteps
      = s.resetPorts.disarmAll.resetMapAccess.freshMarks.setOffice
          { s.resetPorts.disarmAll.resetMapAccess.freshMarks.office with hand := none } := by
  unfold resetSteps resetPorts resetIntake resetTransactions
  rfl

theorem clearOffice_port (s : State) (h : Hatch) : s.clearOffice.port h = (s.port h).clearCounters := by
  cases h <;> rfl

theorem clearOffice_drop (s : State) (h : Hatch) : s.clearOffice.drop h = s.drop h := by
  unfold drop
  rw [clearOffice_port]
  rfl

theorem clearOffice_linksAgree {s : State} (agree : s.LinksAgree) : s.clearOffice.LinksAgree := by
  intro h down
  rw [clearOffice_port] at down
  rw [clearOffice_drop]
  exact agree h down

theorem clearOffice_holdsAgree {s : State} (agree : s.HoldsAgree) : s.clearOffice.HoldsAgree := by
  have sum (f : Holds → Nat) : s.clearOffice.sumDrops f = s.sumDrops f := by simp [sumDrops, clearOffice_drop]
  unfold HoldsAgree
  simp only [sum]
  exact agree

theorem resetTransactions_linksDropped (s : State) : LinksDropped s.clearOffice s.resetTransactions :=
  .foldl resetDrop_linksDropped _ _

theorem resetTransactions_lasting (s : State) : Lasting s.clearOffice s.resetTransactions :=
  .foldl resetDrop_lasting _ _

section

variable {s : State}

theorem resetTransactions_offline (agree : s.LinksAgree) (h : Hatch) : s.resetTransactions.drop h = .offline :=
  foldl_resetDrop_offline _ (clearOffice_linksAgree agree) (Hatch.mem_all h)

/-- The evaluation finds no drop in flight, and cancels nothing. -/
theorem resetIntake_port (agree : s.LinksAgree) (h : Hatch) : s.resetIntake.port h = s.resetTransactions.port h := by
  refine evalIntake_port_eq _ h ?_
  rw [drop_of_ports (setIntake_ports _ _), resetTransactions_offline agree]
  decide

theorem resetIntake_intake (agree : s.LinksAgree) :
    s.resetIntake.intake = { s.resetTransactions.intake with enable := false, state := .stopped } := by
  have none : Hatch.all.any (fun h => (s.resetTransactions.drop h).inFlight) = false := by
    simp [resetTransactions_offline agree, Drop.inFlight]
  have target : (s.resetTransactions.setIntake { s.resetTransactions.intake with enable := false }).intakeTarget
      = .stopped := by
    rw [intakeTarget_eq]
    exact (if_pos rfl).trans (if_neg (Bool.eq_false_iff.1 none))
  unfold resetIntake
  rw [evalIntake_intake, target]
  rfl

theorem resetIntake_lasting (s : State) : Lasting s.clearOffice s.resetIntake :=
  ((resetTransactions_lasting s).trans (by constructor <;> rfl)).trans (evalIntake_lasting _)

/-- The store as step 4 leaves it: it homes, and hatch 4 was last granted. -/
def homingStore (u : State) : Store :=
  { u.store with
    position := none
    carousel := if u.store.doorOpen then .haltedHoming else .homing (u.now + 40000)
    lastGranted := .h4 }

theorem resetStore_eq (u : State) :
    u.resetStore
      = Hatch.all.foldl (fun s h => s.modPort h fun p => { p with release := none }) (u.setStore u.homingStore) := rfl

/-- What a change at each port leaves of the state: all but the ports. -/
theorem foldl_modPort_part {β : Type} (p : State → β) (c : ∀ u x, p (setPorts u x) = p u) (f : Hatch → Port → Port)
    (l : List Hatch) (u : State) : p (l.foldl (fun u h => u.modPort h (f h)) u) = p u :=
  foldl_field p (fun _ _ => c _ _) l u

theorem resetStore_part {β : Type} (p : State → β) (c : ∀ u x, p (setPorts u x) = p u) (u : State) :
    p u.resetStore = p (u.setStore u.homingStore) := by
  rw [resetStore_eq]
  exact foldl_modPort_part p c _ _ _

theorem resetStore_port (u : State) (h : Hatch) : u.resetStore.port h = { u.port h with release := none } := by
  rw [resetStore_eq]
  exact foldl_modPort_port _ (fun _ p => { p with release := none }) h

theorem disarmAll_port (u : State) (h : Hatch) : u.disarmAll.port h = { u.port h with zeroArmed := false } :=
  foldl_modPort_port u (fun _ p => { p with zeroArmed := false }) h

theorem resetStore_lasting (u : State) : Lasting u u.resetStore := by
  have homing : Lasting u (u.setStore u.homingStore) := by constructor <;> rfl
  have released := Lasting.foldl (fun s h => modPort_lasting s h fun p => { p with release := none }) Hatch.all
    (u.setStore u.homingStore)
  rw [resetStore_eq]
  exact homing.trans released

theorem disarmAll_lasting (u : State) : Lasting u u.disarmAll := by
  unfold disarmAll
  exact .foldl (fun _ _ => modPort_lasting _ _ _) _ _

theorem setHand_lasting (u : State) (x : Option Hand) : Lasting u (u.setOffice { u.office with hand := x }) := by
  constructor <;> rfl

theorem resetMapAccess_lasting (u : State) : Lasting u u.resetMapAccess := by constructor <;> rfl

theorem disarmAll_part {β : Type} (p : State → β) (c : ∀ u x, p (setPorts u x) = p u) (u : State) :
    p u.disarmAll = p u := foldl_modPort_part p c (fun _ p => { p with zeroArmed := false }) _ u

/-- Step 5 as a change at each port. -/
theorem resetPorts_eq (agree : s.LinksAgree) :
    s.resetPorts
      = Hatch.all.foldl (fun u h => u.modPort h (Port.restarted s.now (s.config h).depth)) s.resetIntake.resetStore := by
  have started := resetIntake_lasting s
  refine foldl_resetPort s _ _ (fun k => ?_) ?_ ?_
  · unfold drop
    rw [resetStore_port, resetIntake_port agree]
    exact resetTransactions_offline agree k
  · exact (resetStore_part State.now (fun _ _ => rfl) _).trans started.now
  · exact (resetStore_part State.tables (fun _ _ => rfl) _).trans started.tables

theorem resetPorts_part {β : Type} (p : State → β) (c : ∀ u x, p (setPorts u x) = p u) (agree : s.LinksAgree) :
    p s.resetPorts = p (s.resetIntake.setStore s.resetIntake.homingStore) := by
  rw [resetPorts_eq agree]
  exact (foldl_modPort_part p c _ _ _).trans (resetStore_part p c _)

/-! ## What the steps leave -/

theorem resetSteps_port (agree : s.LinksAgree) (h : Hatch) :
    s.resetSteps.port h
      = { (Port.restarted s.now (s.config h).depth { s.resetTransactions.port h with release := none }) with
          zeroArmed := false } := by
  have marks : s.resetSteps.port h = s.resetPorts.disarmAll.port h := by
    rw [resetSteps_eq]
    exact port_of_ports (by simp [freshMarks, resetMapAccess]) h
  rw [marks, disarmAll_port, resetPorts_eq agree,
    foldl_modPort_port _ (fun h => Port.restarted s.now (s.config h).depth), resetStore_port, resetIntake_port agree]

theorem resetSteps_lasting (s : State) : Lasting s.clearOffice s.resetSteps := by
  have restarted : Lasting s.resetIntake.resetStore s.resetPorts := by
    unfold resetPorts
    exact .foldl resetPort_lasting _ _
  have ports := ((resetIntake_lasting s).trans (resetStore_lasting _)).trans restarted
  have marked := ((ports.trans (disarmAll_lasting s.resetPorts)).trans
    (resetMapAccess_lasting s.resetPorts.disarmAll)).trans (freshMarks_lasting _)
  rw [resetSteps_eq]
  exact marked.trans (setHand_lasting _ _)

/-- Before the marks are evaluated, what is not in a port is as steps 3 and 4 left it. -/
theorem disarmedPorts_part {β : Type} (p : State → β) (c : ∀ u x, p (setPorts u x) = p u) (agree : s.LinksAgree) :
    p s.resetPorts.disarmAll = p (s.resetIntake.setStore s.resetIntake.homingStore) :=
  (disarmAll_part p c _).trans (resetPorts_part p c agree)

theorem resetSteps_holds (sound : s.Sound) :
    s.resetSteps.cover.held = 0 ∧ s.resetSteps.journal.slotHolds = 0 ∧ s.resetSteps.store.holds = 0 := by
  obtain ⟨links, holds, -⟩ := sound
  obtain ⟨held, slots, store⟩ := ((resetTransactions_linksDropped s).agree (clearOffice_holdsAgree holds)).none
    (resetTransactions_offline links)
  have cover' := disarmedPorts_part (fun u => u.cover.held) (fun _ _ => rfl) links
  have slots' := disarmedPorts_part (fun u => u.journal.slotHolds) (fun _ _ => rfl) links
  have store' := disarmedPorts_part (fun u => u.store.holds) (fun _ _ => rfl) links
  rw [resetSteps_eq]
  refine ⟨?_, ?_, ?_⟩
  · simpa [freshMarks, resetMapAccess, cover', resetIntake] using held
  · simpa [freshMarks, resetMapAccess, slots', resetIntake] using slots
  · simpa [freshMarks, resetMapAccess, store', resetIntake, homingStore] using store

theorem resetSteps_store (agree : s.LinksAgree) :
    s.resetSteps.store.lastGranted = .h4 ∧ s.resetSteps.store.position = none
      ∧ s.resetSteps.store.carousel = if s.store.doorOpen then .haltedHoming else .homing (s.now + 40000) := by
  have started := resetIntake_lasting s
  have last : s.resetPorts.disarmAll.store.lastGranted = .h4 :=
    disarmedPorts_part (fun u => u.store.lastGranted) (fun _ _ => rfl) agree
  have position : s.resetPorts.disarmAll.store.position = none :=
    disarmedPorts_part (fun u => u.store.position) (fun _ _ => rfl) agree
  have carousel := disarmedPorts_part (fun u => u.store.carousel) (fun _ _ => rfl) agree
  rw [resetSteps_eq]
  refine ⟨by simpa [freshMarks, resetMapAccess] using last, by simpa [freshMarks, resetMapAccess] using position, ?_⟩
  have homing : s.resetIntake.homingStore.carousel
      = if s.store.doorOpen then .haltedHoming else .homing (s.now + 40000) := by
    unfold homingStore
    rw [started.doorOpen, started.now]
    rfl
  simpa [freshMarks, resetMapAccess] using carousel.trans homing

theorem resetSteps_intake (agree : s.LinksAgree) :
    s.resetSteps.intake = { s.intake with enable := false, state := .stopped } := by
  have disarmed := disarmedPorts_part State.intake (fun _ _ => rfl) agree
  rw [resetSteps_eq]
  have stopped : s.resetPorts.disarmAll.intake = { s.intake with enable := false, state := .stopped } :=
    disarmed.trans ((resetIntake_intake agree).trans (resetTransactions_lasting s).intake)
  simpa [freshMarks, resetMapAccess] using stopped

theorem resetSteps_mapAccess (s : State) : s.resetSteps.mapAccess = ⟨0, 1020, 0⟩ := by
  rw [resetSteps_eq]
  simp [freshMarks, resetMapAccess, MapAccess.whole]

theorem resetSteps_hand (s : State) : s.resetSteps.office.hand = none := by rw [resetSteps_eq]; rfl

end

/-! ## The end of RESET's reply -/

/-- A notice that begins leaves nothing counted. -/
theorem pump_office_cleared {u : State} (replies : u.office.replies = []) (count : u.office.count = 0)
    (timer : u.office.timer = none) :
    u.pump.office.hand = u.office.hand ∧ u.pump.office.replies = [] ∧ u.pump.office.count = 0
      ∧ u.pump.office.timer = none := by
  unfold pump
  rw [replies]
  split <;> simp_all

theorem exec_transmitEnd (s : State) : exec .transmitEnd s = .next (s.event State.transmitEnd) := rfl

theorem exec_transmitEnd_reset {s : State} {f : OfficeFrame} (run : s.running = true)
    (hand : s.office.hand = some .resetSending) (sending : s.office.transmitter = some f) :
    exec .transmitEnd s = .next (s.setOffice { s.office with transmitter := none }).resetSteps.pump := by
  have ended : s.transmitEnd = (s.setOffice { s.office with transmitter := none }).resetSteps := by
    unfold transmitEnd finishFrame
    simp only [sending, hand]
    rfl
  rw [exec_transmitEnd, event_run _ run, ended]

/-- The port of a sound state after RESET. -/
theorem resetSteps_port_fields {s : State} (agree : s.LinksAgree) (h : Hatch) :
    let p := s.resetSteps.port h
    p.drop = .offline
      ∧ p.link = (if (s.port h).link = .disabled then .disabled else .holdOff (s.now + 1500))
      ∧ p.caps = noCaps ∧ p.depth = (s.config h).depth ∧ p.receiptMode = .display
      ∧ p.release = none ∧ p.zeroArmed = false ∧ p.surroundLatch = false ∧ p.badFrames = 0 ∧ p.missCount = 0
      ∧ p.inverted = (s.port h).inverted ∧ p.contactOpen = (s.port h).contactOpen
      ∧ p.faultFlag = ((s.port h).faultFlag || decide ((s.drop h).code = 4 ∨ (s.drop h).code = 5)) := by
  have dropped := resetTransactions_linksDropped s
  have offline := resetTransactions_offline agree h
  have remembers := dropped.remembers h
  have cleared := clearOffice_port s h
  have flag : (s.resetTransactions.port h).faultFlag
      = ((s.port h).faultFlag || decide ((s.drop h).code = 4 ∨ (s.drop h).code = 5)) := by
    have empty : decide ((s.resetTransactions.drop h).code = 4 ∨ (s.resetTransactions.drop h).code = 5) = false := by
      rw [offline]
      rfl
    unfold remembersFault at remembers
    rwa [empty, Bool.or_false, cleared, clearOffice_drop] at remembers
  obtain ⟨link, caps, depth, mode, latch, release, bad, misses, inverted, contact, flagged, drop⟩ :=
    Port.restarted_fields s.now (s.config h).depth { s.resetTransactions.port h with release := none }
  dsimp only
  rw [resetSteps_port agree h]
  refine ⟨drop.trans offline, link.trans ?_, caps, depth, mode, release rfl, rfl, latch, bad.trans ?_, misses.trans ?_,
    inverted.trans ?_, contact.trans ?_, flagged.trans flag⟩
  · simp [dropped.link, cleared, Port.clearCounters]
  · simp [dropped.badFrames, cleared, Port.clearCounters]
  · simp [dropped.missCount, cleared, Port.clearCounters]
  · simp [dropped.inverted, cleared, Port.clearCounters]
  · simp [dropped.contactOpen, cleared, Port.clearCounters]

end State

open State in
/-- Settles O19: the transactions end one by one as their links are lost, which keeps the sums of the holds, and
with every machine OFFLINE the later steps are changes of each part alone. -/
theorem resetStepsRestartTheOperation : Obligations.ResetStepsRestartTheOperation := by
  unfold Obligations.ResetStepsRestartTheOperation
  intro s f sound run hand sending
  let s1 := s.setOffice { s.office with transmitter := none }
  have sound1 : s1.Sound := sound
  obtain ⟨links, -, -⟩ := sound1
  have lasting := resetSteps_lasting s1
  obtain ⟨held, slots, holds⟩ := resetSteps_holds (s := s1) sound
  obtain ⟨last, position, carousel⟩ := resetSteps_store links
  obtain ⟨hand', replies', count', timer'⟩ :=
    pump_office_cleared (u := s1.resetSteps) lasting.replies lasting.count lasting.timer
  refine ⟨s1.resetSteps.pump, exec_transmitEnd_reset run hand sending, hand'.trans (resetSteps_hand s1), replies', count', timer', ?_, ?_, ?_,
    fun h => ?_, ?_⟩
  · rw [pump_office_badFrames]; exact lasting.badFrames
  · rw [pump_office_unexpectedDrops]; exact lasting.unexpectedDrops
  · rw [pump_intake]; exact resetSteps_intake links
  · rw [pump_port, pump_drop]; exact resetSteps_port_fields links h
  · simp only [pump_cover, pump_journal, pump_store, pump_mapAccess, pump_tables, pump_tableStore, pump_counts,
      pump_straps, pump_now]
    exact ⟨held, lasting.committed, slots, lasting.next, lasting.last, lasting.epoch, lasting.length, holds, last,
      position, carousel, lasting.queues, resetSteps_mapAccess s1, lasting.tables, lasting.tableStore, lasting.counts,
      lasting.straps, lasting.now⟩

end Sys2Proof.Machine
end

section
/-! SUPPORT. The command of a request that meets an empty hand, from what its handler answers. -/

namespace Sys2Proof.Machine

open Sys2Proof

namespace State

/-- The command of a request that is answered with nothing changed. -/
theorem exec_request_same {α : Type} {i : Instr} {s : State} {c : Nat} {a : α} {f : α → State}
    (command : exec i s = .next (s.request c (.fits a) f)) (ready : s.Ready) {x : Result} {d : List Byte}
    (same : f a = s.answer c x d) : exec i s = .next (s.answered c x d) :=
  command.trans (congrArg _ (request_same ready c a f x d same))

/-- The command of a request that is answered after a change that leaves hand, waiting replies and transmitter. -/
theorem exec_request_answered {α : Type} {i : Instr} {s u : State} {c : Nat} {a : α} {f : α → State}
    (command : exec i s = .next (s.request c (.fits a) f)) (ready : s.Ready) {x : Result} {d : List Byte}
    (changed : f a = u.answer c x d) (kept : Kept s u) : exec i s = .next (u.answered c x d) :=
  command.trans (congrArg _ (request_answered ready c a f x d changed kept))

end State

end Sys2Proof.Machine
end

section
/-! PROOFS. The requests that only read (R36, R56, R70, R93, R104, R135, R147, R178 to R180). -/

namespace Sys2Proof.Machine

open Sys2Proof

namespace State

theorem statusRead_eq (s : State) : s.statusRead () = s.answer 0x01 .ok s.statusData := rfl

theorem countersRead_eq (s : State) : s.countersRead () = s.answer 0x03 .ok s.counterData := rfl

theorem scheduleRead_eq (s : State) : s.scheduleRead () = s.answer 0x12 .ok s.scheduleData := rfl

theorem massTablesRead_eq (s : State) : s.massTablesRead () = s.answer 0x2B .ok s.massData := rfl

theorem coverRead_eq (s : State) : s.coverRead () = s.answer 0x41 .ok s.coverData := rfl

theorem hatchRead_num (s : State) (h : Hatch) : s.hatchRead h.num = s.answer 0x02 .ok (s.hatchData h) := by
  simp [hatchRead]

theorem hatchRead_range (s : State) {n : Nat} (bad : n = 0 ∨ 4 < n) : s.hatchRead n = s.answer 0x02 .range [] := by
  simp [hatchRead, hatchOf?_none bad]

theorem binRead_val (s : State) (b : BinNo) : s.binRead b.val = s.answer 0x53 .ok (s.binData b) := by simp [binRead]

theorem binRead_range (s : State) {n : Nat} (bad : 30 ≤ n) : s.binRead n = s.answer 0x53 .range [] := by
  simp [binRead, binOf?_none bad]

theorem journalRead_ok (s : State) {a : JournalReadArgs} (fits : 1 ≤ a.count ∧ a.count ≤ 4) :
    s.journalRead a = s.answer 0x48 .ok (s.journalData (s.entriesFrom a.start a.count)) :=
  if_pos ((within_eq_true _ _ _).2 fits)

theorem journalRead_range (s : State) {a : JournalReadArgs} (bad : ¬(1 ≤ a.count ∧ a.count ≤ 4)) :
    s.journalRead a = s.answer 0x48 .range [] :=
  if_neg fun fits => bad ((within_eq_true _ _ _).1 fits)

theorem depositorRead_notFound (s : State) {n : Nat} (named : n ≠ 0) (absent : s.lookup n = none) :
    s.depositorRead n = s.answer 0x23 .notFound [] := by
  simp [depositorRead, named, absent]

theorem depositorRead_found (s : State) {n : Nat} (named : n ≠ 0) {x : Slot × DepositorEntry}
    (found : s.lookup n = some x) : s.depositorRead n = s.answer 0x23 .ok (s.depositorData x.1 x.2) := by
  simp [depositorRead, named, found]

end State

open State in
/-- Settles O13: in each case of its operand a read forms one reply on the state it meets. -/
theorem readsAnswerAndChangeNothing : Obligations.ReadsAnswerAndChangeNothing := by
  unfold Obligations.ReadsAnswerAndChangeNothing
  intro s ready
  refine ⟨exec_request_same rfl ready s.statusRead_eq, exec_request_same rfl ready s.countersRead_eq,
    exec_request_same rfl ready s.scheduleRead_eq, exec_request_same rfl ready s.massTablesRead_eq,
    exec_request_same rfl ready s.coverRead_eq,
    fun h => exec_request_same rfl ready (s.hatchRead_num h),
    fun n bad => exec_request_same rfl ready (s.hatchRead_range bad), fun n => ?_,
    fun b => exec_request_same rfl ready (s.binRead_val b),
    fun n bad => exec_request_same rfl ready (s.binRead_range bad), fun a => ?_, fun n => ?_⟩
  · split
    · next beyond => exact exec_request_same rfl ready (if_pos beyond)
    · next listed => exact exec_request_same rfl ready (if_neg listed)
  · split
    · next fits => exact exec_request_same rfl ready (s.journalRead_ok fits)
    · next bad => exact exec_request_same rfl ready (s.journalRead_range bad)
  · split
    · next zero => exact exec_request_same rfl ready (if_pos zero)
    · next named =>
      split
      · next absent => exact exec_request_same rfl ready (s.depositorRead_notFound named absent)
      · next found => exact exec_request_same rfl ready (s.depositorRead_found named found)

end Sys2Proof.Machine
end

section
/-! PROOFS. The requests on the mass tables and COVER_SET (R33, R34, R41, R90). -/

namespace Sys2Proof.Machine

open Sys2Proof

/-! ## Denominations in range (R33) -/

/-- A denomination entry is in range: VOID with any values, NOTE and COIN with both of theirs in range. -/
def DenomInRange (a : DenomArgs) : Prop :=
  a.kind = 2 ∨ a.kind ≤ 1 ∧ 1 ≤ a.face ∧ a.face ≤ 50000 ∧ 1 ≤ a.mass ∧ a.mass ≤ 20000

/-- The entry that DENOM_PUT writes. -/
def denomGiven (a : DenomArgs) : Denom :=
  if a.kind = 0 then .note a.face a.mass else if a.kind = 1 then .coin a.face a.mass else .void

theorem denomOf?_given {a : DenomArgs} (fits : DenomInRange a) : denomOf? a = some (denomGiven a) := by
  obtain ⟨index, kind, face, mass⟩ := a
  rcases fits with void | ⟨valued, values⟩
  · dsimp only at void
    subst void
    rfl
  · match kind, valued with
    | 0, _ | 1, _ => simp_all [denomOf?, denomGiven]

theorem denomOf?_none {a : DenomArgs} (bad : ¬DenomInRange a) : denomOf? a = none := by
  obtain ⟨index, kind, face, mass⟩ := a
  match kind with
  | 0 | 1 => simpa [denomOf?, DenomInRange, and_assoc] using bad
  | 2 => exact absurd (.inl rfl) bad
  | n + 3 => rfl

namespace State

/-! ## The mass tables -/

theorem denomPut_ok (s : State) {a : DenomArgs} (index : a.index < 16) (fits : DenomInRange a) :
    s.denomPut a
      = (s.setTables { s.tables with denoms := s.tables.denoms.put ⟨a.index, index⟩ (denomGiven a) }).answer
          0x28 .ok [] := by
  simp [denomPut, index, denomOf?_given fits]

theorem denomPut_range (s : State) {a : DenomArgs} (bad : ¬(a.index ≤ 15 ∧ DenomInRange a)) :
    s.denomPut a = s.answer 0x28 .range [] := by
  unfold denomPut
  split
  · next index => rw [denomOf?_none fun fits => bad ⟨Nat.le_of_lt_succ index, fits⟩]
  · rfl

theorem tarePut_ok (s : State) {a : TareArgs} (bagClass : a.bagClass < 4) (tare : a.tare ≤ 255) :
    s.tarePut a
      = (s.setTables { s.tables with tares := s.tables.tares.put ⟨a.bagClass, bagClass⟩ a.tare }).answer
          0x29 .ok [] := by
  simp [tarePut, bagClass, tare]

theorem tarePut_range (s : State) {a : TareArgs} (bad : ¬(a.bagClass ≤ 3 ∧ a.tare ≤ 255)) :
    s.tarePut a = s.answer 0x29 .range [] := by
  unfold tarePut
  split
  · next bagClass => exact if_neg fun tare => bad ⟨Nat.le_of_lt_succ bagClass, tare⟩
  · rfl

/-! ## COVER_SET -/

/-- A value taken for C shows in the sums, and S and H are as they were. -/
theorem setLimit_coverSums (s : State) (c : Nat) :
    (s.setLimit c).coverSums = bytesOf 4 c ++ bytesOf 4 s.cover.committed ++ bytesOf 4 s.cover.held := by
  simp [setLimit, coverSums, Out.u32]

theorem setLimit_kept (s : State) (c : Nat) : Kept s (s.setLimit c) := (setTables_kept s _).trans (evalCover_kept _)

theorem coverSet_range (s : State) {v : Nat} (bad : 4000000000 < v) : s.coverSet v = s.answer 0x40 .range [] :=
  if_pos bad

/-- A limit in range is taken no lower than S + H. -/
theorem coverSet_taken (s : State) {v : Nat} (inRange : ¬4000000000 < v) :
    s.coverSet v
      = (s.setLimit (max v (s.cover.committed + s.cover.held))).answer 0x40
          (if s.cover.committed + s.cover.held ≤ v then .ok else .clamped)
          (s.setLimit (max v (s.cover.committed + s.cover.held))).coverSums := by
  refine (if_neg inRange).trans ?_
  split
  · next covers => rw [Nat.max_eq_left covers]
  · next short => rw [Nat.max_eq_right (Nat.le_of_not_le short)]

end State

open State in
/-- Settles O27: one table entry is written where the operand is in range. -/
theorem massTableWrites : Obligations.MassTableWrites := by
  unfold Obligations.MassTableWrites
  refine ⟨fun s a ready => ⟨?_, rfl, rfl, rfl⟩, fun s a ready => ?_⟩
  · split
    · next fits =>
      obtain ⟨index, inRange⟩ := fits
      exact exec_request_answered rfl ready (s.denomPut_ok (Nat.lt_succ_of_le index) inRange) (setTables_kept _ _)
    · next bad => exact exec_request_same rfl ready (s.denomPut_range bad)
  · split
    · next fits =>
      obtain ⟨bagClass, tare⟩ := fits
      exact exec_request_answered rfl ready (s.tarePut_ok (Nat.lt_succ_of_le bagClass) tare) (setTables_kept _ _)
    · next bad => exact exec_request_same rfl ready (s.tarePut_range bad)

open State in
/-- Settles O29: a limit below S + H is the same change as S + H itself, with its own result. -/
theorem toleranceSetAndCoverSet : Obligations.ToleranceSetAndCoverSet := by
  unfold Obligations.ToleranceSetAndCoverSet
  refine fun s ready => ⟨fun a => ?_, fun v => ?_⟩
  · split
    · next fits => exact exec_request_answered rfl ready (if_pos fits) (setTables_kept _ _)
    · next bad => exact exec_request_same rfl ready (if_neg bad)
  · split
    · next bad => exact exec_request_same rfl ready (s.coverSet_range bad)
    · next inRange =>
      rw [exec_request_answered rfl ready (s.coverSet_taken inRange) (setLimit_kept s _), setLimit_coverSums]
      rfl

end Sys2Proof.Machine
end

section
/-! PROOFS. The measured mass (R44). -/

namespace Sys2Proof.Machine

open Sys2Proof

/-- Nothing is measured below the zero. -/
theorem measure_below {c : Calibration} {raw : Int} (below : raw < c.zero) : measure c raw = (0, false) := by
  have negative : raw - c.zero < 0 := by omega
  simp [measure, negative, Config.maxMass]

/-- From the zero on the reading is rounded, then clamped. -/
theorem measure_above {c : Calibration} {raw : Int} {n : Nat} (above : raw - c.zero = n) :
    measure c raw = (min ((n * c.span + 32768) / 65536) 20000, decide (20000 < (n * c.span + 32768) / 65536)) := by
  have taken : ¬((n : Int) < 0) := by omega
  simp only [measure, above, taken, if_false, Int.natAbs_natCast, Config.maxMass]
  split
  · next beyond => simp [beyond, Nat.le_of_lt beyond]
  · next fits => simp [fits, Nat.le_of_not_lt fits]

/-- Settles O54: half up is half away from zero for a reading that is not negative, and the quotient by 65,536 of
the product with half of it added is the one whole number between the two bounds. -/
theorem measuredMassIsRoundedAndClamped : Obligations.MeasuredMassIsRoundedAndClamped := by
  unfold Obligations.MeasuredMassIsRoundedAndClamped
  refine fun c raw => ⟨measure_below, fun above => ?_⟩
  obtain ⟨n, reading⟩ := Int.eq_ofNat_of_zero_le (Int.sub_nonneg_of_le above)
  refine ⟨(n * c.span + 32768) / 65536, ?_, ?_, measure_above reading⟩
  · rw [reading]
    exact_mod_cast Nat.mul_div_le _ _
  · rw [reading]
    exact_mod_cast Nat.lt_mul_div_succ _ (by decide)

end Sys2Proof.Machine
end

section
/-! PROOFS. HATCH_CALIBRATE, HATCH_RELINK and HATCH_SHOW (R43, R166, R167). -/

namespace Sys2Proof.Machine

open Sys2Proof

theorem calibrationOf?_some {a : CalibrateArgs} (low : -8388608 ≤ a.zero) (high : a.zero ≤ 8388607)
    (span : 1 ≤ a.span) (wide : a.span ≤ 65535) (band : a.band ≤ 4095) :
    calibrationOf? a = some ⟨a.zero, a.span, a.band⟩ := by
  simp [calibrationOf?, low, high, span, wide, band]

theorem calibrationOf?_none {a : CalibrateArgs}
    (bad : a.zero < -8388608 ∨ 8388607 < a.zero ∨ a.span = 0 ∨ 65535 < a.span ∨ 4095 < a.band) :
    calibrationOf? a = none := by
  refine if_neg ?_
  simp only [Bool.and_eq_true, decide_eq_true_eq, within_eq_true]
  omega

namespace State

/-! ## HATCH_CALIBRATE -/

theorem hatchCalibrate_num (s : State) (h : Hatch) {a : CalibrateArgs} (hatch : a.hatch = h.num) {c : Calibration}
    (fits : calibrationOf? a = some c) : s.hatchCalibrate a = (s.calibrate h c).answer 0x61 .ok [] := by
  simp [hatchCalibrate, hatch, fits]

theorem hatchCalibrate_range (s : State) {a : CalibrateArgs}
    (bad : (a.hatch = 0 ∨ 4 < a.hatch) ∨ calibrationOf? a = none) :
    s.hatchCalibrate a = s.answer 0x61 .range [] := by
  unfold hatchCalibrate
  split
  · next hatch fits =>
    rcases bad with unknown | outside
    · simp [hatchOf?_none unknown] at hatch
    · simp [outside] at fits
  · rfl

theorem calibrate_kept (s : State) (h : Hatch) (c : Calibration) : Kept s (s.calibrate h c) :=
  (setCalibration_kept s h c).trans (modPort_kept _ h _)

/-! ## HATCH_RELINK -/

theorem hatchRelink_range (s : State) {n : Nat} (bad : n = 0 ∨ 4 < n) :
    s.hatchRelink n = s.answer 0x62 .range [] := by
  simp [hatchRelink, hatchOf?_none bad]

theorem hatchRelink_disabled (s : State) (h : Hatch) (off : (s.port h).link = .disabled) :
    s.hatchRelink h.num = s.answer 0x62 .state [] := by
  simp [hatchRelink, off]

theorem hatchRelink_enabled (s : State) (h : Hatch) (on : (s.port h).link ≠ .disabled) :
    s.hatchRelink h.num = (s.enterHoldOff h).answer 0x62 .ok [] := by
  simp [hatchRelink, on]

/-- A link that was not UP has nothing to leave. -/
theorem enterHoldOff_down (s : State) (h : Hatch) (down : (s.port h).link ≠ .up) :
    s.enterHoldOff h
      = s.modPort h fun p => { p with link := .holdOff (s.now + Config.holdOffTime), streak := 0 } := by
  unfold enterHoldOff unlink
  rw [if_neg down]

/-- The port of a link that was UP: its machine is ended, what it held discarded, and it starts anew. -/
theorem enterHoldOff_up_port (s : State) (h : Hatch) (up : (s.port h).link = .up) :
    (s.enterHoldOff h).port h
      = { ((s.dropLink h).port h).discard with link := .holdOff (s.now + Config.holdOffTime), streak := 0 } := by
  simp [enterHoldOff, unlink, up, leaveUp]

/-! ## HATCH_SHOW -/

theorem hatchShow_hatch (s : State) {n code : Nat} (bad : n = 0 ∨ 4 < n) :
    s.hatchShow ⟨n, code⟩ = s.answer 0x63 .range [] := by
  simp [hatchShow, hatchOf?_none bad]

theorem hatchShow_code (s : State) (h : Hatch) {code : Nat} (bad : code < 32 ∨ 63 < code) :
    s.hatchShow ⟨h.num, code⟩ = s.answer 0x63 .range [] := by
  have outside : within 32 63 code = false := (within_eq_false _ _ _).2 (by omega)
  simp [hatchShow, outside]

theorem hatchShow_num (s : State) (h : Hatch) {code : Nat} (fits : ¬(code < 32 ∨ 63 < code)) :
    s.hatchShow ⟨h.num, code⟩
      = if (s.port h).link = .up then (s.showAt h code).answer 0x63 .ok [] else s.answer 0x63 .state [] := by
  have inside : within 32 63 code = true := (within_eq_true _ _ _).2 (by omega)
  simp [hatchShow, inside]

end State

open State in
/-- Settles O57: each request by the case of its operands and of the link it meets; a link that is UP leaves it as
on a loss. -/
theorem calibrateRelinkAndShow : Obligations.CalibrateRelinkAndShow := by
  unfold Obligations.CalibrateRelinkAndShow
  refine fun s ready => ⟨fun a => ⟨fun bad => ?_, fun h hatch low high span wide band => ?_⟩,
    fun n bad => ⟨exec_request_same rfl ready (s.hatchRelink_range bad),
      fun code => exec_request_same rfl ready (s.hatchShow_hatch bad)⟩,
    fun h => ⟨fun off => exec_request_same rfl ready (s.hatchRelink_disabled h off), fun waits => ?_, fun up => ?_,
      fun code => ?_⟩⟩
  · exact exec_request_same rfl ready
      (s.hatchCalibrate_range ((or_assoc.2 bad).imp_right calibrationOf?_none))
  · exact exec_request_answered rfl ready
      (s.hatchCalibrate_num h hatch (calibrationOf?_some low high span wide band)) (s.calibrate_kept h _)
  · have on : (s.port h).link ≠ .disabled := fun e => by simp [e, LinkState.code] at waits
    have down : (s.port h).link ≠ .up := fun e => by simp [e, LinkState.code] at waits
    rw [exec_request_answered rfl ready (s.hatchRelink_enabled h on) (s.enterHoldOff_kept h),
      s.enterHoldOff_down h down]
    rfl
  · have on : (s.port h).link ≠ .disabled := by simp [up]
    refine ⟨s.enterHoldOff h,
      exec_request_answered rfl ready (s.hatchRelink_enabled h on) (s.enterHoldOff_kept h), ?_⟩
    simp [drop, s.enterHoldOff_up_port h up, dropLink_port_self, Port.discard, Config.holdOffTime]
  · split
    · next outside => exact exec_request_same rfl ready (s.hatchShow_code h outside)
    · next inside =>
      have shown := s.hatchShow_num h inside
      split
      · next up => exact exec_request_answered rfl ready (shown.trans (if_pos up)) (s.showAt_kept h code)
      · next down => exact exec_request_same rfl ready (shown.trans (if_neg down))

end Sys2Proof.Machine
end

section
/-! PROOFS. Bits written and read round the access window (R57, R59, R60), and bits packed in bytes (R195). -/

namespace Sys2Proof.Machine

open Sys2Proof

/-! ## Packed bits (R195) -/

theorem unpackBits_cons (b : Byte) (bs : List Byte) : unpackBits (b :: bs) = unpackBits [b] ++ unpackBits bs := rfl

theorem unpackBits_length (bs : List Byte) : (unpackBits bs).length = 8 * bs.length := by
  induction bs with
  | nil => rfl
  | cons b bs ih => rw [unpackBits_cons, List.length_append, ih, List.length_cons]; simp [unpackBits]; omega

/-- Bit `k` of bytes is bit 7 − k mod 8 of byte k / 8, and past the last byte there is none. -/
theorem unpackBits_getElem? (bs : List Byte) (k : Nat) :
    (unpackBits bs)[k]? = (bs[k / 8]?).map fun b => b.getLsbD (7 - k % 8) := by
  induction bs generalizing k with
  | nil => simp [unpackBits]
  | cons b bs ih =>
    match k with
    | 0 | 1 | 2 | 3 | 4 | 5 | 6 | 7 => rfl
    | k + 8 =>
      have next : (unpackBits (b :: bs))[k + 8]? = (unpackBits bs)[k]? := rfl
      rw [next, ih, Nat.add_mod_right, Nat.add_div_right k (by decide), List.getElem?_cons_succ]

/-- The byte that eight bits make, the first the heaviest. -/
def packedByte (b0 b1 b2 b3 b4 b5 b6 b7 : Bool) : Byte :=
  BitVec.ofNat 8 (bitValue b0 128 + bitValue b1 64 + bitValue b2 32 + bitValue b3 16 + bitValue b4 8 + bitValue b5 4
    + bitValue b6 2 + bitValue b7 1)

theorem unpackBits_packedByte : ∀ b0 b1 b2 b3 b4 b5 b6 b7 : Bool,
    unpackBits [packedByte b0 b1 b2 b3 b4 b5 b6 b7] = [b0, b1, b2, b3, b4, b5, b6, b7] := by
  decide

/-- The first byte packed reads back as the first eight bits, 0 where there is none. -/
theorem unpackBits_packBits_succ (n : Nat) {bits : List Bool} (nonempty : bits ≠ []) :
    unpackBits (packBits (n + 1) bits)
      = (List.range 8).map (fun i => bits.getD i false) ++ unpackBits (packBits n (bits.drop 8)) := by
  obtain ⟨b, rest, rfl⟩ := List.exists_cons_of_ne_nil nonempty
  exact (unpackBits_cons _ _).trans (congrArg (· ++ _) (unpackBits_packedByte ..))

theorem packBits_length (n : Nat) (bits : List Bool) : (packBits n bits).length = min n (bytesFor bits.length) := by
  induction n generalizing bits with
  | zero => simp [packBits]
  | succ n ih =>
    cases bits with
    | nil => rfl
    | cons b rest =>
      rw [packBits, List.length_cons, ih]
      simp only [bytesFor, List.length_drop, List.length_cons]
      omega

/-- Bits packed read back as they were, with 0 in the unused bits of the last byte. -/
theorem unpackBits_packBits (bits : List Bool) (n : Nat) {k : Nat} (below : k < 8 * min n (bytesFor bits.length)) :
    (unpackBits (packBits n bits))[k]? = some (bits.getD k false) := by
  induction n generalizing bits k with
  | zero => simp at below
  | succ n ih =>
    have nonempty : bits ≠ [] := by
      rintro rfl
      simp [bytesFor] at below
    rw [unpackBits_packBits_succ n nonempty]
    by_cases first : k < 8
    · rw [List.getElem?_append_left (by simpa using first)]
      simp [first]
    · obtain ⟨j, rfl⟩ := Nat.exists_eq_add_of_le' (Nat.le_of_not_lt first)
      have later := @ih (bits.drop 8) j (by simp only [bytesFor, List.length_drop] at below ⊢; omega)
      rw [List.getElem?_append_right (by simp)]
      simpa [List.getD_eq_getElem?_getD, Nat.add_comm] using later

theorem packBits_bytesFor (bits : List Bool) :
    let packed := packBits (bytesFor bits.length) bits
    packed.length = bytesFor bits.length ∧ (unpackBits packed).take bits.length = bits
      ∧ ∀ b ∈ (unpackBits packed).drop bits.length, b = false := by
  have length : (packBits (bytesFor bits.length) bits).length = bytesFor bits.length := by simp [packBits_length]
  have bit {k : Nat} (below : k < 8 * bytesFor bits.length) :
      (unpackBits (packBits (bytesFor bits.length) bits))[k]? = some (bits.getD k false) :=
    unpackBits_packBits bits _ (by simpa using below)
  refine ⟨length, List.ext_getElem? fun k => ?_, fun b mem => ?_⟩
  · rw [List.getElem?_take]
    split
    · next inside =>
      have whole : k < 8 * bytesFor bits.length := by unfold bytesFor; omega
      rw [bit whole, List.getD_eq_getElem _ _ inside, List.getElem?_eq_getElem inside]
    · next outside => exact (List.getElem?_eq_none (Nat.le_of_not_lt outside)).symm
  · obtain ⟨i, unused⟩ := List.mem_iff_getElem?.1 mem
    rw [List.getElem?_drop] at unused
    have held := (List.getElem?_eq_some_iff.1 unused).1
    rw [unpackBits_length, length] at held
    rw [bit held, List.getD_eq_default _ _ (Nat.le_add_right _ _)] at unused
    exact (Option.some.inj unused).symm

/-! ## Places of the access window (R57, R59) -/

namespace MapAccess

variable {m : MapAccess}

/-- The position of the `k`-th bit from the pointer, round the window. -/
def place (m : MapAccess) (k : Nat) : Nat := m.first + (m.pointer - m.first + k) % (m.last - m.first + 1)

theorem place_zero (inside : m.Inside) : m.place 0 = m.pointer := by
  obtain ⟨low, high, _⟩ := inside
  rw [place, Nat.add_zero, Nat.mod_eq_of_lt (by omega)]
  omega

/-- The place of a bit lies in the window. -/
theorem place_inside (inside : m.Inside) (k : Nat) : { m with pointer := m.place k }.Inside := by
  obtain ⟨low, high, top⟩ := inside
  have wrapped := Nat.mod_lt (m.pointer - m.first + k) (y := m.last - m.first + 1) (Nat.succ_pos _)
  refine ⟨Nat.le_add_right _ _, ?_, top⟩
  change m.first + _ ≤ m.last
  omega

theorem mapPosition_pointer (inside : m.Inside) : (mapPosition m.pointer).val = m.place 0 := by
  rw [place_zero inside]
  obtain ⟨_, high, top⟩ := inside
  exact Nat.mod_eq_of_lt (Nat.lt_of_le_of_lt high top)

theorem advance_pointer (inside : m.Inside) : m.advance.pointer = m.place 1 := by
  obtain ⟨low, high, _⟩ := inside
  unfold advance place
  split
  · next atLast =>
    have whole : m.pointer - m.first + 1 = m.last - m.first + 1 := by omega
    simp [whole]
  · next before =>
    rw [Nat.mod_eq_of_lt (by omega)]
    change m.pointer + 1 = _
    omega

theorem advance_inside (inside : m.Inside) : m.advance.Inside := by
  have moved := place_inside inside 1
  rwa [← advance_pointer inside] at moved

/-- From the pointer advanced, the `k`-th bit stands where the next but `k` stood. -/
theorem advance_place (inside : m.Inside) (k : Nat) : m.advance.place k = m.place (k + 1) := by
  rw [place, advance_pointer inside]
  change m.first + (m.place 1 - m.first + k) % (m.last - m.first + 1) = _
  rw [place, Nat.add_sub_cancel_left, Nat.mod_add_mod, place, Nat.add_assoc, Nat.add_comm 1 k]

end MapAccess

/-! ## Bits written (R59) -/

open MapAccess in
theorem writeMap_access (t : Tab Bool 1021) {m : MapAccess} (inside : m.Inside) (bits : List Bool) :
    (writeMap t m bits).2 = { m with pointer := m.place bits.length } := by
  induction bits generalizing t m with
  | nil => simp [writeMap, place_zero inside]
  | cons b bs ih => rw [writeMap, ih _ (advance_inside inside), advance_place inside]; rfl

open MapAccess in
/-- A position that no bit falls on is as it was. -/
theorem writeMap_get_untouched (t : Tab Bool 1021) {m : MapAccess} (inside : m.Inside) {bits : List Bool} {p : Fin 1021}
    (untouched : ∀ k, k < bits.length → m.place k ≠ p.val) : (writeMap t m bits).1.get p = t.get p := by
  induction bits generalizing t m with
  | nil => rfl
  | cons b bs ih =>
    have rest (k : Nat) (below : k < bs.length) : m.advance.place k ≠ p.val := by
      rw [advance_place inside]
      exact untouched (k + 1) (Nat.succ_lt_succ below)
    have elsewhere : mapPosition m.pointer ≠ p := fun same =>
      untouched 0 (Nat.succ_pos _) ((mapPosition_pointer inside).symm.trans (congrArg Fin.val same))
    rw [writeMap, ih _ (advance_inside inside) rest, Tab.get_put_ne _ elsewhere]

open MapAccess in
/-- A position holds the last of the bits that fall on it. -/
theorem writeMap_get_last (t : Tab Bool 1021) {m : MapAccess} (inside : m.Inside) {bits : List Bool} {p : Fin 1021}
    {k : Nat} (below : k < bits.length) (falls : m.place k = p.val)
    (last : ∀ j, k < j → j < bits.length → m.place j ≠ p.val) :
    bits[k]? = some ((writeMap t m bits).1.get p) := by
  induction bits generalizing t m k with
  | nil => cases below
  | cons b bs ih =>
    rw [writeMap]
    cases k with
    | zero =>
      have here : mapPosition m.pointer = p := Fin.ext ((mapPosition_pointer inside).trans falls)
      rw [writeMap_get_untouched _ (advance_inside inside), here, Tab.get_put_self, List.getElem?_cons_zero]
      intro j small
      rw [advance_place inside]
      exact last (j + 1) (Nat.succ_pos _) (Nat.succ_lt_succ small)
    | succ k =>
      rw [List.getElem?_cons_succ]
      refine ih _ (advance_inside inside) (Nat.lt_of_succ_lt_succ below) ((advance_place inside k).trans falls) ?_
      intro j after small
      rw [advance_place inside]
      exact last (j + 1) (Nat.succ_lt_succ after) (Nat.succ_lt_succ small)

/-! ## Bits read (R60) -/

open MapAccess in
theorem readMap_access (t : Tab Bool 1021) {m : MapAccess} (inside : m.Inside) (n : Nat) :
    (readMap t m n).2 = { m with pointer := m.place n } := by
  induction n generalizing m with
  | zero => simp [readMap, place_zero inside]
  | succ n ih => rw [readMap, ih (advance_inside inside), advance_place inside]; rfl

theorem readMap_length (t : Tab Bool 1021) (m : MapAccess) (n : Nat) : (readMap t m n).1.length = n := by
  induction n generalizing m with
  | zero => rfl
  | succ n ih => rw [readMap, List.length_cons, ih]

open MapAccess in
theorem readMap_getElem? (t : Tab Bool 1021) {m : MapAccess} (inside : m.Inside) {n k : Nat} {p : Fin 1021}
    (below : k < n) (falls : m.place k = p.val) : (readMap t m n).1[k]? = some (t.get p) := by
  induction n generalizing m k with
  | zero => cases below
  | succ n ih =>
    rw [readMap]
    cases k with
    | zero =>
      have here : mapPosition m.pointer = p := Fin.ext ((mapPosition_pointer inside).trans falls)
      rw [here, List.getElem?_cons_zero]
    | succ k =>
      rw [List.getElem?_cons_succ]
      exact ih (advance_inside inside) (Nat.lt_of_succ_lt_succ below) ((advance_place inside k).trans falls)

/-- Settles O31: bits by bytes, and by induction on the bits that pass, each from the pointer advanced. -/
theorem mapBitsPassRoundTheWindow : Obligations.MapBitsPassRoundTheWindow := by
  unfold Obligations.MapBitsPassRoundTheWindow
  refine ⟨fun bs k _ => unpackBits_getElem? bs k, fun t m inside => ⟨fun bits => ?_, fun n => ?_⟩⟩
  · exact ⟨writeMap_access t inside bits, fun p =>
      ⟨fun k below falls last => writeMap_get_last t inside below falls last, writeMap_get_untouched t inside⟩⟩
  · refine ⟨readMap_access t inside n, readMap_length t m n, fun k p => readMap_getElem? t inside, ?_⟩
    have packed := packBits_bytesFor (readMap t m n).1
    rwa [readMap_length] at packed

end Sys2Proof.Machine
end

section
/-! PROOFS. The requests on the range list and the suspect map (R53 to R55, R58 to R61). -/

namespace Sys2Proof.Machine

open Sys2Proof

@[simp] theorem screenMode?_code (m : ScreenMode) : screenMode? m.code = some m := by cases m <;> rfl

theorem screenMode?_none {n : Nat} (bad : 2 < n) : screenMode? n = none := by
  match n, bad with
  | n + 3, _ => rfl

/-- A count of bits is out of range at 0 and above 1,600. -/
theorem within_mapBits_eq_true {n : Nat} : within 1 Config.maxMapBits n = true ↔ ¬(n = 0 ∨ 1600 < n) := by
  rw [within_eq_true, Config.maxMapBits]
  omega

namespace State

/-! ## The range list -/

theorem setScreenMode_code (s : State) (m : ScreenMode) :
    s.setScreenMode m.code = (s.setTables { s.tables with screenMode := m }).answer 0x30 .ok [] := by
  simp [setScreenMode]

theorem setScreenMode_range (s : State) {n : Nat} (bad : 2 < n) : s.setScreenMode n = s.answer 0x30 .range [] := by
  simp [setScreenMode, screenMode?_none bad]

theorem screenRangeAdd_full (s : State) {a : RangeArgs}
    (fits : ¬(9999999999 < a.first ∨ 9999999999 < a.last ∨ a.last < a.first))
    (full : 32 ≤ s.tables.ranges.length) :
    s.screenRangeAdd a = s.answer 0x31 .full [] :=
  (if_neg fits).trans (if_pos full)

theorem screenRangeAdd_ok (s : State) {a : RangeArgs}
    (fits : ¬(9999999999 < a.first ∨ 9999999999 < a.last ∨ a.last < a.first))
    (room : ¬32 ≤ s.tables.ranges.length) :
    s.screenRangeAdd a
      = (s.appendRange ⟨a.first, a.last⟩).answer 0x31 .ok (bytesOf 1 (s.tables.ranges.length + 1)) :=
  (if_neg fits).trans (if_neg room)

/-! ## The suspect map -/

theorem mapWindow_ok (s : State) {a : RangeArgs} (fits : a.first ≤ a.last ∧ a.last ≤ 1020) :
    s.mapWindow a = (s.setMapAccess ⟨a.first, a.last, a.first⟩).answer 0x34 .ok [] :=
  if_pos (fits.imp_right Nat.lt_succ_of_le)

theorem mapWindow_range (s : State) {a : RangeArgs} (bad : ¬(a.first ≤ a.last ∧ a.last ≤ 1020)) :
    s.mapWindow a = s.answer 0x34 .range [] :=
  if_neg fun fits => bad (fits.imp_right Nat.le_of_lt_succ)

theorem mapWrite_range (s : State) {a : MapWriteArgs} (bad : a.count = 0 ∨ 1600 < a.count) :
    s.mapWrite a = s.answer 0x35 .range [] := by
  have out : within 1 Config.maxMapBits a.count = false :=
    Bool.eq_false_iff.2 fun fits => within_mapBits_eq_true.1 fits bad
  simp [mapWrite, out]

theorem mapWrite_badLength (s : State) {a : MapWriteArgs} (fits : ¬(a.count = 0 ∨ 1600 < a.count))
    (long : a.bits.length ≠ bytesFor a.count) : s.mapWrite a = s.answer 0x35 .badLength [] := by
  simp [mapWrite, within_mapBits_eq_true.2 fits, long]

theorem mapWrite_ok (s : State) {a : MapWriteArgs} (fits : ¬(a.count = 0 ∨ 1600 < a.count))
    (length : ¬a.bits.length ≠ bytesFor a.count) :
    s.mapWrite a
      = (s.writeBits ((unpackBits a.bits).take a.count)).answer 0x35 .ok
          (bytesOf 2 (s.writeBits ((unpackBits a.bits).take a.count)).mapAccess.pointer) := by
  simp only [mapWrite, within_mapBits_eq_true.2 fits, Bool.not_true, Bool.false_eq_true, if_false, if_neg length,
    Out.u16]

theorem mapRead_range (s : State) {n : Nat} (bad : n = 0 ∨ 1600 < n) : s.mapRead n = s.answer 0x36 .range [] :=
  if_neg fun fits => within_mapBits_eq_true.1 fits bad

theorem mapRead_ok (s : State) {n : Nat} (fits : ¬(n = 0 ∨ 1600 < n)) :
    s.mapRead n
      = (s.setMapAccess (readMap s.tables.suspectMap s.mapAccess n).2).answer 0x36 .ok
          (bytesOf 2 s.mapAccess.pointer ++ bytesOf 2 n
            ++ packBits (bytesFor n) (readMap s.tables.suspectMap s.mapAccess n).1) :=
  if_pos (within_mapBits_eq_true.2 fits)

/-- The command of a request that is answered after the map's access window or pointer was set on a state that keeps
hand, waiting replies and transmitter. -/
theorem exec_request_mapAccess {α : Type} {i : Instr} {s u : State} {c : Nat} {a : α} {f : α → State}
    (command : exec i s = .next (s.request c (.fits a) f)) (ready : s.Ready) {x : Result} {d : List Byte}
    {m : MapAccess} (changed : f a = (u.setMapAccess m).answer c x d) (kept : Kept s u) :
    exec i s = .next ((u.setMapAccess m).answered c x d) := by
  rw [command, request_ready ready, changed]
  refine congrArg _ (pump_answer _ c x d (kept.hand.trans ready.2.1) fun free => ?_)
  exact kept.replies.trans (ready.2.2 (kept.transmitter.symm.trans free)).1

end State

open State in
/-- Settles O28: each refusal and each change of the list is one answer. -/
theorem screenListRequests : Obligations.ScreenListRequests := by
  unfold Obligations.ScreenListRequests
  refine ⟨fun s ready => ⟨fun m => ?_, fun n bad => ?_, ?_⟩, fun s a ready => ?_⟩
  · exact exec_request_answered rfl ready (s.setScreenMode_code m) (setTables_kept _ _)
  · exact exec_request_same rfl ready (s.setScreenMode_range bad)
  · exact exec_request_answered rfl ready rfl (setTables_kept _ _)
  · split
    · next bad => exact exec_request_same rfl ready (if_pos bad)
    · next fits =>
      split
      · next full => exact exec_request_same rfl ready (s.screenRangeAdd_full fits full)
      · next room => exact exec_request_answered rfl ready (s.screenRangeAdd_ok fits room) (setTables_kept _ _)

open State in
/-- Settles O30: each refusal is one answer, and window, write and read answer after their change of the pointer. -/
theorem mapRequests : Obligations.MapRequests := by
  unfold Obligations.MapRequests
  refine fun s ready => ⟨fun a => ?_, ?_, fun a => ?_, fun n => ?_⟩
  · split
    · next fits => exact exec_request_mapAccess rfl ready (s.mapWindow_ok fits) (.refl s)
    · next bad => exact exec_request_same rfl ready (s.mapWindow_range bad)
  · exact exec_request_answered rfl ready rfl (setTables_kept _ _)
  · split
    · next bad => exact exec_request_same rfl ready (s.mapWrite_range bad)
    · next fits =>
      split
      · next long => exact exec_request_same rfl ready (s.mapWrite_badLength fits long)
      · next length => exact exec_request_mapAccess rfl ready (s.mapWrite_ok fits length) (setTables_kept _ _)
  · split
    · next bad => exact exec_request_same rfl ready (s.mapRead_range bad)
    · next fits => exact exec_request_mapAccess rfl ready (s.mapRead_ok fits) (.refl s)

end Sys2Proof.Machine
end

section
/-! SUPPORT. What an event leaves of the frame: the queue, the power pins, the straps and the map's access window and
pointer, one lemma for each request and event. The power commands, the three map requests that move the pointer and
the end of a transmission, which the steps of RESET may follow, are left out. -/

namespace Sys2Proof.Machine

open Sys2Proof

/-- `t` has the queue, the power pins, the straps and the map's access window and pointer of `s`. -/
structure Framed (s t : State) : Prop where
  pending : t.pending = s.pending
  mainsGood : t.mainsGood = s.mainsGood
  resetReleased : t.resetReleased = s.resetReleased
  straps : t.straps = s.straps
  mapAccess : t.mapAccess = s.mapAccess

variable {s t u : State}

theorem Kept.framed (k : Kept s t) : Framed s t := ⟨k.pending, k.mainsGood, k.resetReleased, k.straps, k.mapAccess⟩

namespace Framed

theorem refl (s : State) : Framed s s := (Kept.refl s).framed

theorem trans (a : Framed s t) (b : Framed t u) : Framed s u :=
  ⟨b.pending.trans a.pending, b.mainsGood.trans a.mainsGood, b.resetReleased.trans a.resetReleased,
    b.straps.trans a.straps, b.mapAccess.trans a.mapAccess⟩

theorem foldl {α : Type} {f : State → α → State} (k : ∀ s a, Framed s (f s a)) :
    ∀ (l : List α) (s : State), Framed s (l.foldl f s)
  | [], s => .refl s
  | a :: l, s => (k s a).trans (foldl k l (f s a))

theorem ite {c : Prop} [Decidable c] (a : Framed s t) (b : Framed s u) : Framed s (if c then t else u) := by
  split <;> assumption

theorem setOffice (a : Framed s t) (o : Office) : Framed s (t.setOffice o) :=
  ⟨a.pending, a.mainsGood, a.resetReleased, a.straps, a.mapAccess⟩

/-- A reply is formed at the office port alone. -/
theorem answer (a : Framed s t) (c : Nat) (x : Result) (d : List Byte) : Framed s (t.answer c x d) := a.setOffice _

end Framed

theorem Kept.answer (k : Kept s t) (c : Nat) (x : Result) (d : List Byte) : Framed s (t.answer c x d) :=
  k.framed.answer c x d

namespace State

theorem answer_framed (s : State) (c : Nat) (x : Result) (d : List Byte) : Framed s (s.answer c x d) :=
  (Framed.refl s).answer c x d

/-! ## Events and requests -/

/-- What the office port has no part in holds after an event if it holds before it and after its change. -/
theorem event_satisfies {P : State → Prop} (office : ∀ x o, P x → P (x.setOffice o)) {f : State → State}
    (before : P s) (after : P (f s)) : P (s.event f) := by
  unfold event
  split
  · rw [pump_only_office]
    exact office _ _ after
  · exact before

/-- What the office port has no part in holds after a request if it holds before it and after its handling. -/
theorem request_satisfies {P : State → Prop} (office : ∀ x o, P x → P (x.setOffice o)) {α : Type} {c : Nat}
    {p : Params α} {f : α → State} (before : P s) (handled : ∀ a, P (f a)) : P (s.request c p f) := by
  refine event_satisfies office before ?_
  split
  · exact office _ _ before
  · split
    · exact office _ _ before
    · exact handled _

theorem exec_event_framed {i : Instr} {f : State → State} (command : exec i s = .next (s.event f))
    (k : Framed s (f s)) : ∃ t, exec i s = .next t ∧ Framed s t :=
  ⟨_, command, event_satisfies (fun _ o a => a.setOffice o) (.refl s) k⟩

theorem exec_request_framed {i : Instr} {α : Type} {c : Nat} {p : Params α} {f : α → State}
    (command : exec i s = .next (s.request c p f)) (k : ∀ a, Framed s (f a)) :
    ∃ t, exec i s = .next t ∧ Framed s t :=
  ⟨_, command, request_satisfies (fun _ o a => a.setOffice o) (.refl s) k⟩

/-! ## Status, counters, alerts, notices and RESET -/

theorem hatchRead_framed (s : State) (n : Nat) : Framed s (s.hatchRead n) := by
  unfold hatchRead
  split <;> exact answer_framed ..

theorem countersClear_framed (s : State) : Framed s (s.countersClear ()) :=
  (((Framed.refl s).setOffice _).trans (setPorts_kept _ _).framed).answer ..

theorem alertClear_framed (s : State) (v : Nat) : Framed s (s.alertClear v) := by
  unfold alertClear
  split
  · exact answer_framed ..
  · exact ((Framed.refl s).setOffice _).answer ..

theorem alertMask_framed (s : State) (v : Nat) : Framed s (s.alertMask v) := by
  unfold alertMask
  split
  · exact answer_framed ..
  · exact (setTables_kept ..).answer ..

theorem noticeSet_framed (s : State) (a : NoticeArgs) : Framed s (s.noticeSet a) := by
  unfold noticeSet
  split
  · exact ((setTables_kept ..).trans (applyNoticeSettings_kept _)).answer ..
  · exact answer_framed ..

theorem resetRequest_framed (s : State) : Framed s (s.resetRequest ()) := (answer_framed ..).setOffice _

/-! ## Clock, schedule and intake -/

theorem setClock_framed (s : State) (a : ClockArgs) : Framed s (s.setClock a) := by
  unfold setClock
  split
  · exact answer_framed ..
  · exact ((setIntake_kept ..).trans (evalTime_kept _)).answer ..

theorem schedulePut_framed (s : State) (a : ScheduleArgs) : Framed s (s.schedulePut a) := by
  unfold schedulePut
  split
  · split
    · exact answer_framed ..
    · exact (Kept.ite ((setTables_kept s _).trans (evalTime_kept _)) (setTables_kept ..)).answer ..
  · exact answer_framed ..

theorem intakeStart_framed (s : State) : Framed s (s.intakeStart ()) :=
  (Kept.ite (.refl s) ((setIntake_kept s _).trans (evalIntake_kept _))).answer ..

theorem intakeStop_framed (s : State) : Framed s (s.intakeStop ()) :=
  (Kept.ite ((setIntake_kept s _).trans (evalIntake_kept _)) (.refl s)).answer ..

theorem advanceClock_kept (s : State) (x : ClockTime) : Kept s (s.advanceClock x) :=
  (reach_kept s _).trans (setIntake_kept _ _)

/-! ## Depositors -/

theorem putDepositor_kept (s : State) (slot : Slot) (e : Option DepositorEntry) : Kept s (s.putDepositor slot e) :=
  setTables_kept _ _

theorem zeroCount_kept (s : State) (slot : Slot) (token : Option Nat) : Kept s (s.zeroCount slot token) :=
  setCounts_kept _ _

theorem depositorPut_framed (s : State) (a : DepositorArgs) : Framed s (s.depositorPut a) := by
  unfold depositorPut
  split
  · exact answer_framed ..
  · split
    · exact (putDepositor_kept ..).answer ..
    · split
      · exact ((putDepositor_kept ..).trans (zeroCount_kept ..)).answer ..
      · exact answer_framed ..

theorem depositorDrop_framed (s : State) (token : Nat) : Framed s (s.depositorDrop token) := by
  unfold depositorDrop
  split
  · exact answer_framed ..
  · split
    · exact answer_framed ..
    · exact ((putDepositor_kept ..).trans (zeroCount_kept ..)).answer ..

theorem depositorSetState_framed (s : State) (a : DepositorStateArgs) : Framed s (s.depositorSetState a) := by
  unfold depositorSetState
  split
  · exact answer_framed ..
  · split
    · exact answer_framed ..
    · split
      · exact answer_framed ..
      · exact (putDepositor_kept ..).answer ..

theorem depositorRead_framed (s : State) (token : Nat) : Framed s (s.depositorRead token) := by
  unfold depositorRead
  split
  · exact answer_framed ..
  · split <;> exact answer_framed ..

/-! ## Mass tables, cover account and screening -/

theorem denomPut_framed (s : State) (a : DenomArgs) : Framed s (s.denomPut a) := by
  unfold denomPut
  split
  · split
    · exact answer_framed ..
    · exact (setTables_kept ..).answer ..
  · exact answer_framed ..

theorem tarePut_framed (s : State) (a : TareArgs) : Framed s (s.tarePut a) := by
  unfold tarePut
  split
  · split
    · exact (setTables_kept ..).answer ..
    · exact answer_framed ..
  · exact answer_framed ..

theorem toleranceSet_framed (s : State) (a : ToleranceArgs) : Framed s (s.toleranceSet a) := by
  unfold toleranceSet
  split
  · exact (setTables_kept ..).answer ..
  · exact answer_framed ..

theorem coverSet_framed (s : State) (v : Nat) : Framed s (s.coverSet v) := by
  unfold coverSet
  split
  · exact answer_framed ..
  · split <;> exact (setLimit_kept ..).answer ..

theorem setScreenMode_framed (s : State) (v : Nat) : Framed s (s.setScreenMode v) := by
  unfold setScreenMode
  split
  · exact answer_framed ..
  · exact (setTables_kept ..).answer ..

theorem screenRangeAdd_framed (s : State) (a : RangeArgs) : Framed s (s.screenRangeAdd a) := by
  unfold screenRangeAdd
  split
  · exact answer_framed ..
  · split
    · exact answer_framed ..
    · exact Kept.answer (setTables_kept ..) ..

theorem screenRead_framed (s : State) (index : Nat) : Framed s (s.screenRead index) := by
  unfold screenRead
  split <;> exact answer_framed ..

/-! ## Journal -/

theorem journalRead_framed (s : State) (a : JournalReadArgs) : Framed s (s.journalRead a) := by
  unfold journalRead
  split <;> exact answer_framed ..

theorem unfile_kept (s : State) (e : Entry) : Kept s (s.unfile e) := by
  unfold unfile
  split
  · exact .refl s
  · exact setBin_kept ..

theorem resolveStranded_kept (s : State) (e : Entry) : Kept s (s.resolveStranded e) :=
  (modEntry_kept ..).trans (reconcileCover_kept _ _)

theorem resolveBinned_kept (s : State) (e : Entry) : Kept s (s.resolveBinned e) :=
  ((((unfile_kept s e).trans (modEntry_kept ..)).trans (reconcileCover_kept _ _)).trans (evalStore_kept _)).trans
    (evalIntake_kept _)

theorem journalResolve_framed (s : State) (n : Nat) : Framed s (s.journalResolve n) := by
  unfold journalResolve
  split
  · exact answer_framed ..
  · split
    · exact answer_framed ..
    · split
      · exact answer_framed ..
      · exact answer_framed ..
      · exact answer_framed ..
      · exact (resolveStranded_kept s _).answer ..
      · exact (resolveBinned_kept s _).answer ..

theorem releaseEntries_kept (s : State) : Kept s s.releaseEntries :=
  ((setJournal_kept s _).trans (evalJournal_kept _)).trans (evalIntake_kept _)

theorem journalRelease_framed (s : State) : Framed s (s.journalRelease ()) := (releaseEntries_kept s).answer ..

/-! ## Bins and carousel -/

theorem clearBin_kept (s : State) (b : BinNo) : Kept s (s.clearBin b) :=
  ((((setJournal_kept s _).trans (reconcileCover_kept _ _)).trans (setBin_kept ..)).trans (evalStore_kept _)).trans
    (evalIntake_kept _)

theorem binClear_framed (s : State) (v : Nat) : Framed s (s.binClear v) := by
  unfold binClear
  split
  · exact answer_framed ..
  · split
    · exact (clearBin_kept ..).answer ..
    · exact answer_framed ..

theorem changeBinState_kept (s : State) (b : BinNo) (x : BinState) : Kept s (s.changeBinState b x) :=
  ((setBin_kept ..).trans (evalStore_kept _)).trans (evalIntake_kept _)

theorem binWithdraw_framed (s : State) (v : Nat) : Framed s (s.binWithdraw v) := by
  unfold binWithdraw
  split
  · exact answer_framed ..
  · split
    · exact answer_framed ..
    · exact (Kept.ite (.refl s) (changeBinState_kept ..)).answer ..

theorem binRestore_framed (s : State) (v : Nat) : Framed s (s.binRestore v) := by
  unfold binRestore
  split
  · exact answer_framed ..
  · split
    · exact (changeBinState_kept ..).answer ..
    · exact answer_framed ..

theorem binRead_framed (s : State) (v : Nat) : Framed s (s.binRead v) := by
  unfold binRead
  split <;> exact answer_framed ..

theorem carouselHome_framed (s : State) : Framed s (s.carouselHome ()) := by
  have homes : Framed s (s.startHoming.answer 0x54 .ok []) := (startHoming_kept s).answer ..
  unfold carouselHome
  split
  · exact homes
  · exact homes
  · exact homes
  all_goals exact answer_framed ..

/-! ## Hatch requests -/

theorem hatchConfig_framed (s : State) (a : HatchConfigArgs) : Framed s (s.hatchConfig a) := by
  unfold hatchConfig
  split
  · split
    · exact answer_framed ..
    · exact (applyConfig_kept ..).answer ..
  · exact answer_framed ..

theorem hatchCalibrate_framed (s : State) (a : CalibrateArgs) : Framed s (s.hatchCalibrate a) := by
  unfold hatchCalibrate
  split
  · exact (calibrate_kept ..).answer ..
  · exact answer_framed ..

theorem hatchRelink_framed (s : State) (v : Nat) : Framed s (s.hatchRelink v) := by
  unfold hatchRelink
  split
  · exact answer_framed ..
  · split
    · exact answer_framed ..
    · exact (enterHoldOff_kept ..).answer ..

theorem hatchShow_framed (s : State) (a : ShowArgs) : Framed s (s.hatchShow a) := by
  unfold hatchShow
  split
  · exact answer_framed ..
  · split
    · exact answer_framed ..
    · split
      · exact (showAt_kept ..).answer ..
      · exact answer_framed ..

theorem clearFault_framed (s : State) (h : Hatch) (n : Nat) : Framed s (s.clearFault h n) := by
  unfold clearFault
  split
  · exact Kept.answer (modPort_kept ..) ..
  · exact (failVerification_kept ..).answer ..

theorem hatchClear_framed (s : State) (v : Nat) : Framed s (s.hatchClear v) := by
  unfold hatchClear
  split
  · exact answer_framed ..
  · split
    · exact answer_framed ..
    · split
      · exact clearFault_framed ..
      · exact answer_framed ..

/-! ## Storing and loading the tables -/

theorem storeTables_framed (s : State) : Framed s (s.storeTables ()) := (Framed.refl s).setOffice _

theorem storeTablesDone_framed (s : State) : Framed s s.storeTablesDone := by
  unfold storeTablesDone
  split
  · exact (setTableStore_kept ..).answer ..
  · exact .refl s

theorem disarmAll_kept (s : State) : Kept s s.disarmAll := Kept.foldl (fun _ _ => modPort_kept ..) _ s

theorem matchCounts_kept (s : State) : Kept s s.matchCounts := setCounts_kept ..

theorem clampLimit_kept (s : State) : Kept s s.clampLimit := setTables_kept ..

theorem loadConfig_kept (x : Tables) (s : State) (h : Hatch) : Kept s (loadConfig x s h) :=
  .ite (.refl s) (applyConfig_kept ..)

theorem loadTablesFrom_kept (s : State) (x : Tables) : Kept s (s.loadTablesFrom x) := by
  have matched := (setTables_kept s { x with configs := s.tables.configs }).trans (matchCounts_kept _)
  have limited := (matched.trans (clampLimit_kept _)).trans (evalCover_kept _)
  have disarmed := (limited.trans (applyNoticeSettings_kept _)).trans (disarmAll_kept _)
  exact (disarmed.trans (Kept.foldl (loadConfig_kept x) _ _)).trans (evalTime_kept _)

theorem loadTables_framed (s : State) : Framed s (s.loadTables ()) := by
  unfold loadTables
  split
  · exact answer_framed ..
  · split
    · exact (loadTablesFrom_kept ..).answer ..
    · exact (raise_kept ..).answer ..

/-! ## The office port -/

theorem answerUnknown_framed (s : State) (body : List Byte) : Framed s (s.answerUnknown body) := by
  unfold answerUnknown
  split
  · exact (Framed.refl s).setOffice _
  · split <;> exact answer_framed ..

theorem countOfficeBad_framed (s : State) : Framed s s.countOfficeBad := (Framed.refl s).setOffice _

theorem mitigationExpiry_framed (s : State) : Framed s s.mitigationExpiry := by
  unfold mitigationExpiry
  split
  · exact .refl s
  · exact ((reach_kept ..).framed.setOffice _).trans (trigger_kept ..).framed

/-! ## Hatch ports -/

theorem pollEvent_kept (s : State) (h : Hatch) (b : Bool) : Kept s (s.pollEvent h b) :=
  .ite (((reach_kept s _).trans (abandonFrame_kept ..)).trans (sendPoll_kept ..)) (.refl s)

theorem judgeMisses_kept (s : State) (h : Hatch) : Kept s (s.judgeMisses h) :=
  .ite ((raise_kept ..).trans (enterHoldOff_kept ..)) (.refl s)

theorem missEvent_kept (s : State) (h : Hatch) : Kept s (s.missEvent h) := by
  unfold missEvent
  split
  · exact ((reach_kept ..).trans (modPort_kept ..)).trans (judgeMisses_kept ..)
  · exact .refl s

theorem holdOffEvent_kept (s : State) (h : Hatch) (b : Bool) : Kept s (s.holdOffEvent h b) := by
  unfold holdOffEvent
  split
  · exact ((reach_kept ..).trans (abandonFrame_kept ..)).trans (sendOffer_kept ..)
  · exact .refl s

theorem offerEvent_kept (s : State) (h : Hatch) (b : Bool) : Kept s (s.offerEvent h b) := by
  unfold offerEvent
  split
  · exact ((reach_kept ..).trans (abandonFrame_kept ..)).trans (sendOffer_kept ..)
  · exact .refl s

theorem frameEvent_kept (s : State) (h : Hatch) (b : Bool) (f : HeadFrame) : Kept s (s.frameEvent h b f) :=
  .ite (takeComplemented_kept ..) (takeFrame_kept ..)

theorem badFrameEvent_kept (s : State) (h : Hatch) : Kept s (s.badFrameEvent h) := by
  unfold badFrameEvent
  split
  · exact countBad_kept ..
  · exact countBad_kept ..
  · exact .refl s
  · exact .refl s

theorem jab_kept (s : State) (h : Hatch) : Kept s (s.jab h) :=
  ((countBad_kept ..).trans (raise_kept ..)).trans (enterHoldOff_kept ..)

theorem jabberEvent_kept (s : State) (h : Hatch) : Kept s (s.jabberEvent h) := by
  unfold jabberEvent
  split
  · exact jab_kept ..
  · exact jab_kept ..
  · exact .refl s
  · exact .refl s

theorem setContact_kept (s : State) (h : Hatch) (b : Bool) : Kept s (s.setContact h b) := modPort_kept ..

theorem surroundEvent_kept (s : State) (h : Hatch) (b : Bool) : Kept s (s.surroundEvent h b) :=
  .ite ((setContact_kept ..).trans (.ite (modPort_kept ..) (.refl _))) (setContact_kept ..)

/-! ## Drop deadlines -/

theorem declExpiry_kept (s : State) (h : Hatch) : Kept s (s.declExpiry h) := by
  unfold declExpiry
  split
  · exact (reach_kept ..).trans (cancelDrop_kept ..)
  · exact .refl s

theorem passTimeout_kept (s : State) (h : Hatch) (x : Snapshot) (d : Declared) : Kept s (s.passTimeout h x d) :=
  .ite ((setDrop_kept ..).trans (raise_kept ..)) (setDrop_kept ..)

theorem openExpiry_kept (s : State) (h : Hatch) : Kept s (s.openExpiry h) := by
  unfold openExpiry
  split
  · exact (reach_kept ..).trans (cancelDrop_kept ..)
  · exact (reach_kept ..).trans (passTimeout_kept ..)
  · exact .refl s

theorem weighExpiry_kept (s : State) (h : Hatch) : Kept s (s.weighExpiry h) := by
  unfold weighExpiry
  split
  · exact (reach_kept ..).trans (conclude_kept ..)
  · exact .refl s

theorem tipExpiry_kept (s : State) (h : Hatch) : Kept s (s.tipExpiry h) := by
  unfold tipExpiry
  split
  · exact ((reach_kept ..).trans (raise_kept ..)).trans (faultHatch_kept ..)
  · exact .refl s

/-! ## Store lines -/

theorem turned_kept (s : State) : Kept s s.turned :=
  ((setPosition_kept ..).trans (setCarousel_kept ..)).trans (raise_kept ..)

theorem positionEvent_kept (s : State) (b : BinNo) : Kept s (s.positionEvent b) := by
  unfold positionEvent
  split
  · exact .refl s
  · exact setPosition_kept ..
  · exact setPosition_kept ..
  · exact setPosition_kept ..
  · exact .ite (.refl s) (turned_kept s)
  · exact .ite (.refl s) (turned_kept s)
  · exact .ite ((setPosition_kept ..).trans (endMove_kept ..)) (setPosition_kept ..)
  · exact .ite (.refl s) ((setPosition_kept ..).trans (failDelivery_kept ..))

theorem homeEvent_kept (s : State) : Kept s s.homeEvent := by
  unfold homeEvent
  split
  · exact (setPosition_kept ..).trans (enterIdle_kept _)
  · exact setPosition_kept ..
  · exact setPosition_kept ..
  all_goals exact .refl s

theorem unexpectedDrop_framed (s : State) : Framed s s.unexpectedDrop :=
  ((Framed.refl s).setOffice _).trans (raise_kept ..).framed

theorem dropEvent_framed (s : State) : Framed s s.dropEvent := by
  unfold dropEvent
  split
  · exact (fileBag_kept ..).framed
  all_goals exact unexpectedDrop_framed s

theorem setDoor_kept (s : State) (b : Bool) : Kept s (s.setDoor b) := setStore_kept ..

theorem haltCarousel_kept (s : State) : Kept s s.haltCarousel := by
  unfold haltCarousel
  split
  · exact setCarousel_kept ..
  · exact setCarousel_kept ..
  · exact .refl s

theorem doorAlarm_kept (s : State) : Kept s s.doorAlarm := .ite (raise_kept ..) (.refl s)

theorem doorOpensEvent_kept (s : State) : Kept s s.doorOpensEvent :=
  .ite (.refl s) (((setDoor_kept ..).trans (haltCarousel_kept _)).trans (doorAlarm_kept _))

theorem resumeCarousel_kept (s : State) : Kept s s.resumeCarousel := by
  unfold resumeCarousel
  split
  · exact setCarousel_kept ..
  · exact .ite (endMove_kept ..) (setCarousel_kept ..)
  · exact arbiter_kept s
  · exact .refl s

theorem doorClosesEvent_kept (s : State) : Kept s s.doorClosesEvent :=
  .ite ((setDoor_kept ..).trans (resumeCarousel_kept _)) (.refl s)

theorem stopCarousel_kept (s : State) : Kept s s.stopCarousel :=
  ((setPosition_kept ..).trans (setCarousel_kept ..)).trans (raise_kept ..)

theorem homingExpiry_kept (s : State) : Kept s s.homingExpiry := by
  unfold homingExpiry
  split
  · exact (reach_kept ..).trans (stopCarousel_kept _)
  · exact .refl s

theorem moveExpiry_kept (s : State) : Kept s s.moveExpiry := by
  unfold moveExpiry
  split
  · exact (reach_kept ..).trans (stopCarousel_kept _)
  · exact .refl s

theorem deliveryExpiry_kept (s : State) : Kept s s.deliveryExpiry := by
  unfold deliveryExpiry
  split
  · exact (reach_kept ..).trans (failDelivery_kept ..)
  · exact .refl s

end State

/-! ## Every command -/

/-- The command is none of the power commands, moves neither the map's access window nor its pointer, and is not the
end of a transmission, which the steps of RESET may follow. -/
def leavesFrame : Instr → Bool
  | .mapWindow _ | .mapWrite _ | .mapRead _ | .transmitEnd | .powerFail _ | .resetInput _ | .startUp _ => false
  | _ => true

open State in
theorem exec_framed {c : Instr} (leaves : leavesFrame c = true) (s : State) :
    ∃ t, exec c s = .next t ∧ Framed s t := by
  cases c with
  | mapWindow | mapWrite | mapRead | transmitEnd | powerFail | resetInput | startUp => cases leaves
  | statusRead | countersRead | scheduleRead | massTablesRead | coverRead =>
    exact exec_request_framed rfl fun _ => answer_framed ..
  | hatchRead => exact exec_request_framed rfl s.hatchRead_framed
  | countersClear => exact exec_request_framed rfl fun _ => s.countersClear_framed
  | alertClear => exact exec_request_framed rfl s.alertClear_framed
  | alertMask => exact exec_request_framed rfl s.alertMask_framed
  | noticeSet => exact exec_request_framed rfl s.noticeSet_framed
  | reset => exact exec_request_framed rfl fun _ => s.resetRequest_framed
  | setClock => exact exec_request_framed rfl s.setClock_framed
  | schedulePut => exact exec_request_framed rfl s.schedulePut_framed
  | intakeStart => exact exec_request_framed rfl fun _ => s.intakeStart_framed
  | intakeStop => exact exec_request_framed rfl fun _ => s.intakeStop_framed
  | depositorPut => exact exec_request_framed rfl s.depositorPut_framed
  | depositorDrop => exact exec_request_framed rfl s.depositorDrop_framed
  | depositorState => exact exec_request_framed rfl s.depositorSetState_framed
  | depositorRead => exact exec_request_framed rfl s.depositorRead_framed
  | denomPut => exact exec_request_framed rfl s.denomPut_framed
  | tarePut => exact exec_request_framed rfl s.tarePut_framed
  | toleranceSet => exact exec_request_framed rfl s.toleranceSet_framed
  | screenMode => exact exec_request_framed rfl s.setScreenMode_framed
  | screenRangeAdd => exact exec_request_framed rfl s.screenRangeAdd_framed
  | screenRangeClear | mapClear => exact exec_request_framed rfl fun _ => (setTables_kept ..).answer ..
  | screenRead => exact exec_request_framed rfl s.screenRead_framed
  | coverSet => exact exec_request_framed rfl s.coverSet_framed
  | journalRead => exact exec_request_framed rfl s.journalRead_framed
  | journalResolve => exact exec_request_framed rfl s.journalResolve_framed
  | journalRelease => exact exec_request_framed rfl fun _ => s.journalRelease_framed
  | binClear => exact exec_request_framed rfl s.binClear_framed
  | binWithdraw => exact exec_request_framed rfl s.binWithdraw_framed
  | binRestore => exact exec_request_framed rfl s.binRestore_framed
  | binRead => exact exec_request_framed rfl s.binRead_framed
  | carouselHome => exact exec_request_framed rfl fun _ => s.carouselHome_framed
  | hatchConfig => exact exec_request_framed rfl s.hatchConfig_framed
  | hatchCalibrate => exact exec_request_framed rfl s.hatchCalibrate_framed
  | hatchRelink => exact exec_request_framed rfl s.hatchRelink_framed
  | hatchShow => exact exec_request_framed rfl s.hatchShow_framed
  | hatchClear => exact exec_request_framed rfl s.hatchClear_framed
  | storeTables => exact exec_request_framed rfl fun _ => s.storeTables_framed
  | storeTablesDone => exact exec_event_framed rfl s.storeTablesDone_framed
  | loadTables => exact exec_request_framed rfl fun _ => s.loadTables_framed
  | unknownCommand body => exact exec_event_framed rfl (s.answerUnknown_framed body)
  | officeBadFrame | officeGapTimeout => exact exec_event_framed rfl s.countOfficeBad_framed
  | mitigationTimer => exact exec_event_framed rfl s.mitigationExpiry_framed
  | poll h b => exact exec_event_framed rfl (s.pollEvent_kept h b).framed
  | miss h => exact exec_event_framed rfl (s.missEvent_kept h).framed
  | holdOffExpiry h b => exact exec_event_framed rfl (s.holdOffEvent_kept h b).framed
  | offer h b => exact exec_event_framed rfl (s.offerEvent_kept h b).framed
  | answer h b a => exact exec_event_framed rfl (s.frameEvent_kept h b (.answer a)).framed
  | report h b r => exact exec_event_framed rfl (s.frameEvent_kept h b (.report r)).framed
  | hatchBadFrame h => exact exec_event_framed rfl (s.badFrameEvent_kept h).framed
  | complementedFrame h f => exact exec_event_framed rfl (s.takeComplemented_kept h f).framed
  | jabber h => exact exec_event_framed rfl (s.jabberEvent_kept h).framed
  | surroundOpening h b =>
    by_cases run : s.running = true
    · exact exec_event_framed (if_pos run) (s.surroundEvent_kept h b).framed
    · exact ⟨_, if_neg run, (s.setContact_kept h b).framed⟩
  | declTimeout h => exact exec_event_framed rfl (s.declExpiry_kept h).framed
  | openTimeout h => exact exec_event_framed rfl (s.openExpiry_kept h).framed
  | weighingTimeout h => exact exec_event_framed rfl (s.weighExpiry_kept h).framed
  | tippingTimeout h => exact exec_event_framed rfl (s.tipExpiry_kept h).framed
  | clockAdvance =>
    change ∃ t, execClockAdvance s = .next t ∧ Framed s t
    unfold execClockAdvance
    split
    · exact ⟨s, rfl, .refl s⟩
    · next x _ =>
      split
      · exact ⟨_, rfl, event_satisfies (fun _ o a => a.setOffice o) (.refl s)
          ((s.advanceClock_kept x).trans (evalTime_kept _)).framed⟩
      · exact ⟨_, rfl, (s.advanceClock_kept x).framed⟩
  | atPosition b => exact exec_event_framed rfl (s.positionEvent_kept b).framed
  | home => exact exec_event_framed rfl s.homeEvent_kept.framed
  | dropPulse => exact exec_event_framed rfl s.dropEvent_framed
  | doorOpens =>
    by_cases run : s.running = true
    · exact exec_event_framed (if_pos run) s.doorOpensEvent_kept.framed
    · exact ⟨_, if_neg run, (s.setDoor_kept true).framed⟩
  | doorCloses =>
    by_cases run : s.running = true
    · exact exec_event_framed (if_pos run) s.doorClosesEvent_kept.framed
    · exact ⟨_, if_neg run, (s.setDoor_kept false).framed⟩
  | homingTimeout => exact exec_event_framed rfl s.homingExpiry_kept.framed
  | moveTimeout => exact exec_event_framed rfl s.moveExpiry_kept.framed
  | deliveryTimeout => exact exec_event_framed rfl s.deliveryExpiry_kept.framed

end Sys2Proof.Machine
end

section
/-! PROOFS. The map pointer stays inside the access window (R57): the steps of RESET and start-up make the window whole,
and the map requests move the pointer within it. -/

namespace Sys2Proof.Machine

open Sys2Proof

theorem MapAccess.whole_inside : MapAccess.whole.Inside := ⟨Nat.le_refl 0, Nat.zero_le 1020, Nat.lt_succ_self 1020⟩

variable {s t : State}

theorem Framed.inside (a : Framed s t) (inside : s.mapAccess.Inside) : t.mapAccess.Inside := a.mapAccess ▸ inside

theorem Kept.inside (k : Kept s t) (inside : s.mapAccess.Inside) : t.mapAccess.Inside := k.framed.inside inside

namespace State

/-! ## The map requests -/

theorem mapWindow_inside (inside : s.mapAccess.Inside) (a : RangeArgs) : (s.mapWindow a).mapAccess.Inside := by
  unfold mapWindow
  split
  · next fits => exact ⟨Nat.le_refl _, fits⟩
  · exact inside

theorem mapWrite_inside (inside : s.mapAccess.Inside) (a : MapWriteArgs) : (s.mapWrite a).mapAccess.Inside := by
  have moved (bits : List Bool) : (writeMap s.tables.suspectMap s.mapAccess bits).2.Inside := by
    rw [writeMap_access _ inside]
    exact MapAccess.place_inside inside _
  unfold mapWrite
  split
  · exact inside
  · split
    · exact inside
    · exact moved _

theorem mapRead_inside (inside : s.mapAccess.Inside) (n : Nat) : (s.mapRead n).mapAccess.Inside := by
  have moved : (readMap s.tables.suspectMap s.mapAccess n).2.Inside := by
    rw [readMap_access _ inside]
    exact MapAccess.place_inside inside _
  unfold mapRead
  split
  · exact moved
  · exact inside

/-! ## The end of a transmission -/

theorem transmitEnd_inside (inside : s.mapAccess.Inside) : s.transmitEnd.mapAccess.Inside := by
  unfold transmitEnd
  split
  · exact inside
  · unfold finishFrame
    split
    · rw [resetSteps_mapAccess]
      exact MapAccess.whole_inside
    · exact inside

/-! ## Power fail and the reset input -/

theorem dropHolds_kept (s : State) : Kept s s.dropHolds :=
  ((setCover_kept ..).trans (setJournal_kept ..)).trans (setStore_kept ..)

theorem outage_mapAccess (s : State) (b : Bool) : (s.outage b).mapAccess = s.mapAccess := by
  simp [outage, cutWrites, dropHolds]

theorem abandon_mapAccess (s : State) : s.abandon.mapAccess = s.mapAccess := s.outage_mapAccess false

theorem stop_inside (inside : s.mapAccess.Inside) (b : Bool) : (s.stop b).mapAccess.Inside := by
  unfold stop
  split
  · rwa [outage_mapAccess]
  · exact inside

/-- START_UP begins from the state of an outage with power present. -/
theorem powered_outage_inside (s : State) (inside : s.mapAccess.Inside) :
    (s.outage false).powered.mapAccess.Inside := by
  have kept : (s.outage false).powered.mapAccess = s.mapAccess := s.outage_mapAccess false
  rwa [kept]

/-! ## The phases of start-up -/

theorem freshMarks_kept (s : State) : Kept s s.freshMarks :=
  (((((setCover_kept ..).trans (setJournal_kept ..)).trans (setStore_kept ..)).trans (evalCover_kept _)).trans
    (evalJournal_kept _)).trans (evalStore_kept _)

theorem freshRetained_kept (s : State) : Kept s s.freshRetained :=
  ((((setJournal_kept ..).trans (setStore_kept ..)).trans (setCover_kept ..)).trans (setCounts_kept ..)).trans
    (setIntake_kept ..)

theorem loseRetained_kept (s : State) : Kept s s.loseRetained := (latch_kept ..).trans (freshRetained_kept _)

theorem phase1_mapAccess (s : State) (a : StartUpArgs) : (s.phase1 a).mapAccess = s.mapAccess := rfl

theorem phase2_kept (s : State) (a : StartUpArgs) : Kept s (s.phase2 a) :=
  .ite (.refl s) ((loseRetained_kept s).trans ((setJournal_kept ..).trans (epochWrite_kept _)))

theorem phase3_mapAccess (s : State) (a : StartUpArgs) : (s.phase3 a).mapAccess = MapAccess.whole :=
  (disarmAll_kept _).mapAccess

theorem strandAtStart_kept (s : State) (n : Nat) : Kept s (s.strandAtStart n) :=
  (strandEntry_kept ..).trans (releasePlace_kept ..)

theorem findIntake_kept (s : State) : Kept s s.findIntake := (setIntake_kept ..).trans (trigger_kept ..)

theorem phase4_kept (s : State) : Kept s s.phase4 := by
  have stranded := (Kept.foldl strandAtStart_kept s.inChute s).trans (dropHolds_kept _)
  have cleared := stranded.trans (Kept.foldl (f := clearFaultFlag) (fun _ _ => modPort_kept ..) Hatch.all _)
  exact ((cleared.trans (evalWindow_kept _)).trans (findIntake_kept _)).trans (freshMarks_kept _)

theorem phase5_kept (s : State) : Kept s s.phase5 := (startHoming_kept s).trans (setStore_kept ..)

theorem phase6_kept (s : State) : Kept s s.phase6 := Kept.foldl (fun _ _ => setPort_kept ..) _ s

theorem phase7_kept (s : State) : Kept s s.phase7 := by
  have alarm := (latch_kept s .powerRestart).trans
    (Kept.ite (c := newlyLatched (s.latch .powerRestart) alarmSet = true) (trigger_kept _ .alarm) (.refl _))
  exact alarm.trans (.ite (trigger_kept ..) (.refl _))

theorem startAdvance_kept (s : State) (n : Nat) : Kept s (s.startAdvance n) := by
  unfold startAdvance
  split
  · exact .refl s
  · exact .ite ((advanceClock_kept ..).trans (evalTime_kept _)) (advanceClock_kept ..)

theorem startEvent_framed (n : Nat) (s : State) (e : StartEvent) : Framed s (s.startEvent n e) := by
  cases e with
  | clockAdvance => exact (startAdvance_kept s n).framed
  | atPosition b => exact (Kept.ite (s.positionEvent_kept b) (.refl s)).framed
  | home => exact (Kept.ite s.homeEvent_kept (.refl s)).framed
  | dropPulse => exact .ite s.dropEvent_framed (.refl s)
  | doorOpens => exact (Kept.ite s.doorOpensEvent_kept (s.setDoor_kept true)).framed
  | doorCloses => exact (Kept.ite s.doorClosesEvent_kept (s.setDoor_kept false)).framed
  | homingTimeout => exact (Kept.ite s.homingExpiry_kept (.refl s)).framed
  | contact h b => exact (Kept.ite (s.surroundEvent_kept h b) (s.setContact_kept h b)).framed

theorem between_framed (s : State) (a : StartUpArgs) (n : Nat) : Framed s (s.between a n) :=
  Framed.foldl (startEvent_framed n) _ s

/-- Each phase of start-up, with the events that fall after it, keeps the pointer inside. -/
theorem phases_inside (a : StartUpArgs) {f : State → State} (phase : f ∈ phases a) (inside : s.mapAccess.Inside) :
    (f s).mapAccess.Inside := by
  simp only [phases, List.mem_cons, List.not_mem_nil, or_false] at phase
  rcases phase with rfl | rfl | rfl | rfl | rfl | rfl | rfl
  · exact (between_framed _ a 1).inside inside
  · exact (between_framed _ a 2).inside ((phase2_kept s a).inside inside)
  · exact (between_framed _ a 3).inside (phase3_mapAccess s a ▸ MapAccess.whole_inside)
  · exact (between_framed _ a 4).inside ((phase4_kept s).inside inside)
  · exact (between_framed _ a 5).inside ((phase5_kept s).inside inside)
  · exact (between_framed _ a 6).inside ((phase6_kept s).inside inside)
  · exact (phase7_kept s).inside inside

theorem runPhases_inside (a : StartUpArgs) (n : Nat) (inside : s.mapAccess.Inside) :
    (runPhases a n s).mapAccess.Inside :=
  List.foldlRecOn (motive := fun x : State => x.mapAccess.Inside) _ _ inside fun _ before _ taken =>
    phases_inside a (List.mem_of_mem_take taken) before

theorem cutPhase2_inside (a : StartUpArgs) (b : Bool) (inside : s.mapAccess.Inside) :
    (cutPhase2 a b s).mapAccess.Inside := by
  have started : ((s.phase1 a).between a 1).mapAccess.Inside := (between_framed _ a 1).inside inside
  unfold cutPhase2
  split
  · rw [abandon_mapAccess]
    exact started
  · have lost := (loseRetained_kept _).inside started
    split
    · rw [abandon_mapAccess]
      exact (setTableStore_kept ..).inside lost
    · rw [abandon_mapAccess]
      exact lost

theorem startUpEvent_inside (a : StartUpArgs) (inside : s.mapAccess.Inside) :
    (startUpEvent a s).mapAccess.Inside := by
  unfold startUpEvent
  split
  · rw [pump_mapAccess]
    exact runPhases_inside a 7 inside
  · rw [abandon_mapAccess]
    exact runPhases_inside a _ inside
  · exact cutPhase2_inside a false inside
  · exact cutPhase2_inside a true inside

/-! ## Every command -/

/-- A request leaves the pointer inside if its handling does. -/
theorem exec_request_inside {i : Instr} {α : Type} {c : Nat} {p : Params α} {f : α → State}
    (command : exec i s = .next (s.request c p f)) (inside : s.mapAccess.Inside)
    (handled : ∀ a, (f a).mapAccess.Inside) : ∃ t, exec i s = .next t ∧ t.mapAccess.Inside :=
  ⟨_, command, request_satisfies (P := fun x => x.mapAccess.Inside) (fun _ _ held => held) inside handled⟩

theorem exec_inside (c : Instr) (inside : s.mapAccess.Inside) : ∃ t, exec c s = .next t ∧ t.mapAccess.Inside := by
  cases leaves : leavesFrame c with
  | true =>
    obtain ⟨t, next, framed⟩ := exec_framed leaves s
    exact ⟨t, next, framed.inside inside⟩
  | false =>
    unfold leavesFrame at leaves
    split at leaves
    · exact exec_request_inside rfl inside (mapWindow_inside inside)
    · exact exec_request_inside rfl inside (mapWrite_inside inside)
    · exact exec_request_inside rfl inside (mapRead_inside inside)
    · exact ⟨_, rfl, event_satisfies (P := fun x => x.mapAccess.Inside) (fun _ _ held => held) inside
        (transmitEnd_inside inside)⟩
    · next b => exact ⟨_, rfl, stop_inside inside b⟩
    · next b => exact ⟨_, rfl, stop_inside inside b⟩
    · next a => exact ⟨_, rfl, startUpEvent_inside a (s.powered_outage_inside inside)⟩
    · cases leaves

end State

/-- Settles O8: a command leaves window and pointer alone, makes them whole, or moves the pointer round the window. -/
theorem everyStepKeepsTheMapPointerInside : Obligations.EveryStepKeepsTheMapPointerInside := by
  unfold Obligations.EveryStepKeepsTheMapPointerInside
  intro s t inside next
  unfold step at next
  split at next
  · cases next
    exact inside
  · next c rest _ =>
    obtain ⟨u, answered, held⟩ := State.exec_inside (s := s.setPending rest) c inside
    cases answered.symm.trans next
    exact held

end Sys2Proof.Machine
end

section
/-! PROOFS. Lookups and free ways in a bucket (R64, R65, R67), and the requests on the depositor table (R66 to R69). -/

namespace Sys2Proof.Machine

open Sys2Proof

/-! ## The slots of a bucket -/

@[simp] theorem slotAt_bucket (token : Nat) (way : Fin 4) : (slotAt token way).val / 4 = token % 128 := by
  simp only [slotAt]
  omega

theorem slotAt_lt (token : Nat) {v w : Fin 4} : (slotAt token v).val < (slotAt token w).val ↔ v < w := by
  simp only [slotAt, Fin.lt_def]
  omega

/-- A slot of the bucket is one of its four ways. -/
theorem exists_slotAt {token : Nat} {slot : Slot} (bucket : slot.val / 4 = token % 128) :
    ∃ way, slot = slotAt token way := by
  refine ⟨⟨slot.val % 4, Nat.mod_lt _ (by decide)⟩, Fin.ext ?_⟩
  simp only [slotAt]
  omega

/-- The first way of a bucket at which `f` gives a value: the ways below it give none. -/
theorem ways_findSome?_eq_some {β : Type} {f : Slot → Option β} {token : Nat} {b : β}
    (found : (ways.findSome? fun w => f (slotAt token w)) = some b) :
    ∃ slot : Slot, slot.val / 4 = token % 128 ∧ f slot = some b
      ∧ ∀ other : Slot, other.val / 4 = token % 128 → other.val < slot.val → f other = none := by
  obtain ⟨below, way, above, split, value, none⟩ := List.findSome?_eq_some_iff.1 found
  refine ⟨slotAt token way, slotAt_bucket token way, value, fun other bucket lower => ?_⟩
  obtain ⟨v, rfl⟩ := exists_slotAt bucket
  have earlier : v ∈ below := by
    have sorted : (below ++ way :: above).Pairwise (· < ·) := split ▸ (by decide : ways.Pairwise (· < ·))
    have listed : v ∈ below ++ way :: above := split ▸ (by decide : ∀ v, v ∈ ways) v
    have less : v < way := (slotAt_lt token).1 lower
    obtain ⟨-, tail, -⟩ := List.pairwise_append.1 sorted
    rcases List.mem_append.1 listed with m | m
    · exact m
    · rcases List.mem_cons.1 m with rfl | later
      · exact absurd less (lt_irrefl _)
      · exact absurd less (lt_asymm (List.rel_of_pairwise_cons tail later))
  exact none v earlier

theorem ways_findSome?_eq_none {β : Type} {f : Slot → Option β} {token : Nat} :
    (ways.findSome? fun w => f (slotAt token w)) = none
      ↔ ∀ other : Slot, other.val / 4 = token % 128 → f other = none := by
  rw [List.findSome?_eq_none_iff]
  constructor
  · intro none other bucket
    obtain ⟨way, rfl⟩ := exists_slotAt bucket
    exact none way ((by decide : ∀ v, v ∈ ways) way)
  · exact fun none way _ => none _ (slotAt_bucket token way)

namespace State

/-- The entry of a slot, where it carries a token (R65). -/
def carriedAt (s : State) (token : Nat) (slot : Slot) : Option (Slot × DepositorEntry) :=
  match s.tables.depositors.get slot with
  | some e => if e.token = token then some (slot, e) else none
  | none => none

/-- A slot, where it is free (R67). -/
def freeAt (s : State) (slot : Slot) : Option Slot :=
  match s.tables.depositors.get slot with
  | none => some slot
  | some _ => none

theorem lookup_eq (s : State) (token : Nat) :
    s.lookup token = ways.findSome? fun w => s.carriedAt token (slotAt token w) := rfl

theorem freeSlot_eq (s : State) (token : Nat) :
    s.freeSlot token = ways.findSome? fun w => s.freeAt (slotAt token w) := rfl

theorem carriedAt_eq_some (s : State) (token : Nat) (slot : Slot) (x : Slot × DepositorEntry) :
    s.carriedAt token slot = some x ↔ x.1 = slot ∧ s.tables.depositors.get slot = some x.2 ∧ x.2.token = token := by
  obtain ⟨i, e⟩ := x
  unfold carriedAt
  cases held : s.tables.depositors.get slot with
  | none => simp
  | some d =>
    by_cases carries : d.token = token
    · simp only [carries, if_true, Option.some.injEq, Prod.mk.injEq]
      constructor
      · rintro ⟨rfl, rfl⟩
        exact ⟨rfl, rfl, carries⟩
      · rintro ⟨rfl, rfl, -⟩
        exact ⟨rfl, rfl⟩
    · simp only [carries, if_false, Option.some.injEq, reduceCtorEq, false_iff]
      rintro ⟨-, rfl, same⟩
      exact carries same

theorem carriedAt_eq_none (s : State) (token : Nat) (slot : Slot) :
    s.carriedAt token slot = none ↔ ∀ e, s.tables.depositors.get slot = some e → e.token ≠ token := by
  rw [Option.eq_none_iff_forall_ne_some]
  constructor
  · exact fun none e held same => none (slot, e) ((carriedAt_eq_some ..).2 ⟨rfl, held, same⟩)
  · intro others x found
    obtain ⟨-, held, same⟩ := (carriedAt_eq_some ..).1 found
    exact others _ held same

theorem freeAt_eq_some (s : State) (slot i : Slot) :
    s.freeAt slot = some i ↔ i = slot ∧ s.tables.depositors.get slot = none := by
  unfold freeAt
  cases s.tables.depositors.get slot <;> simp [eq_comm]

theorem freeAt_eq_none (s : State) (slot : Slot) : s.freeAt slot = none ↔ s.tables.depositors.get slot ≠ none := by
  unfold freeAt
  cases s.tables.depositors.get slot <;> simp

end State

open State in
/-- Settles O25: the ways are gone through in the order of their slots, and they are the slots of the bucket. -/
theorem lookupTakesTheFirstWayOfTheBucket : Obligations.LookupTakesTheFirstWayOfTheBucket := by
  unfold Obligations.LookupTakesTheFirstWayOfTheBucket
  intro s token
  refine ⟨fun slot e found => ?_, ?_⟩
  · obtain ⟨i, bucket, value, lower⟩ := ways_findSome?_eq_some (f := s.carriedAt token) found
    obtain ⟨rfl, held, carries⟩ := (carriedAt_eq_some ..).1 value
    exact ⟨bucket, held, carries, fun other x there less => (carriedAt_eq_none ..).1 (lower other there less) x⟩
  · rw [lookup_eq, ways_findSome?_eq_none]
    exact ⟨fun none other x bucket => (carriedAt_eq_none ..).1 (none other bucket) x,
      fun none other bucket => (carriedAt_eq_none ..).2 fun x => none other x bucket⟩

namespace State

/-- The lowest free way of a bucket, and when there is none (R67). -/
theorem freeSlot_lowest (s : State) (token : Nat) :
    (∀ slot, s.freeSlot token = some slot →
        slot.val / 4 = token % 128 ∧ s.tables.depositors.get slot = none
        ∧ ∀ other : Slot, other.val / 4 = token % 128 → other.val < slot.val → s.tables.depositors.get other ≠ none)
      ∧ (s.freeSlot token = none ↔
          ∀ other : Slot, other.val / 4 = token % 128 → s.tables.depositors.get other ≠ none) := by
  refine ⟨fun slot found => ?_, ?_⟩
  · obtain ⟨i, bucket, value, lower⟩ := ways_findSome?_eq_some (f := s.freeAt) found
    obtain ⟨rfl, free⟩ := (freeAt_eq_some ..).1 value
    exact ⟨bucket, free, fun other there less => (freeAt_eq_none ..).1 (lower other there less)⟩
  · rw [freeSlot_eq, ways_findSome?_eq_none]
    exact forall₂_congr fun other _ => freeAt_eq_none ..

end State

/-! ## Operands in range -/

theorem depositorState?_eq (n : Nat) :
    depositorState? n = if n ≤ 1 then some (if n = 0 then .active else .suspended) else none := by
  match n with
  | 0 => rfl
  | 1 => rfl
  | _ + 2 => rfl

theorem depositorOf?_eq (a : DepositorArgs) :
    depositorOf? a =
      if 1 ≤ a.token ∧ a.token ≤ 4294967295 ∧ a.reference ≤ 99999999 ∧ a.state ≤ 1 ∧ a.windowClass ≤ 7 ∧ a.homeBin ≤ 29
          ∧ 1 ≤ a.maxBags ∧ a.maxBags ≤ 15 ∧ 1 ≤ a.maxValue ∧ a.maxValue ≤ 99999999 then
        some ⟨a.token, a.reference, if a.state = 0 then .active else .suspended, a.windowClass, a.homeBin,
          a.maxBags, a.maxValue⟩
      else none := by
  unfold depositorOf?
  rw [depositorState?_eq]
  by_cases known : a.state ≤ 1
  · simp only [known, if_true]
    refine if_congr ?_ rfl rfl
    simp [Config.maxWord, Config.maxTotal]
    tauto
  · simp [known]

namespace State

/-! ## The requests -/

theorem depositorPut_range (s : State) {a : DepositorArgs} (bad : depositorOf? a = none) :
    s.depositorPut a = s.answer 0x20 .range [] := by simp [depositorPut, bad]

section

variable (s : State) {a : DepositorArgs} {e : DepositorEntry}

/-- A token present has its entry replaced where it stands. -/
theorem depositorPut_present (given : depositorOf? a = some e) {x : Slot × DepositorEntry}
    (present : s.lookup e.token = some x) :
    s.depositorPut a = (s.putDepositor x.1 (some e)).answer 0x20 .ok (Out.u16 x.1.val) := by
  simp [depositorPut, given, present]

theorem depositorPut_free (given : depositorOf? a = some e) (absent : s.lookup e.token = none) {slot : Slot}
    (free : s.freeSlot e.token = some slot) :
    s.depositorPut a
      = ((s.putDepositor slot (some e)).zeroCount slot (some e.token)).answer 0x20 .ok (Out.u16 slot.val) := by
  simp [depositorPut, given, absent, free]

theorem depositorPut_full (given : depositorOf? a = some e) (absent : s.lookup e.token = none)
    (full : s.freeSlot e.token = none) : s.depositorPut a = s.answer 0x20 .full [] := by
  simp [depositorPut, given, absent, full]

end

theorem depositorDrop_notFound (s : State) {token : Nat} (named : token ≠ 0) (absent : s.lookup token = none) :
    s.depositorDrop token = s.answer 0x21 .notFound [] := by simp [depositorDrop, named, absent]

theorem depositorDrop_found (s : State) {token : Nat} (named : token ≠ 0) {x : Slot × DepositorEntry}
    (present : s.lookup token = some x) :
    s.depositorDrop token
      = ((s.putDepositor x.1 none).zeroCount x.1 none).answer 0x21 .ok (Out.u16 x.1.val) := by
  simp [depositorDrop, named, present]

theorem depositorSetState_range (s : State) {a : DepositorStateArgs} (bad : a.token = 0 ∨ 1 < a.state) :
    s.depositorSetState a = s.answer 0x22 .range [] := by
  unfold depositorSetState
  rw [depositorState?_eq]
  rcases bad with unnamed | unknown
  · by_cases known : a.state ≤ 1 <;> simp [known, unnamed]
  · simp [Nat.not_le.2 unknown]

section

variable (s : State) {a : DepositorStateArgs}

theorem depositorSetState_notFound (fits : ¬(a.token = 0 ∨ 1 < a.state)) (absent : s.lookup a.token = none) :
    s.depositorSetState a = s.answer 0x22 .notFound [] := by
  obtain ⟨named, known⟩ := not_or.1 fits
  simp [depositorSetState, depositorState?_eq, named, Nat.not_lt.1 known, absent]

theorem depositorSetState_found (fits : ¬(a.token = 0 ∨ 1 < a.state)) {x : Slot × DepositorEntry}
    (present : s.lookup a.token = some x) :
    s.depositorSetState a
      = (s.putDepositor x.1 (some { x.2 with state := if a.state = 0 then .active else .suspended })).answer 0x22 .ok
          [] := by
  obtain ⟨named, known⟩ := not_or.1 fits
  simp [depositorSetState, depositorState?_eq, named, Nat.not_lt.1 known, present]

end

end State

open State in
/-- Settles O26: each outcome of a request is one answer, after a change of the table or of a slot's counters. -/
theorem depositorRequests : Obligations.DepositorRequests := by
  unfold Obligations.DepositorRequests
  refine ⟨⟨depositorOf?_eq, freeSlot_lowest, fun s a ready => ?put⟩,
    fun s ready => ⟨fun token => ?drop, fun a => ?state⟩⟩
  case put =>
    cases given : depositorOf? a with
    | none => exact exec_request_same rfl ready (depositorPut_range s given)
    | some e =>
      dsimp only
      cases present : s.lookup e.token with
      | some x => exact exec_request_answered rfl ready (depositorPut_present s given present) (putDepositor_kept ..)
      | none =>
        cases free : s.freeSlot e.token with
        | some slot =>
          exact exec_request_answered rfl ready (depositorPut_free s given present free)
            ((putDepositor_kept ..).trans (zeroCount_kept ..))
        | none => exact exec_request_same rfl ready (depositorPut_full s given present free)
  case drop =>
    split
    · next zero => exact exec_request_same rfl ready (if_pos zero)
    · next named =>
      cases present : s.lookup token with
      | none => exact exec_request_same rfl ready (depositorDrop_notFound s named present)
      | some x =>
        exact exec_request_answered rfl ready (depositorDrop_found s named present)
          ((putDepositor_kept ..).trans (zeroCount_kept ..))
  case state =>
    split
    · next bad => exact exec_request_same rfl ready (depositorSetState_range s bad)
    · next fits =>
      cases present : s.lookup a.token with
      | none => exact exec_request_same rfl ready (depositorSetState_notFound s fits present)
      | some x =>
        exact exec_request_answered rfl ready (depositorSetState_found s fits present) (putDepositor_kept ..)

end Sys2Proof.Machine
end

section
/-! PROOFS. SCHEDULE_PUT and the night's rollover (R78, R146, R147). -/

namespace Sys2Proof.Machine

open Sys2Proof

/-! ## Windows in range -/

theorem windowOf?_some {a : ScheduleArgs} (fits : a.start ≤ 1439 ∧ a.stop ≤ 1439 ∧ a.mask ≤ 127) :
    windowOf? a = some ⟨a.start, a.stop, BitVec.ofNat 7 a.mask⟩ := by
  simp [windowOf?, fits]

theorem windowOf?_none {a : ScheduleArgs} (bad : ¬(a.start ≤ 1439 ∧ a.stop ≤ 1439 ∧ a.mask ≤ 127)) :
    windowOf? a = none := by
  unfold windowOf?
  refine if_neg fun fits => bad ?_
  simpa [and_assoc] using fits

namespace State

/-! ## SCHEDULE_PUT -/

theorem schedulePut_range (s : State) {a : ScheduleArgs}
    (bad : ¬(a.window < 8 ∧ a.start ≤ 1439 ∧ a.stop ≤ 1439 ∧ a.mask ≤ 127)) :
    s.schedulePut a = s.answer 0x11 .range [] := by
  unfold schedulePut
  split
  · next named => rw [windowOf?_none fun fits => bad ⟨named, fits⟩]
  · rfl

/-- The state with a schedule window written. -/
def putWindow (s : State) (w : Fin 8) (x : Window) : State :=
  s.setTables { s.tables with windows := s.tables.windows.put w x }

theorem schedulePut_ok (s : State) {a : ScheduleArgs}
    (fits : a.window < 8 ∧ a.start ≤ 1439 ∧ a.stop ≤ 1439 ∧ a.mask ≤ 127) :
    s.schedulePut a
      = (if a.window = 0 then (s.putWindow ⟨a.window, fits.1⟩ ⟨a.start, a.stop, BitVec.ofNat 7 a.mask⟩).evalTime
        else s.putWindow ⟨a.window, fits.1⟩ ⟨a.start, a.stop, BitVec.ofNat 7 a.mask⟩).answer 0x11 .ok [] := by
  unfold schedulePut
  rw [dif_pos fits.1, windowOf?_some fits.2]
  rfl

theorem putWindow_kept (s : State) (w : Fin 8) (x : Window) : Kept s (s.putWindow w x) := setTables_kept ..

/-! ## The evaluation of window 0 -/

/-- Window 0 comes to contain the present instant, which its mark does not show yet (R146). -/
def rises (s : State) : Prop := s.inWindow 0 = true ∧ s.intake.windowMark = false

theorem evalWindow_rises (s : State) (rise : s.rises) :
    s.evalWindow = (s.setIntake { s.intake with windowMark := s.inWindow 0 }).rollover := by
  obtain ⟨inside, clear⟩ := rise
  simp [evalWindow, inside, clear]

theorem evalWindow_stays (s : State) (flat : ¬s.rises) :
    s.evalWindow = s.setIntake { s.intake with windowMark := s.inWindow 0 } := by
  unfold evalWindow
  refine if_neg fun rise => flat ?_
  simpa [rises] using rise

theorem rollover_get (s : State) (i : Slot) : s.rollover.counts.get i = ⟨0, 0, (s.counts.get i).token⟩ := by
  simp [rollover]

end State

open State in
/-- Settles O21: the write is one answer, and an evaluation rolls the counters over exactly where the mark rises. -/
theorem schedulePutAndRollover : Obligations.SchedulePutAndRollover := by
  unfold Obligations.SchedulePutAndRollover
  refine ⟨fun s a ready => ?write, fun s => ?evaluation⟩
  case write =>
    split
    · next fits =>
      exact exec_request_answered rfl ready (schedulePut_ok s fits)
        (.ite ((putWindow_kept ..).trans (evalTime_kept _)) (putWindow_kept ..))
    · next bad => exact exec_request_same rfl ready (schedulePut_range s bad)
  case evaluation =>
    by_cases rise : s.rises
    · exact ⟨_, evalWindow_rises s rise, fun _ => rollover_get _, fun flat => absurd rise flat⟩
    · exact ⟨_, evalWindow_stays s rise, fun rise' => absurd rise' rise, fun _ => rfl⟩

end Sys2Proof.Machine
end

section
/-! SUPPORT. The evaluation of window 0 and of the intake state in one whole (R141, R146): what it leaves, and that it
leaves the mark and the state as the inputs give them. -/

namespace Sys2Proof.Machine

open Sys2Proof

namespace State

/-! ## What the inputs of intake control rest on -/

theorem inWindow_congr {u v : State} (clock : v.intake.clock = u.intake.clock) (tables : v.tables = u.tables)
    (w : Fin 8) : v.inWindow w = u.inWindow w := by
  simp only [inWindow, clock, tables]

theorem anyInFlight_congr {u v : State} (same : ∀ h, (v.drop h).inFlight = (u.drop h).inFlight) :
    v.anyInFlight = u.anyInFlight := by
  simp only [anyInFlight, same]

/-- The parts of `v` that the intake state is formed from are those of `u`. -/
structure SameInputs (u v : State) : Prop where
  enable : v.intake.enable = u.intake.enable
  clock : v.intake.clock = u.intake.clock
  tables : v.tables = u.tables
  length : v.journal.entries.length = u.journal.entries.length
  slotHolds : v.journal.slotHolds = u.journal.slotHolds
  bins : v.store.bins = u.store.bins
  holds : v.store.holds = u.store.holds
  inFlight : ∀ h, (v.drop h).inFlight = (u.drop h).inFlight

theorem SameInputs.target {u v : State} (same : SameInputs u v) : v.intakeTarget = u.intakeTarget := by
  have journalRoom : v.journalRoom = u.journalRoom := by simp only [State.journalRoom, same.length, same.slotHolds]
  have storeRoom : v.storeRoom = u.storeRoom := by simp only [State.storeRoom, freePlaces, bin, same.bins, same.holds]
  unfold intakeTarget
  rw [same.enable, inWindow_congr same.clock same.tables, journalRoom, storeRoom, anyInFlight_congr same.inFlight]

/-- A cancelled transaction had no drop in flight. -/
theorem evalIntake_inFlight (s : State) (h : Hatch) : (s.evalIntake.drop h).inFlight = (s.drop h).inFlight := by
  rcases evalIntake_drop_cases s h with same | ⟨waited, idle⟩
  · rw [same]
  · obtain ⟨t, dl, e⟩ := Drop.code_eq_two.1 waited
    rw [idle, e]
    rfl

theorem evalIntake_sameInputs (s : State) : SameInputs s s.evalIntake where
  enable := by rw [evalIntake_intake]
  clock := by rw [evalIntake_intake]
  tables := evalIntake_tables s
  length := by rw [evalIntake_journal]
  slotHolds := by rw [evalIntake_journal]
  bins := by rw [evalIntake_store]
  holds := by rw [evalIntake_store]
  inFlight := evalIntake_inFlight s

/-! ## Window 0 -/

theorem evalWindow_intake (s : State) : s.evalWindow.intake = { s.intake with windowMark := s.inWindow 0 } := by
  by_cases rise : s.rises
  · rw [evalWindow_rises s rise]
    rfl
  · rw [evalWindow_stays s rise]
    rfl

/-- A rise sets a slot's counters to 0 and leaves its token (R78). -/
theorem evalWindow_counts_get (s : State) (i : Slot) :
    s.evalWindow.counts.get i
      = if s.inWindow 0 = true ∧ s.intake.windowMark = false then ⟨0, 0, (s.counts.get i).token⟩
        else s.counts.get i := by
  by_cases rise : s.rises
  · rw [evalWindow_rises s rise, rollover_get]
    exact (if_pos rise).symm
  · rw [evalWindow_stays s rise]
    exact (if_neg rise).symm

theorem evalWindow_token (s : State) (i : Slot) : (s.evalWindow.counts.get i).token = (s.counts.get i).token := by
  rw [evalWindow_counts_get]
  split <;> rfl

/-! ## Both in one whole -/

/-- The window-0 mark and the intake state are what the inputs give. -/
def Timed (s : State) : Prop := s.intake.state = s.intakeTarget ∧ s.intake.windowMark = s.inWindow 0

theorem Timed.congr {u v : State} (timed : u.Timed) (same : SameInputs u v) (state : v.intake.state = u.intake.state)
    (mark : v.intake.windowMark = u.intake.windowMark) : v.Timed := by
  obtain ⟨stateIs, markIs⟩ := timed
  exact ⟨by rw [state, same.target, stateIs], by rw [mark, inWindow_congr same.clock same.tables, markIs]⟩

theorem evalTime_intake (s : State) :
    s.evalTime.intake = { s.intake with windowMark := s.inWindow 0, state := s.evalWindow.intakeTarget } := by
  unfold evalTime
  rw [evalIntake_intake, evalWindow_intake]

theorem evalTime_timed (s : State) : s.evalTime.Timed := by
  refine ⟨?_, ?_⟩
  · exact (congrArg Intake.state (evalIntake_intake s.evalWindow)).trans
      (evalIntake_sameInputs s.evalWindow).target.symm
  · have clock : s.evalTime.intake.clock = s.intake.clock := by rw [evalTime_intake]
    rw [inWindow_congr clock (by simp [evalTime]), evalTime_intake]

@[simp] theorem evalTime_now (s : State) : s.evalTime.now = s.now := by simp [evalTime]
@[simp] theorem evalTime_tables (s : State) : s.evalTime.tables = s.tables := by simp [evalTime]
@[simp] theorem evalTime_tableStore (s : State) : s.evalTime.tableStore = s.tableStore := by simp [evalTime]
@[simp] theorem evalTime_cover (s : State) : s.evalTime.cover = s.cover := by simp [evalTime]
@[simp] theorem evalTime_journal (s : State) : s.evalTime.journal = s.journal := by simp [evalTime]
@[simp] theorem evalTime_store (s : State) : s.evalTime.store = s.store := by simp [evalTime]
@[simp] theorem evalTime_timer (s : State) : s.evalTime.office.timer = s.office.timer :=
  (evalIntake_lasting _).timer.trans (by simp)
@[simp] theorem evalTime_counts (s : State) : s.evalTime.counts = s.evalWindow.counts := evalIntake_counts _

theorem evalTime_port_part {β : Type} (p : Port → β)
    (c : ∀ (q : Port) (d : Drop) (x : Option Nat), p { q with drop := d, showDue := x } = p q) (s : State) (h : Hatch) :
    p (s.evalTime.port h) = p (s.port h) :=
  (evalIntake_port_part p c _ h).trans (congrArg p (port_of_ports (evalWindow_ports s) h))

/-- A machine that does not await a declaration keeps its state. -/
theorem evalTime_drop_eq (s : State) (h : Hatch) (e : (s.drop h).code ≠ 2) : s.evalTime.drop h = s.drop h := by
  have same := drop_of_ports (evalWindow_ports s) h
  exact (evalIntake_drop_eq _ h (by rwa [same])).trans same

/-! ## The cover account's mark -/

theorem evalCover_cover (s : State) : s.evalCover.cover = { s.cover with near := s.coverNear } := by
  unfold evalCover
  dsimp only
  split <;> simp

end State

end Sys2Proof.Machine
end

section
/-! PROOFS. RESET's reply, and STORE_TABLES with its end (R169, R184, R191). -/

namespace Sys2Proof.Machine

open Sys2Proof

namespace State

variable {s : State}

theorem exec_reset (s : State) : exec (.reset (.fits ())) s = .next (s.request 0x08 (.fits ()) s.resetRequest) := rfl

theorem exec_storeTables (s : State) :
    exec (.storeTables (.fits ())) s = .next (s.request 0x70 (.fits ()) s.storeTables) := rfl

theorem exec_storeTablesDone (s : State) : exec .storeTablesDone s = .next (s.event State.storeTablesDone) := rfl

/-- RESET's reply keeps the hand, whether it waits or is sent. -/
theorem exec_reset_ready (ready : s.Ready) :
    exec (.reset (.fits ())) s = .next { s with
      office :=
        match s.office.transmitter with
        | none => { s.office with hand := some .resetSending, transmitter := some (.reply ⟨0x08, .ok, []⟩) }
        | some _ =>
          { s.office with hand := some .resetWaiting, replies := s.office.replies ++ [.own ⟨0x08, .ok, []⟩] } } := by
  obtain ⟨-, hand, quiet⟩ := id ready
  rw [exec_reset, request_ready ready]
  cases sending : s.office.transmitter with
  | some f => simp [resetRequest, answer, pump, setOffice, sending]
  | none =>
    obtain ⟨replies, -⟩ := quiet sending
    simp [resetRequest, answer, pump, setOffice, sending, replies, Hand.begun]

theorem exec_storeTables_ready (ready : s.Ready) :
    exec (.storeTables (.fits ())) s = .next (s.storeTables ()) := by
  obtain ⟨-, -, quiet⟩ := id ready
  rw [exec_storeTables, request_ready ready, pump_eq (s.storeTables ()) (quiet.of_office rfl rfl rfl)]

/-- The end of the write fills the store and frees the hand for its reply. -/
theorem exec_storeTablesDone_storing (settled : s.Settled) {copy : Tables}
    (hand : s.office.hand = some (.storing copy)) :
    exec .storeTablesDone s
      = .next (State.answered
          { s with tableStore := ⟨true, copy, s.journal.epoch, false⟩, office := { s.office with hand := none } }
          0x70 .ok (bytesOf 2 s.journal.epoch)) := by
  obtain ⟨run, quiet⟩ := settled
  have written : s.storeTablesDone
      = (({ s with tableStore := ⟨true, copy, s.journal.epoch, false⟩, office := { s.office with hand := none } } :
          State).answer 0x70 .ok (bytesOf 2 s.journal.epoch)) := by
    simp only [storeTablesDone, hand]
    rfl
  rw [exec_storeTablesDone, event_run _ run, written]
  exact congrArg _ (pump_answer _ _ _ _ rfl fun free => (quiet free).1)

theorem exec_storeTablesDone_idle (settled : s.Settled) (idle : ∀ copy, s.office.hand ≠ some (.storing copy)) :
    exec .storeTablesDone s = .next s := by
  have same : s.storeTablesDone = s := by
    unfold storeTablesDone
    split
    · next copy hand => exact absurd hand (idle copy)
    · rfl
  rw [exec_storeTablesDone, event_unchanged settled same]

end State

end Sys2Proof.Machine
end

section
/-! PROOFS. LOAD_TABLES (R79, R91, R146, R165, R174, R185): the loaded tables, the configurations put in force one by
one, and O44. -/

namespace Sys2Proof.Machine

open Sys2Proof

namespace State

/-! ## Steps 1 to 5: everything but the configurations -/

/-- The tables are loaded but for the configurations, and the counters matched to them. -/
def takeLoaded (s : State) (t : Tables) : State :=
  (s.setTables { t with configs := s.tables.configs }).matchCounts.clampLimit

/-- The state before the configurations are put in force. -/
def loadedTables (s : State) (t : Tables) : State := (s.takeLoaded t).evalCover.applyNoticeSettings.disarmAll

@[simp] theorem matchCounts_get (s : State) (i : Slot) :
    s.matchCounts.counts.get i = matchCount (s.tables.depositors.get i) (s.counts.get i) := by
  simp [matchCounts]

/-- A running timer takes the present T_n from the commit that started it, unless that has passed (R174). -/
theorem retimeMitigation_timer (s : State) :
    s.retimeMitigation.office.timer
      = s.office.timer.bind fun x =>
          if s.tables.noticeTime = 0 ∨ x.started + s.tables.noticeTime * 1000 ≤ s.now then none
          else some ⟨x.started, x.started + s.tables.noticeTime * 1000⟩ := by
  unfold retimeMitigation
  cases running : s.office.timer with
  | none => exact running
  | some x =>
    by_cases zero : s.tables.noticeTime = 0
    · simp [zero]
    · by_cases passed : x.started + s.tables.noticeTime * 1000 ≤ s.now
      · simp [zero, passed, Config.second]
      · simp [zero, passed, Config.second]

theorem applyNoticeSettings_timer (s : State) :
    s.applyNoticeSettings.office.timer = s.retimeMitigation.office.timer := by
  unfold applyNoticeSettings
  dsimp only
  split <;> rfl

section

variable (s : State) (t : Tables)

theorem loadedTables_part {β : Type} (p : State → β) (c : ∀ u x, p (setPorts u x) = p u) :
    p (s.loadedTables t) = p (s.takeLoaded t).evalCover.applyNoticeSettings := disarmAll_part p c _

theorem loadedTables_tables :
    (s.loadedTables t).tables
      = { t with configs := s.tables.configs, limit := max t.limit (s.cover.committed + s.cover.held) } := by
  rw [loadedTables_part s t State.tables fun _ _ => rfl]
  simp [takeLoaded, clampLimit, matchCounts]

theorem loadedTables_counts (i : Slot) :
    (s.loadedTables t).counts.get i = matchCount (t.depositors.get i) (s.counts.get i) := by
  rw [loadedTables_part s t State.counts fun _ _ => rfl]
  simp [takeLoaded, clampLimit]

theorem loadedTables_cover :
    (s.loadedTables t).cover
      = { s.cover with
          near :=
            decide (9 * max t.limit (s.cover.committed + s.cover.held) ≤ 10 * (s.cover.committed + s.cover.held)) } := by
  rw [loadedTables_part s t State.cover fun _ _ => rfl, applyNoticeSettings_cover]
  exact evalCover_cover (s.takeLoaded t)

theorem loadedTables_timer :
    (s.loadedTables t).office.timer
      = s.office.timer.bind fun x =>
          if t.noticeTime = 0 ∨ x.started + t.noticeTime * 1000 ≤ s.now then none
          else some ⟨x.started, x.started + t.noticeTime * 1000⟩ := by
  rw [loadedTables_part s t (fun u => u.office.timer) fun _ _ => rfl, applyNoticeSettings_timer,
    retimeMitigation_timer, (evalCover_lasting _).timer]
  simp [takeLoaded, clampLimit, matchCounts]

theorem loadedTables_rest :
    (s.loadedTables t).now = s.now ∧ (s.loadedTables t).straps = s.straps
      ∧ (s.loadedTables t).tableStore = s.tableStore ∧ (s.loadedTables t).journal = s.journal
      ∧ (s.loadedTables t).intake = s.intake ∧ (s.loadedTables t).mapAccess = s.mapAccess := by
  rw [loadedTables_part s t State.now fun _ _ => rfl, loadedTables_part s t State.straps fun _ _ => rfl,
    loadedTables_part s t State.tableStore fun _ _ => rfl, loadedTables_part s t State.journal fun _ _ => rfl,
    loadedTables_part s t State.intake fun _ _ => rfl, loadedTables_part s t State.mapAccess fun _ _ => rfl]
  simp [takeLoaded, clampLimit, matchCounts]

theorem loadedTables_port (h : Hatch) : (s.loadedTables t).port h = { s.port h with zeroArmed := false } := by
  unfold loadedTables
  rw [disarmAll_port, port_of_ports (s := s) (by simp [takeLoaded, clampLimit, matchCounts])]

end

/-! ## A link that leaves UP -/

/-- An ending changes no input of intake control but the state it evaluates. -/
theorem endTransaction_intake (s : State) (h : Hatch) (d : Drop) :
    ∃ x, (s.endTransaction h d).intake = { s.intake with state := x } := by
  unfold endTransaction
  split
  case h_1 | h_2 | h_3 => exact ⟨_, (evalIntake_intake _).trans (by simp [removeSlot]; rfl)⟩
  all_goals exact ⟨s.intake.state, rfl⟩

theorem dropLink_intake (s : State) (h : Hatch) : ∃ x, (s.dropLink h).intake = { s.intake with state := x } := by
  obtain ⟨x, ended⟩ := endTransaction_intake s h .offline
  rcases Drop.code_cases (s.drop h) with e | e | e | e
  · exact ⟨s.intake.state, by rw [dropLink_offline s h e]⟩
  · exact ⟨x, by rw [dropLink_plain s h e, ended]⟩
  · exact ⟨x, by rw [dropLink_uncommitted s h e, countCancel_intake, ended]⟩
  · exact ⟨x, by rw [dropLink_committed s h e, modPort_intake, ended]⟩

/-- A machine without a drop in flight owns nothing that the cover account counts. -/
theorem dropLink_cover (s : State) (h : Hatch) (e : (s.drop h).inFlight = false) : (s.dropLink h).cover = s.cover := by
  have ended := dropLink_endedFrom s h
  cases d : s.drop h <;> rw [d] at e ended
  case offline | idle | awaitDecl | fault => exact ended.1
  all_goals cases e

theorem dropLink_inFlight (s : State) (h k : Hatch) (e : (s.drop k).inFlight = false) :
    ((s.dropLink h).drop k).inFlight = false := by
  by_cases other : h = k
  · subst other
    rw [dropLink_drop_self]
    rfl
  · rcases dropLink_drop_cases s other with same | ⟨-, idle⟩
    · rwa [same]
    · rw [idle]
      rfl

end State

/-! ## What every configuration put in force leaves -/

/-- `v` has what no configuration put in force changes in `u`; of the tables, all but the configurations. -/
structure Configured (u v : State) : Prop where
  kept : Kept u v
  now : v.now = u.now
  tables : v.tables = { u.tables with configs := v.tables.configs }
  tableStore : v.tableStore = u.tableStore
  counts : v.counts = u.counts
  epoch : v.journal.epoch = u.journal.epoch
  timer : v.office.timer = u.office.timer
  intake : ∃ x, v.intake = { u.intake with state := x }
  disarmed : (∀ h, (u.port h).zeroArmed = false) → ∀ h, (v.port h).zeroArmed = false
  grounded : (∀ h, (u.drop h).inFlight = false) → v.cover = u.cover ∧ ∀ h, (v.drop h).inFlight = false

namespace Configured

variable {s u v w : State}

theorem refl (u : State) : Configured u u :=
  ⟨.refl u, rfl, rfl, rfl, rfl, rfl, rfl, ⟨_, rfl⟩, fun e => e, fun e => ⟨rfl, e⟩⟩

theorem trans (a : Configured u v) (b : Configured v w) : Configured u w where
  kept := a.kept.trans b.kept
  now := b.now.trans a.now
  tables := by rw [b.tables, a.tables]
  tableStore := b.tableStore.trans a.tableStore
  counts := b.counts.trans a.counts
  epoch := b.epoch.trans a.epoch
  timer := b.timer.trans a.timer
  intake := by
    obtain ⟨x, before⟩ := a.intake
    obtain ⟨y, after⟩ := b.intake
    exact ⟨y, by rw [after, before]⟩
  disarmed e := b.disarmed (a.disarmed e)
  grounded e := by
    obtain ⟨cover, still⟩ := a.grounded e
    obtain ⟨cover', still'⟩ := b.grounded still
    exact ⟨cover'.trans cover, still'⟩

theorem foldl {α : Type} {f : State → α → State} (k : ∀ s a, Configured s (f s a)) :
    ∀ (l : List α) (s : State), Configured s (l.foldl f s)
  | [], s => .refl s
  | a :: l, s => (k s a).trans (foldl k l (f s a))

end Configured

namespace State

/-- A change at one port that arms no mark and leaves the drop state. -/
theorem modPort_configured (u : State) (h : Hatch) {f : Port → Port} (drop : ∀ p, (f p).drop = p.drop)
    (disarmed : ∀ p, p.zeroArmed = false → (f p).zeroArmed = false) : Configured u (u.modPort h f) where
  kept := modPort_kept ..
  now := rfl
  tables := rfl
  tableStore := rfl
  counts := rfl
  epoch := rfl
  timer := rfl
  intake := ⟨_, rfl⟩
  disarmed e k := by
    rw [modPort_port]
    split
    · exact disarmed _ (e h)
    · exact e k
  grounded e := by
    refine ⟨rfl, fun k => ?_⟩
    have same : (u.modPort h f).drop k = u.drop k := by
      unfold State.drop
      rw [modPort_port]
      split
      · next own => subst own; exact drop _
      · rfl
    rw [same]
    exact e k

theorem dropLink_configured (u : State) (h : Hatch) : Configured u (u.dropLink h) where
  kept := dropLink_kept ..
  now := (dropLink_lasting u h).now
  tables := by rw [(dropLink_lasting u h).tables]
  tableStore := (dropLink_lasting u h).tableStore
  counts := (dropLink_lasting u h).counts
  epoch := (dropLink_lasting u h).epoch
  timer := (dropLink_lasting u h).timer
  intake := dropLink_intake u h
  disarmed e k := (dropLink_port_part Port.zeroArmed (fun _ _ _ => rfl) (fun _ => rfl) u h k).trans (e k)
  grounded e := ⟨dropLink_cover u h (e h), fun k => dropLink_inFlight u h k (e k)⟩

theorem unlink_configured (u : State) (h : Hatch) : Configured u (u.unlink h) := by
  unfold unlink
  split
  · exact (dropLink_configured u h).trans (modPort_configured _ h (fun _ => rfl) fun _ _ => rfl)
  · exact .refl u

/-- The table takes the configuration, and the aux function and automatic polarity act at once (R163, R165). -/
def takeConfig (u : State) (h : Hatch) (c : HatchConfig) : State :=
  (u.setTables { u.tables with configs := u.tables.configs.set h c }).modPort h fun p =>
    { p with
      streak := if c.autoPolarity then p.streak else 0
      surroundLatch := if c.aux = .surround then p.surroundLatch else false }

theorem applyConfig_eq (u : State) (h : Hatch) (c : HatchConfig) :
    u.applyConfig h c
      = if !u.fitted h then u.takeConfig h c
        else if c.enable then (u.takeConfig h c).enterHoldOff h
        else (u.takeConfig h c).disablePort h := rfl

theorem takeConfig_configured (u : State) (h : Hatch) (c : HatchConfig) : Configured u (u.takeConfig h c) := by
  have taken : Configured u (u.setTables { u.tables with configs := u.tables.configs.set h c }) :=
    ⟨setTables_kept .., rfl, rfl, rfl, rfl, rfl, rfl, ⟨_, rfl⟩, fun e => e, fun e => ⟨rfl, e⟩⟩
  exact taken.trans (modPort_configured _ h (fun _ => rfl) fun _ e => e)

theorem enterHoldOff_configured (u : State) (h : Hatch) : Configured u (u.enterHoldOff h) :=
  (unlink_configured u h).trans (modPort_configured _ h (fun _ => rfl) fun _ e => e)

theorem disablePort_configured (u : State) (h : Hatch) : Configured u (u.disablePort h) :=
  (unlink_configured u h).trans (modPort_configured _ h (fun _ => rfl) fun _ e => e)

theorem loadConfig_configured (t : Tables) (u : State) (h : Hatch) : Configured u (loadConfig t u h) := by
  have taken := takeConfig_configured u h (t.configs.get h)
  unfold loadConfig
  split
  · exact .refl u
  · rw [applyConfig_eq]
    split
    · exact taken
    · split
      · exact taken.trans (enterHoldOff_configured ..)
      · exact taken.trans (disablePort_configured ..)

/-! ## What a configuration put in force at another hatch leaves -/

/-- `v` has hatch `k`'s configuration, link and last report of `u`, and its machine stays OFFLINE. -/
structure Aside (k : Hatch) (u v : State) : Prop where
  config : v.config k = u.config k
  link : (v.port k).link = (u.port k).link
  snapshot : (v.port k).snapshot = (u.port k).snapshot
  release : (v.port k).release = (u.port k).release
  offline : u.drop k = .offline → v.drop k = .offline

namespace Aside

variable {k : Hatch} {u v w : State}

theorem refl (k : Hatch) (u : State) : Aside k u u := ⟨rfl, rfl, rfl, rfl, fun e => e⟩

theorem trans (a : Aside k u v) (b : Aside k v w) : Aside k u w :=
  ⟨b.config.trans a.config, b.link.trans a.link, b.snapshot.trans a.snapshot, b.release.trans a.release,
    fun e => b.offline (a.offline e)⟩

end Aside

section

variable {h k : Hatch}

theorem modPort_aside (other : h ≠ k) (u : State) (f : Port → Port) : Aside k u (u.modPort h f) := by
  have same := modPort_port_ne u other (f := f)
  exact ⟨rfl, by rw [same], by rw [same], by rw [same], fun e => by rwa [drop, same]⟩

theorem dropLink_aside (other : h ≠ k) (u : State) : Aside k u (u.dropLink h) where
  config := by rw [config, config, (dropLink_lasting u h).tables]
  link := dropLink_port_part Port.link (fun _ _ _ => rfl) (fun _ => rfl) u h k
  snapshot := dropLink_port_part Port.snapshot (fun _ _ _ => rfl) (fun _ => rfl) u h k
  release := dropLink_port_part Port.release (fun _ _ _ => rfl) (fun _ => rfl) u h k
  offline e := by
    rcases dropLink_drop_cases u other with same | ⟨waited, -⟩
    · rwa [same]
    · rw [e] at waited
      exact absurd waited (by decide)

theorem unlink_aside (other : h ≠ k) (u : State) : Aside k u (u.unlink h) := by
  unfold unlink
  split
  · exact (dropLink_aside other u).trans (modPort_aside other _ _)
  · exact .refl k u

theorem takeConfig_aside (other : h ≠ k) (u : State) (c : HatchConfig) : Aside k u (u.takeConfig h c) := by
  have taken : Aside k u (u.setTables { u.tables with configs := u.tables.configs.set h c }) :=
    ⟨PerHatch.get_set_ne _ other _, rfl, rfl, rfl, fun e => e⟩
  exact taken.trans (modPort_aside other _ _)

theorem loadConfig_aside (t : Tables) (other : h ≠ k) (u : State) : Aside k u (loadConfig t u h) := by
  have taken := takeConfig_aside other u (t.configs.get h)
  unfold loadConfig
  split
  · exact .refl k u
  · rw [applyConfig_eq]
    split
    · exact taken
    · split
      · exact taken.trans ((unlink_aside other _).trans (modPort_aside other _ _))
      · exact taken.trans ((unlink_aside other _).trans (modPort_aside other _ _))

theorem evalTime_aside (k : Hatch) (u : State) : Aside k u u.evalTime where
  config := by rw [config, config, evalTime_tables]
  link := evalTime_port_part Port.link (fun _ _ _ => rfl) u k
  snapshot := evalTime_port_part Port.snapshot (fun _ _ _ => rfl) u k
  release := evalTime_port_part Port.release (fun _ _ _ => rfl) u k
  offline e := (evalTime_drop_eq u k (by rw [e]; decide)).trans e

/-- A step for each hatch in turn, of which only its own concerns hatch `k`. -/
theorem foldl_loadConfig_aside (t : Tables) (k : Hatch) (s : State) :
    ∃ u, Configured s u ∧ Aside k s u ∧ Aside k (loadConfig t u k) (Hatch.all.foldl (loadConfig t) s) := by
  obtain ⟨before, after, split, apart⟩ : ∃ before after, Hatch.all = before ++ k :: after ∧ k ∉ before ++ after := by
    cases k
    · exact ⟨[], [.h2, .h3, .h4], rfl, by decide⟩
    · exact ⟨[.h1], [.h3, .h4], rfl, by decide⟩
    · exact ⟨[.h1, .h2], [.h4], rfl, by decide⟩
    · exact ⟨[.h1, .h2, .h3], [], rfl, by decide⟩
  have others : ∀ (l : List Hatch) (u : State), k ∉ l → Aside k u (l.foldl (loadConfig t) u) := by
    intro l
    induction l with
    | nil => exact fun u _ => .refl k u
    | cons h l ih =>
      intro u absent
      rw [List.mem_cons, not_or] at absent
      obtain ⟨other, absent⟩ := absent
      exact (loadConfig_aside t (Ne.symm other) u).trans (ih _ absent)
  rw [List.mem_append, not_or] at apart
  refine ⟨before.foldl (loadConfig t) s, .foldl (loadConfig_configured t) _ _, others _ _ apart.1, ?_⟩
  rw [split, List.foldl_append]
  exact others _ _ apart.2

end

/-! ## What it does at its own hatch -/

theorem unlink_up (u : State) (h : Hatch) (up : (u.port h).link = .up) :
    (u.unlink h).drop h = .offline ∧ ((u.unlink h).port h).snapshot = none
      ∧ ((u.unlink h).port h).release = none := by
  have left : u.unlink h = u.leaveUp h := if_pos up
  have port : (u.leaveUp h).port h = ((u.dropLink h).port h).discard := modPort_port_self ..
  rw [left, drop, port]
  exact ⟨dropLink_drop_self u h, rfl, rfl⟩

/-- A fitted port whose link was UP leaves it, and takes the new link state. -/
theorem relink_own (u : State) (h : Hatch) {f : Port → Port} (drop : ∀ p, (f p).drop = p.drop)
    (snapshot : ∀ p, (f p).snapshot = p.snapshot) (release : ∀ p, (f p).release = p.release)
    (up : (u.port h).link = .up) :
    ((u.unlink h).modPort h f).drop h = .offline ∧ (((u.unlink h).modPort h f).port h).snapshot = none
      ∧ (((u.unlink h).modPort h f).port h).release = none := by
  obtain ⟨offline, empty, none⟩ := unlink_up u h up
  rw [State.drop, modPort_port_self]
  exact ⟨(drop _).trans offline, (snapshot _).trans empty, (release _).trans none⟩

theorem takeConfig_link (u : State) (h : Hatch) (c : HatchConfig) :
    ((u.takeConfig h c).port h).link = (u.port h).link := by
  rw [takeConfig, modPort_port_self]
  rfl

theorem loadConfig_same {t : Tables} {u : State} {h : Hatch} (same : t.configs.get h = u.config h) :
    loadConfig t u h = u := if_pos same

theorem loadConfig_new {t : Tables} {u : State} {h : Hatch} (new : t.configs.get h ≠ u.config h) :
    loadConfig t u h = u.applyConfig h (t.configs.get h) := if_neg new

section

variable (u : State) (h : Hatch) (c : HatchConfig)

theorem applyConfig_unfitted (out : u.straps.hatches < h.num) : u.applyConfig h c = u.takeConfig h c := by
  rw [applyConfig_eq]
  exact if_pos (by simp [fitted, out])

/-- A fitted port is restarted if its configuration enables it, and else disabled (R165). -/
theorem applyConfig_fitted (fits : h.num ≤ u.straps.hatches) :
    ((u.applyConfig h c).port h).link = (if c.enable then .holdOff (u.now + 1500) else .disabled)
      ∧ ((u.port h).link = .up →
        (u.applyConfig h c).drop h = .offline ∧ ((u.applyConfig h c).port h).snapshot = none
          ∧ ((u.applyConfig h c).port h).release = none) := by
  have unfold : u.applyConfig h c
      = if c.enable then (u.takeConfig h c).enterHoldOff h else (u.takeConfig h c).disablePort h := by
    rw [applyConfig_eq]
    exact if_neg (by simp [fitted, fits])
  have link := takeConfig_link u h c
  rw [unfold]
  split
  · exact ⟨congrArg Port.link (modPort_port_self ..),
      fun up => relink_own _ h (fun _ => rfl) (fun _ => rfl) (fun _ => rfl) (link.trans up)⟩
  · exact ⟨congrArg Port.link (modPort_port_self ..),
      fun up => relink_own _ h (fun _ => rfl) (fun _ => rfl) (fun _ => rfl) (link.trans up)⟩

theorem applyConfig_config : (u.applyConfig h c).config h = c := by
  have taken : (u.takeConfig h c).config h = c := PerHatch.get_set_self _ _ _
  rw [applyConfig_eq]
  split
  · exact taken
  · split
    · rw [config, enterHoldOff_tables]
      exact taken
    · rw [config, disablePort, modPort_tables, unlink_tables]
      exact taken

end

theorem loadConfig_config (t : Tables) (u : State) (h : Hatch) : (loadConfig t u h).config h = t.configs.get h := by
  by_cases same : t.configs.get h = u.config h
  · rw [loadConfig_same same, same]
  · rw [loadConfig_new same, applyConfig_config]

/-! ## The whole load -/

/-- The state with every configuration in force, before window 0 and intake are evaluated. -/
def configured (s : State) (t : Tables) : State := Hatch.all.foldl (loadConfig t) (s.loadedTables t)

section

variable (s : State) (t : Tables)

theorem loadTablesFrom_eq : s.loadTablesFrom t = (s.configured t).evalTime := rfl

theorem configured_configured : Configured (s.loadedTables t) (s.configured t) := .foldl (loadConfig_configured t) _ _

theorem configured_tables :
    (s.configured t).tables = { t with limit := max t.limit (s.cover.committed + s.cover.held) } := by
  have configs : (s.configured t).tables.configs = t.configs := by
    refine PerHatch.ext_get fun h => ?_
    obtain ⟨u, -, -, after⟩ := foldl_loadConfig_aside t h (s.loadedTables t)
    exact after.config.trans (loadConfig_config t u h)
  rw [(configured_configured s t).tables, configs, loadedTables_tables]

theorem configured_intake : ∃ x, (s.configured t).intake = { s.intake with state := x } := by
  obtain ⟨x, evaluated⟩ := (configured_configured s t).intake
  obtain ⟨-, -, -, -, intake, -⟩ := loadedTables_rest s t
  exact ⟨x, by rw [evaluated, intake]⟩

theorem loadTablesFrom_tables :
    (s.loadTablesFrom t).tables = { t with limit := max t.limit (s.cover.committed + s.cover.held) } :=
  (evalTime_tables _).trans (configured_tables s t)

theorem loadTablesFrom_intake :
    (s.loadTablesFrom t).intake.clock = s.intake.clock ∧ (s.loadTablesFrom t).intake.enable = s.intake.enable := by
  obtain ⟨x, before⟩ := configured_intake s t
  have evaluated := evalTime_intake (s.configured t)
  rw [before] at evaluated
  rw [loadTablesFrom_eq, evaluated]
  exact ⟨rfl, rfl⟩

/-- The counters are matched to the loaded entries, and a rise of window 0 rolls them over (R79, R146). -/
theorem loadTablesFrom_counts (i : Slot) :
    (s.loadTablesFrom t).counts.get i
      = if (s.loadTablesFrom t).inWindow 0 = true ∧ s.intake.windowMark = false then
          ⟨0, 0, (matchCount (t.depositors.get i) (s.counts.get i)).token⟩
        else matchCount (t.depositors.get i) (s.counts.get i) := by
  obtain ⟨x, before⟩ := configured_intake s t
  have clock : (s.loadTablesFrom t).intake.clock = (s.configured t).intake.clock := by
    rw [before]
    exact (loadTablesFrom_intake s t).1
  have inside : (s.loadTablesFrom t).inWindow 0 = (s.configured t).inWindow 0 :=
    inWindow_congr clock (evalTime_tables _) 0
  have counts : (s.loadTablesFrom t).counts = (s.configured t).evalWindow.counts := evalTime_counts _
  rw [inside, counts, evalWindow_counts_get, (configured_configured s t).counts, loadedTables_counts, before]

theorem loadTablesFrom_timer :
    (s.loadTablesFrom t).office.timer
      = s.office.timer.bind fun x =>
          if t.noticeTime = 0 ∨ x.started + t.noticeTime * 1000 ≤ s.now then none
          else some ⟨x.started, x.started + t.noticeTime * 1000⟩ :=
  ((evalTime_timer _).trans (configured_configured s t).timer).trans (loadedTables_timer s t)

/-- With no drop in flight, no restart changes what is held. -/
theorem loadTablesFrom_cover (none : ∀ h, (s.drop h).inFlight = false) :
    (s.loadTablesFrom t).cover
      = { s.cover with
          near := decide (9 * (s.loadTablesFrom t).tables.limit ≤ 10 * (s.cover.committed + s.cover.held)) } := by
  have grounded : ∀ h, ((s.loadedTables t).drop h).inFlight = false := by
    intro h
    rw [drop, loadedTables_port]
    exact none h
  obtain ⟨cover, -⟩ := (configured_configured s t).grounded grounded
  rw [loadTablesFrom_tables]
  exact ((evalTime_cover _).trans cover).trans (loadedTables_cover s t)

theorem loadTablesFrom_disarmed (h : Hatch) : ((s.loadTablesFrom t).port h).zeroArmed = false := by
  refine (evalTime_port_part Port.zeroArmed (fun _ _ _ => rfl) _ h).trans ?_
  exact (configured_configured s t).disarmed (fun k => by rw [loadedTables_port]) h

theorem loadTablesFrom_rest :
    (s.loadTablesFrom t).journal.epoch = s.journal.epoch ∧ (s.loadTablesFrom t).tableStore = s.tableStore
      ∧ (s.loadTablesFrom t).mapAccess = s.mapAccess := by
  have taken := configured_configured s t
  obtain ⟨-, -, store, journal, -, access⟩ := loadedTables_rest s t
  refine ⟨?_, ?_, ?_⟩
  · exact (congrArg Journal.epoch (evalTime_journal _)).trans (taken.epoch.trans (congrArg Journal.epoch journal))
  · exact ((evalTime_tableStore _).trans taken.tableStore).trans store
  · exact ((evalTime_kept _).mapAccess.trans taken.kept.mapAccess).trans access

/-! ## Each port after the load -/

/-- What concerns hatch `h` alone: before its own configuration is put in force it stands as in `s`, and after it
as it was left. -/
theorem loadTablesFrom_own (h : Hatch) :
    ∃ u : State, u.now = s.now ∧ u.straps = s.straps ∧ u.config h = s.config h ∧ (u.port h).link = (s.port h).link
      ∧ (u.port h).snapshot = (s.port h).snapshot ∧ Aside h (loadConfig t u h) (s.loadTablesFrom t) := by
  obtain ⟨now, straps, -, -, -, -⟩ := loadedTables_rest s t
  obtain ⟨u, taken, before, after⟩ := foldl_loadConfig_aside t h (s.loadedTables t)
  have config : (s.loadedTables t).config h = s.config h := by rw [State.config, loadedTables_tables]; rfl
  have port := loadedTables_port s t h
  refine ⟨u, taken.now.trans now, taken.kept.straps.trans straps, before.config.trans config,
    before.link.trans (by rw [port]), before.snapshot.trans (by rw [port]), after.trans (evalTime_aside h _)⟩

theorem loadTablesFrom_port (h : Hatch) :
    let new := t.configs.get h
    let v := s.loadTablesFrom t
    (new = s.config h → (v.port h).link = (s.port h).link ∧ (v.port h).snapshot = (s.port h).snapshot)
      ∧ (s.straps.hatches < h.num → (v.port h).link = (s.port h).link)
      ∧ (new ≠ s.config h → h.num ≤ s.straps.hatches →
        (v.port h).link = (if new.enable then .holdOff (s.now + 1500) else .disabled)
        ∧ ((s.port h).link = .up →
          v.drop h = .offline ∧ (v.port h).snapshot = none ∧ (v.port h).release = none)) := by
  obtain ⟨u, now, straps, config, link, snapshot, after⟩ := loadTablesFrom_own s t h
  refine ⟨fun same => ?same, fun out => ?out, fun new fits => ?new⟩
  case same =>
    rw [loadConfig_same (same.trans config.symm)] at after
    exact ⟨after.link.trans link, after.snapshot.trans snapshot⟩
  case out =>
    refine after.link.trans (Eq.trans ?_ link)
    by_cases same : t.configs.get h = u.config h
    · rw [loadConfig_same same]
    · rw [loadConfig_new same, applyConfig_unfitted u h _ (by rwa [straps]), takeConfig_link]
  case new =>
    rw [loadConfig_new (by rwa [config])] at after
    obtain ⟨linked, left⟩ := applyConfig_fitted u h (t.configs.get h) (by rwa [straps])
    rw [now] at linked
    refine ⟨after.link.trans linked, fun up => ?_⟩
    obtain ⟨offline, empty, none⟩ := left (link.trans up)
    exact ⟨after.offline offline, after.snapshot.trans empty, after.release.trans none⟩

end

/-! ## The request -/

theorem loadTables_state (s : State) (busy : s.intake.state ≠ .stopped) :
    s.loadTables () = s.answer 0x71 .state [] := if_pos busy

section

variable {s : State}

theorem loadTables_bad (bad : s.tableStore.good = false) (stopped : s.intake.state = .stopped) :
    s.loadTables () = (s.raise .tableStoreBad).answer 0x71 .ok [1] :=
  (if_neg (not_not.2 stopped)).trans (if_neg (Bool.eq_false_iff.1 bad))

theorem loadTables_good (good : s.tableStore.good = true) (stopped : s.intake.state = .stopped) :
    s.loadTables () = (s.loadTablesFrom s.tableStore.tables).answer 0x71 .ok [0] :=
  (if_neg (not_not.2 stopped)).trans (if_pos good)

end

end State

open State in
/-- Settles O44: the load is a change of the tables, then of each port on its own, then the evaluation of time. -/
theorem storeAndLoadTables : Obligations.StoreAndLoadTables := by
  unfold Obligations.StoreAndLoadTables
  refine ⟨fun s ready => ⟨exec_reset_ready ready, exec_storeTables_ready ready⟩,
    fun s copy settled hand => exec_storeTablesDone_storing settled hand,
    fun s settled idle => exec_storeTablesDone_idle settled idle,
    fun s ready busy => exec_request_same rfl ready (loadTables_state s busy),
    fun s ready stopped bad => exec_request_answered rfl ready (loadTables_bad bad stopped) (raise_kept ..),
    fun s ready stopped good => ?_⟩
  obtain ⟨epoch, store, access⟩ := loadTablesFrom_rest s s.tableStore.tables
  obtain ⟨clock, enable⟩ := loadTablesFrom_intake s s.tableStore.tables
  obtain ⟨state, mark⟩ := evalTime_timed (s.configured s.tableStore.tables)
  refine ⟨s.loadTablesFrom s.tableStore.tables,
    exec_request_answered rfl ready (loadTables_good good stopped) (loadTablesFrom_kept s _),
    loadTablesFrom_tables s _, loadTablesFrom_disarmed s _, epoch, store, access, clock, enable, mark, state,
    fun i => ?counts, ?timer, loadTablesFrom_cover s _, loadTablesFrom_port s _⟩
  case counts =>
    rw [loadTablesFrom_counts]
    rfl
  case timer =>
    rw [loadTablesFrom_timer]
    cases s.office.timer <;> rfl

end Sys2Proof.Machine
end

section
/-! SUPPORT. The start-up notice (R172, R181): its causes are INTAKE and what the latched flags show, and what the
flags and the drop counter of the office port go through on the way. -/

namespace Sys2Proof.Machine

open Sys2Proof

/-! ## Sets of causes -/

/-- Every cause of `c` is one of `d`. -/
def CausesWithin (c d : Causes) : Prop := c ||| d = d

namespace CausesWithin

variable {c d e : Causes}

theorem refl (c : Causes) : CausesWithin c c := BitVec.or_self

theorem trans (a : CausesWithin c d) (b : CausesWithin d e) : CausesWithin c e := by
  unfold CausesWithin at a b ⊢
  rw [← b, ← BitVec.or_assoc, a]

theorem or (a : CausesWithin c e) (b : CausesWithin d e) : CausesWithin (c ||| d) e := by
  unfold CausesWithin at a b ⊢
  rw [BitVec.or_assoc, b, a]

theorem left (c d : Causes) : CausesWithin c (c ||| d) := by
  unfold CausesWithin
  rw [← BitVec.or_assoc, BitVec.or_self]

theorem right (c d : Causes) : CausesWithin d (c ||| d) := by
  rw [BitVec.or_comm]
  exact left d c

theorem zero (d : Causes) : CausesWithin 0 d := BitVec.zero_or

/-- Two sets within each other are one. -/
theorem antisymm (a : CausesWithin c d) (b : CausesWithin d c) : c = d := by
  unfold CausesWithin at a b
  rw [← b, BitVec.or_comm, a]

end CausesWithin

/-! ## Flags -/

/-- The set of a flag names no flag at another position. -/
theorem Flag.bit_other (f g : Flag) (apart : f.position ≠ g.position) : f.bit.getLsbD g.position = false := by
  rw [Flag.bit, BitVec.getLsbD_ofNat, Nat.testBit_two_pow_of_ne apart, Bool.and_false]

/-- The class of a flag. -/
def Flag.cls (f : Flag) : FlagSet := if f.isAlarm then alarmSet else attentionSet

theorem Flag.cls_self (f : Flag) : f.cls.getLsbD f.position = true := by cases f <;> rfl

/-- A flag that neither a lost store nor an unexpected drop raises. -/
abbrev Flag.Plain (f : Flag) : Prop := f.position ≠ 17 ∧ f.position ≠ 19 ∧ f.position ≠ 20

namespace State

theorem latch_latched_ne (s : State) {f g : Flag} (apart : f.position ≠ g.position) :
    (s.latch f).latched g = s.latched g := by
  simp [latched, latch, hasFlag, Flag.bit_other f g apart]

theorem trigger_latched (s : State) (c : Cause) (g : Flag) : (s.trigger c).latched g = s.latched g := rfl

theorem raise_latched_ne (s : State) {f g : Flag} (apart : f.position ≠ g.position) :
    (s.raise f).latched g = s.latched g := by
  unfold raise
  split
  · rfl
  · split
    · exact latch_latched_ne s apart
    · exact (trigger_latched ..).trans (latch_latched_ne s apart)

/-- The causes that the latched and unmasked flags show (R181). -/
def flagCauses (s : State) : Causes :=
  (if s.newlyLatched alarmSet then Cause.alarm.bit else 0)
    ||| (if s.newlyLatched attentionSet then Cause.attention.bit else 0)

theorem newlyLatched_iff (s : State) (cls : FlagSet) :
    s.newlyLatched cls = true ↔ s.office.flags &&& ~~~s.tables.alertMask &&& cls ≠ 0 := decide_eq_true_iff

theorem newlyLatched_latch (s : State) (f : Flag) (cls : FlagSet) :
    (s.latch f).newlyLatched cls = true
      ↔ s.newlyLatched cls = true ∨ f.bit &&& ~~~s.tables.alertMask &&& cls ≠ 0 := by
  have split : (s.latch f).office.flags &&& ~~~(s.latch f).tables.alertMask &&& cls
      = (s.office.flags &&& ~~~s.tables.alertMask &&& cls) ||| (f.bit &&& ~~~s.tables.alertMask &&& cls) := by
    rw [← BitVec.and_or_distrib_right, ← BitVec.and_or_distrib_right]
    rfl
  rw [newlyLatched_iff, newlyLatched_iff, split]
  exact (not_congr BitVec.or_eq_zero_iff).trans not_and_or

theorem ite_causesWithin {p q : Bool} (grows : p = true → q = true) (c : Causes) :
    CausesWithin (if p then c else 0) (if q then c else 0) := by
  cases p with
  | false => exact .zero _
  | true =>
    rw [grows rfl]
    exact .refl _

theorem latch_flagCauses (s : State) (f : Flag) : CausesWithin s.flagCauses (s.latch f).flagCauses := by
  have grows (cls : FlagSet) (e : s.newlyLatched cls = true) : (s.latch f).newlyLatched cls = true :=
    (newlyLatched_latch ..).2 (.inl e)
  exact .or ((ite_causesWithin (grows _) _).trans (.left ..)) ((ite_causesWithin (grows _) _).trans (.right ..))

/-- The cause of a flag's own class (R175). -/
def flagCause (f : Flag) : Cause := if f.isAlarm then .alarm else .attention

/-- An unmasked flag that is latched shows its class. -/
theorem latch_shows (s : State) {f : Flag} (unmasked : hasFlag s.tables.alertMask f = false) :
    CausesWithin (flagCause f).bit (s.latch f).flagCauses := by
  have named : f.bit &&& ~~~s.tables.alertMask &&& f.cls ≠ 0 := by
    intro empty
    have bit := congrArg (fun x : FlagSet => x.getLsbD f.position) empty
    have below : f.position < 21 := by cases f <;> decide
    unfold hasFlag at unmasked
    simp only [BitVec.getLsbD_and, BitVec.getLsbD_not, Flag.bit_self, Flag.cls_self, unmasked, below] at bit
    simp at bit
  have shown : (s.latch f).newlyLatched f.cls = true := (newlyLatched_latch ..).2 (.inr named)
  unfold Flag.cls at shown
  unfold flagCause flagCauses
  split
  · next alarm =>
    rw [if_pos alarm] at shown
    rw [shown]
    exact .left ..
  · next attention =>
    rw [if_neg attention] at shown
    rw [shown]
    exact .right ..

/-! ## The pending notice -/

/-- Every cause of the pending notice is INTAKE or shown by the latched flags. -/
def NoticeFits (s : State) : Prop := CausesWithin (s.office.notice.getD 0) (Cause.intake.bit ||| s.flagCauses)

/-- A notice is pending, with cause INTAKE. -/
def NoticeBegun (s : State) : Prop := ∃ c, s.office.notice = some c ∧ CausesWithin Cause.intake.bit c

theorem trigger_fits {s : State} (fits : s.NoticeFits) {c : Cause}
    (known : CausesWithin c.bit (Cause.intake.bit ||| s.flagCauses)) : (s.trigger c).NoticeFits :=
  CausesWithin.or fits known

theorem trigger_begun {s : State} (begun : s.NoticeBegun) (c : Cause) : (s.trigger c).NoticeBegun := by
  obtain ⟨x, pending, intake⟩ := begun
  refine ⟨x ||| c.bit, ?_, intake.trans (.left ..)⟩
  simp [trigger, pending]

theorem latch_fits {s : State} (fits : s.NoticeFits) (f : Flag) : (s.latch f).NoticeFits :=
  CausesWithin.trans fits (.or (.left ..) ((latch_flagCauses s f).trans (.right ..)))

theorem raise_fits {s : State} (fits : s.NoticeFits) (f : Flag) : (s.raise f).NoticeFits := by
  unfold raise
  split
  · exact fits
  · split
    · exact latch_fits fits f
    · next unmasked =>
      exact trigger_fits (latch_fits fits f) ((latch_shows s (Bool.eq_false_iff.2 unmasked)).trans (.right ..))

theorem raise_begun {s : State} (begun : s.NoticeBegun) (f : Flag) : (s.raise f).NoticeBegun := by
  unfold raise
  split
  · exact begun
  · split
    · exact begun
    · exact trigger_begun (s := s.latch f) begun _

/-- The flag of an unexpected drop shows whether any was counted. -/
def DropShown (s : State) : Prop := s.latched .unexpectedDrop = decide (0 < s.office.unexpectedDrops)

end State

/-! ## What the office port goes through -/

/-- From `u` to `v` the office port has counted `pulses` unexpected drops, has latched flags and noted their causes,
and has done nothing else but note INTAKE. -/
structure Reported (pulses : Nat) (u v : State) : Prop where
  mask : v.tables.alertMask = u.tables.alertMask
  count : v.office.count = u.office.count
  timer : v.office.timer = u.office.timer
  lost : v.latched .retainedLost = u.latched .retainedLost
  bad : v.latched .tableStoreBad = u.latched .tableStoreBad
  drops : v.office.unexpectedDrops = bump^[pulses] u.office.unexpectedDrops
  shown : u.DropShown → v.DropShown
  fits : u.NoticeFits → v.NoticeFits
  begun : u.NoticeBegun → v.NoticeBegun

namespace Reported

variable {u v w : State} {p q : Nat}

theorem refl (u : State) : Reported 0 u u := ⟨rfl, rfl, rfl, rfl, rfl, rfl, fun e => e, fun e => e, fun e => e⟩

theorem trans (a : Reported p u v) (b : Reported q v w) : Reported (p + q) u w where
  mask := b.mask.trans a.mask
  count := b.count.trans a.count
  timer := b.timer.trans a.timer
  lost := b.lost.trans a.lost
  bad := b.bad.trans a.bad
  drops := by rw [b.drops, a.drops, ← Function.iterate_add_apply, Nat.add_comm]
  shown e := b.shown (a.shown e)
  fits e := b.fits (a.fits e)
  begun e := b.begun (a.begun e)

theorem ite {c : Prop} [Decidable c] (a : Reported p u v) (b : Reported p u w) :
    Reported p u (if c then v else w) := by
  split <;> assumption

theorem foldl {α : Type} {f : State → α → State} (k : ∀ s a, Reported 0 s (f s a)) :
    ∀ (l : List α) (s : State), Reported 0 s (l.foldl f s)
  | [], s => .refl s
  | a :: l, s => (k s a).trans (foldl k l (f s a))

/-- What leaves the office port and the alert mask alone. -/
theorem ofOffice (office : v.office = u.office) (mask : v.tables.alertMask = u.tables.alertMask) : Reported 0 u v := by
  have causes : v.flagCauses = u.flagCauses := by
    have same (cls : FlagSet) : v.newlyLatched cls = u.newlyLatched cls := by
      rw [Bool.eq_iff_iff, State.newlyLatched_iff, State.newlyLatched_iff, office, mask]
    simp only [State.flagCauses, same]
  constructor
  · exact mask
  all_goals simp only [State.latched, State.DropShown, State.NoticeFits, State.NoticeBegun, causes, office, imp_self,
    Function.iterate_zero, id]

end Reported

namespace State

theorem trigger_intake_reported (u : State) : Reported 0 u (u.trigger .intake) :=
  ⟨rfl, rfl, rfl, rfl, rfl, rfl, fun e => e, fun e => trigger_fits e (.left ..), fun e => trigger_begun e _⟩

theorem raise_reported (u : State) {f : Flag} (plain : f.Plain) : Reported 0 u (u.raise f) where
  mask := by rw [raise_tables]
  count := by rw [raise_office_count]
  timer := by rw [raise_office_timer]
  lost := raise_latched_ne u plain.2.1
  bad := raise_latched_ne u plain.2.2
  drops := by rw [raise_office_unexpectedDrops]; rfl
  shown e := by rwa [DropShown, raise_office_unexpectedDrops, raise_latched_ne u plain.1]
  fits e := raise_fits e f
  begun e := raise_begun e f

theorem latch_reported (u : State) {f : Flag} (plain : f.Plain) : Reported 0 u (u.latch f) where
  mask := rfl
  count := rfl
  timer := rfl
  lost := latch_latched_ne u plain.2.1
  bad := latch_latched_ne u plain.2.2
  drops := rfl
  shown e := (latch_latched_ne u plain.1).trans e
  fits e := latch_fits e f
  begun e := e

theorem unexpectedDrop_reported (u : State) : Reported 1 u u.unexpectedDrop where
  mask := by simp [unexpectedDrop]
  count := by simp [unexpectedDrop]
  timer := by simp [unexpectedDrop]
  lost := raise_latched_ne _ (by decide)
  bad := raise_latched_ne _ (by decide)
  drops := by simp [unexpectedDrop]
  shown _ := by
    have counted : 0 < bump u.office.unexpectedDrops := by
      unfold bump Config.maxCount
      omega
    simp [DropShown, unexpectedDrop, raise_latched, counted]
  fits e := raise_fits (s := u.setOffice { u.office with unexpectedDrops := bump u.office.unexpectedDrops }) e _
  begun e := raise_begun (s := u.setOffice { u.office with unexpectedDrops := bump u.office.unexpectedDrops }) e _

end State

end Sys2Proof.Machine
end

section
/-! SUPPORT. What falls between the phases of start-up (R188, R190; log entry 14): with every machine OFFLINE, no link
UP and no grant, an event moves the clock, counts a drop, homes the carousel or stops it, and leaves all else. -/

namespace Sys2Proof.Machine

open Sys2Proof

/-- The carousel carries no grant and makes no move. -/
def Carousel.free : Carousel → Bool
  | .unhomed => true
  | .homing _ => true
  | .idle => true
  | .haltedHoming => true
  | .fault => true
  | .moving _ _ _ => false
  | .haltedMove _ _ => false
  | .delivering _ _ _ _ => false

/-- No head is linked and the carousel serves none, as throughout a start-up. -/
structure AtRest (s : State) : Prop where
  offline : ∀ h, s.drop h = .offline
  down : ∀ h, (s.port h).link ≠ .up
  carousel : s.store.carousel.free = true

/-- A port but for its aux contact. -/
def Port.apart (p : Port) : Port := { p with surroundLatch := false, contactOpen := false }

/-- From `u` to `v` the clock has advanced `ticks` times and `pulses` unexpected drops were counted; the accounts and
what the stores keep stand, but for the near marks and for the bags and values of the night. -/
structure Stood (ticks pulses : Nat) (u v : State) : Prop where
  kept : Kept u v
  reported : Reported pulses u v
  tables : v.tables = u.tables
  tableStore : v.tableStore = u.tableStore
  cover : { v.cover with near := false } = { u.cover with near := false }
  journal : { v.journal with near := false } = { u.journal with near := false }
  bins : v.store.bins = u.store.bins
  queues : v.store.queues = u.store.queues
  holds : v.store.holds = u.store.holds
  lastGranted : u.store.lastGranted = .h4 → v.store.lastGranted = .h4
  carousel : u.store.carousel.free = true → v.store.carousel.free = true
  tokens : ∀ i, (v.counts.get i).token = (u.counts.get i).token
  clock : v.intake.clock = u.intake.clock.map nextTime^[ticks]
  enable : v.intake.enable = u.intake.enable

/-- The ports too stand, but for their aux contacts, and what intake control holds, but for what a clock advance
evaluates. -/
structure Passed (ticks pulses : Nat) (u v : State) : Prop extends Stood ticks pulses u v where
  ports : ∀ h, (v.port h).apart = (u.port h).apart
  still : ticks = 0 → v.intake = u.intake

variable {s u v w : State} {k l p q : Nat}

namespace Stood

theorem refl (u : State) : Stood 0 0 u u where
  kept := .refl u
  reported := .refl u
  tables := rfl
  tableStore := rfl
  cover := rfl
  journal := rfl
  bins := rfl
  queues := rfl
  holds := rfl
  lastGranted e := e
  carousel e := e
  tokens _ := rfl
  clock := Option.map_id_fun.symm ▸ rfl
  enable := rfl

theorem trans (a : Stood k p u v) (b : Stood l q v w) : Stood (k + l) (p + q) u w where
  kept := a.kept.trans b.kept
  reported := a.reported.trans b.reported
  tables := b.tables.trans a.tables
  tableStore := b.tableStore.trans a.tableStore
  cover := b.cover.trans a.cover
  journal := b.journal.trans a.journal
  bins := b.bins.trans a.bins
  queues := b.queues.trans a.queues
  holds := b.holds.trans a.holds
  lastGranted e := b.lastGranted (a.lastGranted e)
  carousel e := b.carousel (a.carousel e)
  tokens i := (b.tokens i).trans (a.tokens i)
  clock := by rw [b.clock, a.clock, Option.map_map, ← Function.iterate_add, Nat.add_comm]
  enable := b.enable.trans a.enable

end Stood

namespace Passed

theorem refl (u : State) : Passed 0 0 u u := ⟨.refl u, fun _ => rfl, fun _ => rfl⟩

theorem trans (a : Passed k p u v) (b : Passed l q v w) : Passed (k + l) (p + q) u w :=
  ⟨a.toStood.trans b.toStood, fun h => (b.ports h).trans (a.ports h),
    fun e => (b.still (by omega)).trans (a.still (by omega))⟩

theorem ite {c : Prop} [Decidable c] (a : Passed k p u v) (b : Passed k p u w) :
    Passed k p u (if c then v else w) := by
  split <;> assumption

/-- What changes no port. -/
theorem ofPorts (a : Stood k p u v) (e : v.ports = u.ports) (still : k = 0 → v.intake = u.intake) :
    Passed k p u v := ⟨a, fun h => by rw [State.port_of_ports e], still⟩

theorem drop (a : Passed k p u v) (h : Hatch) : v.drop h = u.drop h :=
  (congrArg Port.drop (a.ports h) :)

theorem link (a : Passed k p u v) (h : Hatch) : (v.port h).link = (u.port h).link :=
  (congrArg Port.link (a.ports h) :)

theorem rest (a : Passed k p u v) (rest : AtRest u) : AtRest v where
  offline h := (a.drop h).trans (rest.offline h)
  down h := a.link h ▸ rest.down h
  carousel := a.carousel rest.carousel

end Passed

namespace State

/-! ## Single updates -/

theorem setPorts_stood (u : State) (x : PerHatch Port) : Stood 0 0 u (u.setPorts x) :=
  { Stood.refl u with kept := setPorts_kept .., reported := .ofOffice rfl rfl }

theorem setNow_passed (u : State) (x : Nat) : Passed 0 0 u (u.setNow x) :=
  .ofPorts { Stood.refl u with kept := setNow_kept .., reported := .ofOffice rfl rfl } rfl fun _ => rfl

/-- The office port goes through what `Reported` allows. -/
theorem setOffice_passed {x : Office} (kept : Kept u (u.setOffice x)) (reported : Reported p u (u.setOffice x)) :
    Passed 0 p u (u.setOffice x) :=
  .ofPorts { Stood.refl u with kept := kept, reported := reported } rfl fun _ => rfl

/-- A change of the carousel, of its position or of the door's level. -/
theorem setStore_passed (u : State) {x : Store} (bins : x.bins = u.store.bins) (queues : x.queues = u.store.queues)
    (holds : x.holds = u.store.holds) (lastGranted : u.store.lastGranted = .h4 → x.lastGranted = .h4)
    (carousel : u.store.carousel.free = true → x.carousel.free = true) : Passed 0 0 u (u.setStore x) :=
  .ofPorts
    { Stood.refl u with
      kept := setStore_kept ..
      reported := .ofOffice rfl rfl
      bins := bins
      queues := queues
      holds := holds
      lastGranted := lastGranted
      carousel := carousel } rfl fun _ => rfl

theorem setCarousel_passed (u : State) {c : Carousel} (free : c.free = true) : Passed 0 0 u (u.setCarousel c) :=
  setStore_passed u rfl rfl rfl (fun e => e) fun _ => free

theorem setPosition_passed (u : State) (x : Option BinNo) : Passed 0 0 u (u.setPosition x) :=
  setStore_passed u rfl rfl rfl (fun e => e) fun e => e

theorem setDoor_passed (u : State) (b : Bool) : Passed 0 0 u (u.setDoor b) :=
  setStore_passed u rfl rfl rfl (fun e => e) fun e => e

theorem raise_passed (u : State) {f : Flag} (plain : f.Plain) : Passed 0 0 u (u.raise f) := by
  have kept := raise_kept u f
  have reported := raise_reported u plain
  rw [raise_only_office] at kept reported ⊢
  exact setOffice_passed kept reported

/-- A change at one port of its aux contact alone. -/
theorem modPort_passed (u : State) (h : Hatch) {f : Port → Port} (apart : ∀ x, (f x).apart = x.apart) :
    Passed 0 0 u (u.modPort h f) :=
  ⟨setPorts_stood .., fun k => by
    rw [modPort_port]
    split
    · next own => subst own; exact apart _
    · rfl,
    fun _ => rfl⟩

/-! ## The store lines -/

/-- No hatch is a candidate, so the arbiter grants to none. -/
theorem arbiter_rest (down : ∀ h, (s.port h).link ≠ .up) : s.arbiter = s := by
  unfold arbiter
  split
  · split
    · next h chosen =>
      have candidate := arbiterChoice_candidate s h chosen
      unfold State.candidate at candidate
      simp [down h] at candidate
    · rfl
  · rfl

theorem turned_passed (u : State) : Passed 0 0 u u.turned :=
  ((setPosition_passed u none).trans (setCarousel_passed _ rfl)).trans (raise_passed _ (by decide))

theorem positionEvent_passed (rest : AtRest u) (b : BinNo) : Passed 0 0 u (u.positionEvent b) := by
  have free := rest.carousel
  unfold positionEvent
  cases c : u.store.carousel with
  | unhomed => exact .refl u
  | homing _ => exact setPosition_passed u _
  | haltedHoming => exact setPosition_passed u _
  | idle => exact .ite (.refl u) (turned_passed u)
  | fault => exact .ite (.refl u) (turned_passed u)
  | moving _ _ _ | haltedMove _ _ | delivering _ _ _ _ => rw [c] at free; cases free

theorem homeEvent_passed (rest : AtRest u) : Passed 0 0 u u.homeEvent := by
  have free := rest.carousel
  unfold homeEvent
  cases c : u.store.carousel with
  | homing _ =>
    have homed := (setPosition_passed u (some 0)).trans (setCarousel_passed _ (c := .idle) rfl)
    dsimp only
    unfold enterIdle
    rwa [arbiter_rest (homed.rest rest).down]
  | haltedHoming => exact setPosition_passed u _
  | unhomed | idle | fault => exact .refl u
  | moving _ _ _ | haltedMove _ _ | delivering _ _ _ _ => rw [c] at free; cases free

theorem unexpectedDrop_passed (u : State) : Passed 0 1 u u.unexpectedDrop := by
  have kept : Kept u u.unexpectedDrop := Kept.trans
    (t := u.setOffice { u.office with unexpectedDrops := bump u.office.unexpectedDrops })
    ⟨rfl, rfl, rfl, rfl, rfl, rfl, rfl, rfl⟩ (raise_kept ..)
  have office : u.unexpectedDrop = u.setOffice u.unexpectedDrop.office := by
    unfold unexpectedDrop
    rw [raise_only_office]
    rfl
  have reported := unexpectedDrop_reported u
  rw [office] at kept reported ⊢
  exact setOffice_passed kept reported

theorem dropEvent_passed (rest : AtRest u) : Passed 0 1 u u.dropEvent := by
  have free := rest.carousel
  unfold dropEvent
  cases c : u.store.carousel with
  | unhomed | homing _ | idle | haltedHoming | fault => exact unexpectedDrop_passed u
  | moving _ _ _ | haltedMove _ _ | delivering _ _ _ _ => rw [c] at free; cases free

theorem doorOpensEvent_passed (rest : AtRest u) : Passed 0 0 u u.doorOpensEvent := by
  have free := rest.carousel
  have halted : Passed 0 0 (u.setDoor true) (u.setDoor true).haltCarousel := by
    unfold haltCarousel
    split
    · exact setCarousel_passed _ rfl
    · next c => rw [show u.store.carousel = _ from c] at free; cases free
    · exact .refl _
  have alarmed (x : State) : Passed 0 0 x x.doorAlarm := .ite (raise_passed x (by decide)) (.refl x)
  exact .ite (.refl u) (((setDoor_passed u true).trans halted).trans (alarmed _))

theorem doorClosesEvent_passed (rest : AtRest u) : Passed 0 0 u u.doorClosesEvent := by
  have free := rest.carousel
  have resumed : Passed 0 0 (u.setDoor false) (u.setDoor false).resumeCarousel := by
    unfold resumeCarousel
    split
    · exact setCarousel_passed _ rfl
    · next c => rw [show u.store.carousel = _ from c] at free; cases free
    · rw [arbiter_rest (s := u.setDoor false) rest.down]
      exact .refl _
    · exact .refl _
  exact .ite ((setDoor_passed u false).trans resumed) (.refl u)

theorem homingExpiry_passed (u : State) : Passed 0 0 u u.homingExpiry := by
  unfold homingExpiry
  split
  · exact (((setNow_passed u _).trans (setPosition_passed _ none)).trans (setCarousel_passed _ rfl)).trans
      (raise_passed _ (by decide))
  · exact .refl u

/-! ## Aux contacts -/

theorem setContact_passed (u : State) (h : Hatch) (b : Bool) : Passed 0 0 u (u.setContact h b) :=
  modPort_passed u h fun _ => rfl

theorem latchSurround_passed (u : State) (h : Hatch) : Passed 0 0 u (u.latchSurround h) :=
  .ite (modPort_passed u h fun _ => rfl) (.refl u)

theorem surroundEvent_passed (u : State) (h : Hatch) (b : Bool) : Passed 0 0 u (u.surroundEvent h b) :=
  .ite ((setContact_passed u h true).trans (latchSurround_passed _ h)) (setContact_passed u h b)

/-! ## The clock -/

/-- With every machine OFFLINE nothing waits to be cancelled. -/
theorem cancelAwaiting_offline (offline : ∀ h, s.drop h = .offline) (l : List Hatch) :
    l.foldl cancelAwaiting s = s := by
  induction l with
  | nil => rfl
  | cons h l ih =>
    have same : s.cancelAwaiting h = s := by simp [cancelAwaiting, offline h]
    rw [List.foldl_cons, same, ih]

theorem evalIntake_offline (offline : ∀ h, s.drop h = .offline) :
    s.evalIntake
      = if s.intakeTarget = s.intake.state then s
        else (s.setIntake { s.intake with state := s.intakeTarget }).trigger .intake := by
  unfold evalIntake
  dsimp only
  rw [cancelAwaiting_offline (s := (s.setIntake { s.intake with state := s.intakeTarget }).trigger .intake) offline,
    ite_self]

theorem advanceClock_stood (u : State) {t : ClockTime} (set : u.intake.clock = some t) :
    Stood 1 0 u (u.advanceClock t) :=
  { Stood.refl u with
    kept := advanceClock_kept u t
    reported := .ofOffice rfl rfl
    clock := by rw [set]; rfl }

theorem evalWindow_offline (offline : ∀ h, v.drop h = .offline) (h : Hatch) : v.evalWindow.drop h = .offline :=
  (drop_of_ports (evalWindow_ports v) h).trans (offline h)

/-- An evaluation of time leaves the clock and the enable. -/
theorem evalTime_stood (offline : ∀ h, v.drop h = .offline) (a : Stood 1 p u v) : Stood 1 p u v.evalTime := by
  have offline' := evalWindow_offline offline
  have window : Reported 0 v v.evalWindow := .ofOffice (evalWindow_office v) (by rw [evalWindow_tables])
  have intake : Reported 0 v.evalWindow v.evalWindow.evalIntake := by
    rw [evalIntake_offline offline']
    have found : Reported 0 v.evalWindow
        (v.evalWindow.setIntake { v.evalWindow.intake with state := v.evalWindow.intakeTarget }) := .ofOffice rfl rfl
    exact .ite (.refl _) (found.trans (trigger_intake_reported _))
  exact
    { kept := a.kept.trans (evalTime_kept v)
      reported := a.reported.trans (window.trans intake)
      tables := (evalTime_tables v).trans a.tables
      tableStore := (evalTime_tableStore v).trans a.tableStore
      cover := by rw [evalTime_cover, a.cover]
      journal := by rw [evalTime_journal, a.journal]
      bins := (congrArg Store.bins (evalTime_store v)).trans a.bins
      queues := (congrArg Store.queues (evalTime_store v)).trans a.queues
      holds := (congrArg Store.holds (evalTime_store v)).trans a.holds
      lastGranted := fun e => (congrArg Store.lastGranted (evalTime_store v)).trans (a.lastGranted e)
      carousel := fun e => (congrArg (fun x : Store => x.carousel.free) (evalTime_store v)).trans (a.carousel e)
      tokens := fun i => by rw [evalTime_counts, evalWindow_token, a.tokens]
      clock := by rw [evalTime_intake]; exact a.clock
      enable := by rw [evalTime_intake]; exact a.enable }

theorem evalTime_ports_offline (offline : ∀ h, v.drop h = .offline) : v.evalTime.ports = v.ports := by
  unfold evalTime
  rw [evalIntake_offline (evalWindow_offline offline)]
  split
  · exact evalWindow_ports v
  · exact evalWindow_ports v

theorem startAdvance_passed (rest : AtRest u) (n : Nat) : Passed 1 0 u (u.startAdvance n) := by
  unfold startAdvance
  cases set : u.intake.clock with
  | none =>
    exact .ofPorts { Stood.refl u with clock := by rw [set]; rfl } rfl fun e => absurd e (by decide)
  | some t =>
    have advanced := advanceClock_stood u set
    have offline : ∀ h, (u.advanceClock t).drop h = .offline := rest.offline
    have ticked {q : Prop} (e : 1 = 0) : q := absurd e (by decide)
    exact .ite (.ofPorts (evalTime_stood offline advanced) (evalTime_ports_offline offline) ticked)
      (.ofPorts advanced rfl ticked)

/-! ## Every event -/

end State

/-- How often an event advances the clock. -/
def eventTicks (e : StartEvent) : Nat := if e = .clockAdvance then 1 else 0

/-- How many drop pulses an event after phase `n` brings that are taken. -/
def eventPulses (n : Nat) (e : StartEvent) : Nat := if 5 ≤ n ∧ e = .dropPulse then 1 else 0

/-- An event that is neither a clock advance nor a drop pulse. -/
theorem Passed.ofSilent {n : Nat} {e : StartEvent} (noAdvance : e ≠ .clockAdvance) (noPulse : e ≠ .dropPulse)
    (passed : Passed 0 0 u v) : Passed (eventTicks e) (eventPulses n e) u v := by
  have ticks : eventTicks e = 0 := if_neg noAdvance
  have pulses : eventPulses n e = 0 := if_neg fun both => noPulse both.2
  rwa [ticks, pulses]

namespace State

theorem startEvent_passed (n : Nat) (rest : AtRest u) (e : StartEvent) :
    Passed (eventTicks e) (eventPulses n e) u (u.startEvent n e) := by
  cases e with
  | clockAdvance =>
    have none : eventPulses n .clockAdvance = 0 := if_neg fun both => by cases both.2
    exact none ▸ startAdvance_passed rest n
  | dropPulse =>
    by_cases late : 5 ≤ n
    · have one : eventPulses n .dropPulse = 1 := if_pos ⟨late, rfl⟩
      have taken : u.startEvent n .dropPulse = u.dropEvent := if_pos late
      exact one ▸ taken ▸ dropEvent_passed rest
    · have none : eventPulses n .dropPulse = 0 := if_neg fun both => late both.1
      have missed : u.startEvent n .dropPulse = u := if_neg late
      rw [none, missed]
      exact .refl u
  | atPosition b => exact .ofSilent (by simp) (by simp) (.ite (positionEvent_passed rest b) (.refl u))
  | home => exact .ofSilent (by simp) (by simp) (.ite (homeEvent_passed rest) (.refl u))
  | doorOpens => exact .ofSilent (by simp) (by simp) (.ite (doorOpensEvent_passed rest) (setDoor_passed u true))
  | doorCloses => exact .ofSilent (by simp) (by simp) (.ite (doorClosesEvent_passed rest) (setDoor_passed u false))
  | homingTimeout => exact .ofSilent (by simp) (by simp) (.ite (homingExpiry_passed u) (.refl u))
  | contact h b => exact .ofSilent (by simp) (by simp) (.ite (surroundEvent_passed u h b) (setContact_passed u h b))

end State

/-- How often the events after phase `n` advance the clock. -/
def ticksAfter (a : StartUpArgs) (n : Nat) : Nat := ((eventsAfter a n).map eventTicks).sum

/-- How many drop pulses among the events after phase `n` are taken. -/
def pulsesAfter (a : StartUpArgs) (n : Nat) : Nat := ((eventsAfter a n).map (eventPulses n)).sum

namespace State

theorem foldl_startEvent_passed (n : Nat) (l : List StartEvent) (rest : AtRest u) :
    Passed (l.map eventTicks).sum (l.map (eventPulses n)).sum u (l.foldl (startEvent n) u) := by
  induction l generalizing u with
  | nil => exact .refl u
  | cons e l ih =>
    have first := startEvent_passed n rest e
    simp only [List.map_cons, List.sum_cons]
    exact first.trans (ih (first.rest rest))

theorem between_passed (a : StartUpArgs) (n : Nat) (rest : AtRest u) :
    Passed (ticksAfter a n) (pulsesAfter a n) u (u.between a n) := foldl_startEvent_passed n _ rest

/-- Before phase 4 an event leaves the office port alone. -/
theorem startEvent_office {n : Nat} (early : n < 4) (u : State) (e : StartEvent) :
    (u.startEvent n e).office = u.office := by
  have early5 : ¬5 ≤ n := by omega
  have early6 : ¬6 ≤ n := by omega
  have early4 : ¬4 ≤ n := by omega
  cases e with
  | clockAdvance =>
    simp only [startEvent, startAdvance, early4, if_false]
    split <;> rfl
  | atPosition _ | home | dropPulse | doorOpens | doorCloses | homingTimeout => simp [startEvent, early5, setDoor]
  | contact _ _ => simp [startEvent, early6, setContact, modPort]

theorem between_office {n : Nat} (early : n < 4) (u : State) (a : StartUpArgs) : (u.between a n).office = u.office := by
  unfold between
  induction eventsAfter a n generalizing u with
  | nil => rfl
  | cons e l ih => exact (ih _).trans (startEvent_office early u e)

/-- With no event, nothing happens between the phases. -/
theorem between_nothing {a : StartUpArgs} (nothing : a.during = []) (u : State) (n : Nat) : u.between a n = u := by
  simp [between, eventsAfter, nothing]

end State

/-! ## Counting -/

theorem ticksAfter_eq (a : StartUpArgs) (n : Nat) :
    ticksAfter a n = a.during.countP fun e => decide (e.1 = n ∧ e.2 = .clockAdvance) := by
  unfold ticksAfter eventsAfter
  induction a.during with
  | nil => rfl
  | cons e l ih =>
    simp only [List.countP_cons, ← ih, List.filter_cons]
    by_cases own : e.1 = n <;> simp [own, eventTicks, Nat.add_comm]

theorem pulsesAfter_early (a : StartUpArgs) {n : Nat} (early : n < 5) : pulsesAfter a n = 0 := by
  have none (e : StartEvent) : eventPulses n e = 0 := if_neg fun both => by omega
  simp [pulsesAfter, funext none]

theorem pulsesAfter_late (a : StartUpArgs) {n : Nat} (late : 5 ≤ n) :
    pulsesAfter a n = a.during.countP fun e => decide (e.1 = n ∧ e.2 = .dropPulse) := by
  unfold pulsesAfter eventsAfter
  induction a.during with
  | nil => rfl
  | cons e l ih =>
    simp only [List.countP_cons, ← ih, List.filter_cons]
    by_cases own : e.1 = n <;> simp [own, late, eventPulses, Nat.add_comm]

/-- Every clock advance of phases 1 to 6 falls after one of them. -/
theorem ticksAfter_total (a : StartUpArgs) :
    ticksAfter a 1 + ticksAfter a 2 + ticksAfter a 3 + ticksAfter a 4 + ticksAfter a 5 + ticksAfter a 6
      = (a.during.filter fun e => decide (1 ≤ e.1 ∧ e.1 ≤ 6 ∧ e.2 = .clockAdvance)).length := by
  simp only [ticksAfter_eq, ← List.countP_eq_length_filter]
  induction a.during with
  | nil => rfl
  | cons e l ih =>
    simp only [List.countP_cons, ← ih]
    by_cases kind : e.2 = .clockAdvance
    · simp only [kind, and_true, decide_eq_true_eq]
      split_ifs <;> omega
    · simp [kind]

/-- Every drop pulse that is taken falls after phase 5 or 6. -/
theorem pulsesAfter_total (a : StartUpArgs) :
    pulsesAfter a 5 + pulsesAfter a 6
      = (a.during.filter fun e => decide (5 ≤ e.1 ∧ e.1 ≤ 6 ∧ e.2 = .dropPulse)).length := by
  simp only [pulsesAfter_late a (le_refl 5), pulsesAfter_late a (n := 6) (by decide), ← List.countP_eq_length_filter]
  induction a.during with
  | nil => rfl
  | cons e l ih =>
    simp only [List.countP_cons, ← ih]
    by_cases kind : e.2 = .dropPulse
    · simp only [kind, and_true, decide_eq_true_eq]
      split_ifs <;> omega
    · simp [kind]

theorem iterate_bump (k : Nat) : bump^[k] 0 = min k 65535 := by
  induction k with
  | zero => rfl
  | succ k ih =>
    rw [Function.iterate_succ_apply', ih]
    unfold bump Config.maxCount
    omega

/-- A time of the week in seconds. -/
def weekSeconds (c : ClockTime) : Nat := c.day.val * 86400 + c.sec.val

theorem nextTime_seconds (c : ClockTime) : weekSeconds (nextTime c) = (weekSeconds c + 1) % 604800 := by
  obtain ⟨day, sec⟩ := c
  unfold nextTime weekSeconds
  split
  · next same =>
    dsimp only at same ⊢
    omega
  · next midnight =>
    have next : (day + 1).val = (day.val + 1) % 7 := Fin.val_add day 1
    dsimp only at midnight ⊢
    rw [next]
    omega

theorem iterate_nextTime_seconds (k : Nat) (c : ClockTime) :
    weekSeconds (nextTime^[k] c) = (weekSeconds c + k) % 604800 := by
  induction k with
  | zero =>
    have week : weekSeconds c < 604800 := by
      unfold weekSeconds
      omega
    rw [Function.iterate_zero, id, Nat.add_zero, Nat.mod_eq_of_lt week]
  | succ k ih => rw [Function.iterate_succ_apply', nextTime_seconds, ih]; omega

end Sys2Proof.Machine
end

section
/-! SUPPORT. What start-up finds in the retained store and in the table store, and its phases 1 to 3 (R188, R189): the
retained store stands or is set afresh, and the working tables are loaded. -/

namespace Sys2Proof.Machine

open Sys2Proof

/-- What the retained store holds, but for the night's counters and the mark of window 0. -/
structure Retained where
  entries : List Entry
  next : Nat
  last : Nat
  committed : Nat
  bins : Tab Bin 30
  queues : PerHatch (List Nat)
  clock : Option ClockTime
  enable : Bool

/-- The clock has advanced `k` times. -/
def Retained.ticked (r : Retained) (k : Nat) : Retained := { r with clock := r.clock.map nextTime^[k] }

/-- A retained store set afresh (R188). -/
def Retained.afresh : Retained := ⟨[], 1, 0, 0, Tab.fill 30 Bin.lost, PerHatch.all [], none, false⟩

theorem Retained.ticked_ticked (r : Retained) (k l : Nat) : (r.ticked k).ticked l = r.ticked (k + l) := by
  unfold ticked
  rw [Option.map_map, ← Function.iterate_add, Nat.add_comm]

/-- What stands in the retained store of a state. -/
def State.retained (u : State) : Retained where
  entries := u.journal.entries
  next := u.journal.next
  last := u.journal.last
  committed := u.cover.committed
  bins := u.store.bins
  queues := u.store.queues
  clock := u.intake.clock
  enable := u.intake.enable

/-- A start-up on its way: the controller runs with its straps latched, the table store holds `store` and the retained
store `r`; nothing is in hand or in transmission, and nothing is held. -/
structure Standing (straps : Straps) (store : TableStore) (r : Retained) (u : State) : Prop where
  running : u.running = true
  straps : u.straps = straps
  hand : u.office.hand = none
  replies : u.office.replies = []
  transmitter : u.office.transmitter = none
  tableStore : u.tableStore = store
  retained : u.retained = r
  held : u.cover.held = 0
  slotHolds : u.journal.slotHolds = 0
  holds : u.store.holds = 0
  rest : AtRest u

variable {s u v : State} {a : StartUpArgs} {straps : Straps} {store : TableStore} {r : Retained} {k p q : Nat}

theorem Stood.retained (stood : Stood k p u v) : v.retained = u.retained.ticked k := by
  have entries := congrArg Journal.entries stood.journal
  have next := congrArg Journal.next stood.journal
  have last := congrArg Journal.last stood.journal
  have committed := congrArg Cover.committed stood.cover
  dsimp only at entries next last committed
  simp only [State.retained, Retained.ticked, entries, next, last, committed, stood.bins, stood.queues, stood.clock,
    stood.enable]

theorem AtRest.of_parts (rest : AtRest u) (ports : v.ports = u.ports) (carousel : v.store.carousel = u.store.carousel) :
    AtRest v where
  offline h := (State.drop_of_ports ports h).trans (rest.offline h)
  down h := State.port_of_ports ports h ▸ rest.down h
  carousel := carousel ▸ rest.carousel

theorem Standing.kept (standing : Standing straps store r u) (kept : Kept u v) {y : TableStore}
    (tableStore : v.tableStore = y) {x : Retained} (retained : v.retained = x) (held : v.cover.held = 0)
    (slotHolds : v.journal.slotHolds = 0) (holds : v.store.holds = 0) (rest : AtRest v) : Standing straps y x v where
  running := by
    have runs := standing.running
    unfold State.running at runs ⊢
    rwa [kept.mainsGood, kept.resetReleased]
  straps := kept.straps.trans standing.straps
  hand := kept.hand.trans standing.hand
  replies := kept.replies.trans standing.replies
  transmitter := kept.transmitter.trans standing.transmitter
  tableStore := tableStore
  retained := retained
  held := held
  slotHolds := slotHolds
  holds := holds
  rest := rest

theorem Standing.stood (standing : Standing straps store r u) (stood : Stood k p u v) (rest : AtRest v) :
    Standing straps store (r.ticked k) v :=
  standing.kept stood.kept (stood.tableStore.trans standing.tableStore)
    (stood.retained.trans (by rw [standing.retained]))
    ((congrArg Cover.held stood.cover).trans standing.held)
    ((congrArg Journal.slotHolds stood.journal).trans standing.slotHolds) (stood.holds.trans standing.holds) rest

theorem Standing.between (standing : Standing straps store r u) (n : Nat) :
    Standing straps store (r.ticked (ticksAfter a n)) (u.between a n) :=
  have passed := State.between_passed a n standing.rest
  standing.stood passed.toStood (passed.rest standing.rest)

/-! ## What the stores give -/

/-- The table store can be loaded: it is good, and no STORE_TABLES was cut short. -/
def storeGood (s : State) : Bool := s.tableStore.good && !s.storing

/-- The tables that start-up loads. -/
def storedTables (s : State) : Tables := if storeGood s then s.tableStore.tables else Tables.defaults

/-- What start-up finds in the retained store. -/
def foundRetained (a : StartUpArgs) (s : State) : Retained := if a.retainedIntact = false then .afresh else s.retained

/-- The night count of a slot that start-up finds. -/
def foundCount (a : StartUpArgs) (s : State) (i : Slot) : NightCount :=
  if a.retainedIntact = false then ⟨0, 0, none⟩ else s.counts.get i

/-- The epoch that start-up comes to. -/
def startEpoch (a : StartUpArgs) (s : State) : Nat :=
  if storeGood s then if a.retainedIntact = false then (s.tableStore.epoch + 1) % 65536 else s.tableStore.epoch
  else if a.retainedIntact = false then 1 else 0

/-- The table store as an outage leaves it. -/
def cutStore (s : State) : TableStore := { s.tableStore with good := storeGood s, writing := false }

/-- The table store as start-up leaves it. -/
def startStore (a : StartUpArgs) (s : State) : TableStore :=
  { cutStore s with epoch := if storeGood s then startEpoch a s else s.tableStore.epoch }

/-- The tables are loaded, and the office port has counted `pulses` unexpected drops since phase 1. -/
structure Loaded (a : StartUpArgs) (s : State) (pulses : Nat) (u : State) : Prop where
  tables : u.tables = { storedTables s with limit := max (storedTables s).limit (foundRetained a s).committed }
  epoch : u.journal.epoch = startEpoch a s
  tokens : ∀ i,
    (u.counts.get i).token = (matchCount ((storedTables s).depositors.get i) (foundCount a s i)).token
  mapAccess : u.mapAccess = MapAccess.whole
  count : u.office.count = 0
  timer : u.office.timer = none
  lost : u.latched .retainedLost = decide (a.retainedIntact = false)
  bad : u.latched .tableStoreBad = !storeGood s
  drops : u.office.unexpectedDrops = bump^[pulses] 0
  shown : u.DropShown
  fits : u.NoticeFits

theorem Loaded.reported (loaded : Loaded a s p u) (reported : Reported q u v) (tables : v.tables = u.tables)
    (epoch : v.journal.epoch = u.journal.epoch) (tokens : ∀ i, (v.counts.get i).token = (u.counts.get i).token)
    (mapAccess : v.mapAccess = u.mapAccess) : Loaded a s (p + q) v where
  tables := tables.trans loaded.tables
  epoch := epoch.trans loaded.epoch
  tokens i := (tokens i).trans (loaded.tokens i)
  mapAccess := mapAccess.trans loaded.mapAccess
  count := reported.count.trans loaded.count
  timer := reported.timer.trans loaded.timer
  lost := reported.lost.trans loaded.lost
  bad := reported.bad.trans loaded.bad
  drops := by rw [reported.drops, loaded.drops, ← Function.iterate_add_apply, Nat.add_comm]
  shown := reported.shown loaded.shown
  fits := reported.fits loaded.fits

theorem Loaded.stood (loaded : Loaded a s p u) (stood : Stood k q u v) : Loaded a s (p + q) v :=
  loaded.reported stood.reported stood.tables (congrArg Journal.epoch stood.journal :) stood.tokens stood.kept.mapAccess

namespace State

/-! ## The outage and phase 1 -/

theorem outage_port (s : State) (b : Bool) (h : Hatch) : (s.outage b).port h = (s.port h).silence := by
  cases h <;> rfl

theorem outage_tableStore (s : State) : (s.outage false).tableStore = cutStore s := by
  simp [outage, dropHolds, cutWrites, cutStore, storeGood]

theorem outage_retained (s : State) : (s.outage false).powered.retained = s.retained := by
  unfold retained
  rfl

theorem outage_standing (s : State) :
    Standing s.straps (cutStore s) s.retained (s.outage false).powered where
  running := rfl
  straps := by simp [powered, outage, dropHolds, cutWrites]
  hand := rfl
  replies := rfl
  transmitter := rfl
  tableStore := outage_tableStore s
  retained := outage_retained s
  held := rfl
  slotHolds := rfl
  holds := rfl
  rest :=
    { offline := fun h => congrArg Port.drop (outage_port s false h)
      down := fun h => by
        have port : (s.outage false).powered.port h = (s.port h).silence := outage_port s false h
        rw [port]
        exact LinkState.noConfusion
      carousel := rfl }

theorem phase1_standing (standing : Standing straps store r u) (a : StartUpArgs) :
    Standing ⟨a.hatches, a.rate⟩ store r (u.phase1 a) where
  running := standing.running
  straps := rfl
  hand := standing.hand
  replies := rfl
  transmitter := standing.transmitter
  tableStore := standing.tableStore
  retained := standing.retained
  held := standing.held
  slotHolds := standing.slotHolds
  holds := standing.holds
  rest :=
    { offline := fun h => (clearOffice_drop u h).trans (standing.rest.offline h)
      down := fun h => by
        have port : (u.phase1 a).port h = (u.port h).clearCounters := clearOffice_port u h
        rw [port]
        exact standing.rest.down h
      carousel := standing.rest.carousel }

/-- The office port after phase 1 but for the flags of the two stores. -/
structure Unreported (lost : Bool) (u : State) : Prop where
  notice : u.office.notice = none
  count : u.office.count = 0
  timer : u.office.timer = none
  drops : u.office.unexpectedDrops = 0
  drop : u.latched .unexpectedDrop = false
  bad : u.latched .tableStoreBad = false
  lost : u.latched .retainedLost = lost

theorem Unreported.of_office {b : Bool} (clear : Unreported b u) (office : v.office = u.office) : Unreported b v := by
  obtain ⟨notice, count, timer, drops, drop, bad, lost⟩ := clear
  unfold latched at drop bad lost
  constructor <;> simp only [latched, office] <;> assumption

theorem phase1_unreported (u : State) (a : StartUpArgs) : Unreported false (u.phase1 a) := by
  constructor <;> simp [phase1, clearOffice, clearCounters, latched, hasFlag]

/-! ## Phase 2 -/

/-- The epoch write of a lost retained store, which waits for no STORE_TABLES (R183, R188). -/
theorem advanceEpoch_eq (idle : u.office.hand = none) :
    u.advanceEpoch
      = (u.setJournal { u.journal with epoch := (u.tableStore.epoch + 1) % 65536 }).setTableStore
          { u.tableStore with
            epoch := if u.tableStore.good then (u.tableStore.epoch + 1) % 65536 else u.tableStore.epoch } := by
  unfold advanceEpoch epochWrite
  cases good : u.tableStore.good with
  | false =>
    simp only [setJournal, good, Bool.false_and, Bool.false_eq_true, if_false, setTableStore]
    rw [← good]
  | true => simp [setJournal, setTableStore, storing, idle, good]

/-- The table store after phase 2. -/
theorem cutStore_advanced (lost : a.retainedIntact = false) :
    { cutStore s with
      epoch := if (cutStore s).good then ((cutStore s).epoch + 1) % 65536 else (cutStore s).epoch }
      = startStore a s := by
  unfold startStore startEpoch cutStore
  cases storeGood s <;> simp [lost]

theorem startStore_intact (intact : a.retainedIntact ≠ false) : cutStore s = startStore a s := by
  unfold startStore startEpoch cutStore
  cases storeGood s <;> simp [intact]

theorem loseRetained_tableStore (u : State) : u.loseRetained.tableStore = u.tableStore := by
  simp [loseRetained, freshRetained, latch]

theorem loseRetained_ports (u : State) : u.loseRetained.ports = u.ports := by
  simp [loseRetained, freshRetained, latch]

theorem phase2_standing (standing : Standing straps (cutStore s) (s.retained.ticked k) u) (a : StartUpArgs) :
    Standing straps (startStore a s) ((foundRetained a s).ticked k) (u.phase2 a) := by
  have kept := phase2_kept u a
  unfold foundRetained
  by_cases lost : a.retainedIntact = false
  · have eq : u.phase2 a = u.loseRetained.advanceEpoch := by simp [phase2, lost]
    have tableStore : u.loseRetained.tableStore = cutStore s := (loseRetained_tableStore u).trans standing.tableStore
    rw [eq, advanceEpoch_eq (u := u.loseRetained) standing.hand, tableStore, cutStore_advanced lost] at kept ⊢
    rw [if_pos lost]
    have afresh : (u.loseRetained).retained = Retained.afresh := rfl
    exact standing.kept kept rfl afresh standing.held standing.slotHolds standing.holds
      (standing.rest.of_parts (loseRetained_ports u) rfl)
  · have eq : u.phase2 a = u := by simp [phase2, lost]
    rwa [eq, if_neg lost, ← startStore_intact lost]

theorem phase2_unreported (clear : Unreported false u) (a : StartUpArgs) :
    Unreported (decide (a.retainedIntact = false)) (u.phase2 a) := by
  by_cases lost : a.retainedIntact = false
  · have eq : (u.phase2 a).office = (u.latch .retainedLost).office := by
      simp [phase2, lost, loseRetained, advanceEpoch, freshRetained]
    refine Unreported.of_office ?_ eq
    rw [decide_eq_true lost]
    exact ⟨clear.notice, clear.count, clear.timer, clear.drops, (latch_latched_ne u (by decide)).trans clear.drop,
      (latch_latched_ne u (by decide)).trans clear.bad, latch_latched u _⟩
  · have eq : u.phase2 a = u := by simp [phase2, lost]
    rwa [eq, decide_eq_false lost]

/-- Phase 2 keeps the tokens of an intact retained store, and has none after a lost one. -/
theorem phase2_token (tokens : ∀ i, (u.counts.get i).token = (s.counts.get i).token) (a : StartUpArgs) (i : Slot) :
    ((u.phase2 a).counts.get i).token = (foundCount a s i).token := by
  unfold foundCount
  by_cases lost : a.retainedIntact = false
  · have counts : (u.phase2 a).counts = Tab.fill 512 ⟨0, 0, none⟩ := by
      simp [phase2, lost, loseRetained, advanceEpoch, freshRetained]
    rw [counts, Tab.get_fill, if_pos lost]
  · have eq : u.phase2 a = u := by simp [phase2, lost]
    rw [eq, if_neg lost, tokens]

end State

end Sys2Proof.Machine
end

section
/-! SUPPORT. Phases 3 and 4 of start-up (R189, R190): the working tables are loaded, what was in the chute is stranded,
and window 0, the intake state and the near marks are evaluated. -/

namespace Sys2Proof.Machine

open Sys2Proof

variable {s u v w : State} {a : StartUpArgs} {straps : Straps} {store : TableStore} {r : Retained} {k p : Nat}

theorem Retained.ticked_zero (r : Retained) : r.ticked 0 = r := by
  simp [ticked]

/-- What leaves the clock. -/
theorem Standing.still (standing : Standing straps store r u) (stood : Stood 0 p u v) (rest : AtRest v) :
    Standing straps store r v := r.ticked_zero ▸ standing.stood stood rest

theorem Stood.ite {c : Prop} [Decidable c] (x : Stood k p u v) (y : Stood k p u w) :
    Stood k p u (if c then v else w) := by
  split <;> assumption

theorem Stood.foldl {α : Type} {f : State → α → State} (one : ∀ x y, Stood 0 0 x (f x y)) (l : List α) (x : State) :
    Stood 0 0 x (l.foldl f x) := by
  induction l generalizing x with
  | nil => exact .refl x
  | cons y l ih => exact (one x y).trans (ih _)

namespace State

/-! ## Phase 3 -/

/-- Phase 3 but for the marks of zero capture: the tables are loaded and the map's access
is whole. -/
def loadedAtStart (u : State) (a : StartUpArgs) : State :=
  ((u.loadStored.setJournal { u.loadStored.journal with epoch := u.loadedEpoch a }).clampLimit.matchCounts)
    |>.resetMapAccess

theorem phase3_eq (u : State) (a : StartUpArgs) : u.phase3 a = (u.loadedAtStart a).disarmAll := rfl

/-- Loading the stored tables changes the tables and, where the store is bad, latches its flag. -/
theorem loadStored_eq (u : State) :
    u.loadStored
      = (if u.tableStore.good then u else u.latch .tableStoreBad).setTables
          (if u.tableStore.good then u.tableStore.tables else Tables.defaults) := by
  unfold loadStored
  split <;> rfl

theorem loadedAtStart_rest (u : State) (a : StartUpArgs) :
    (u.loadedAtStart a).running = u.running ∧ (u.loadedAtStart a).straps = u.straps
      ∧ (u.loadedAtStart a).tableStore = u.tableStore ∧ (u.loadedAtStart a).cover = u.cover
      ∧ (u.loadedAtStart a).store = u.store ∧ (u.loadedAtStart a).intake = u.intake
      ∧ (u.loadedAtStart a).ports = u.ports ∧ (u.loadedAtStart a).now = u.now := by
  unfold loadedAtStart
  rw [loadStored_eq]
  split <;> simp [resetMapAccess, matchCounts, clampLimit, running, latch]

theorem loadedAtStart_office (u : State) (a : StartUpArgs) :
    (u.loadedAtStart a).office = (if u.tableStore.good then u else u.latch .tableStoreBad).office := by
  unfold loadedAtStart
  rw [loadStored_eq]
  rfl

theorem loadedAtStart_journal (u : State) (a : StartUpArgs) :
    (u.loadedAtStart a).journal = { u.journal with epoch := u.loadedEpoch a } := by
  unfold loadedAtStart
  rw [loadStored_eq]
  split <;> rfl

theorem loadedAtStart_counts (u : State) (a : StartUpArgs) (i : Slot) :
    (u.loadedAtStart a).counts.get i
      = matchCount ((if u.tableStore.good then u.tableStore.tables else Tables.defaults).depositors.get i)
          (u.counts.get i) := by
  unfold loadedAtStart
  rw [loadStored_eq]
  simp only [resetMapAccess, setMapAccess_counts, matchCounts_get]
  split <;> rfl

theorem loadedAtStart_tables (u : State) (a : StartUpArgs) :
    (u.loadedAtStart a).tables
      = { (if u.tableStore.good then u.tableStore.tables else Tables.defaults) with
          limit := max (if u.tableStore.good then u.tableStore.tables else Tables.defaults).limit
            (u.cover.committed + u.cover.held) } := by
  unfold loadedAtStart
  rw [loadStored_eq]
  split <;> rfl

theorem disarmAll_stood (u : State) : Stood 0 0 u u.disarmAll := .foldl (fun _ _ => setPorts_stood ..) _ u

theorem disarmAll_rest (rest : AtRest u) : AtRest u.disarmAll where
  offline h := (congrArg Port.drop (disarmAll_port u h)).trans (rest.offline h)
  down h := by
    rw [disarmAll_port]
    exact rest.down h
  carousel := by
    rw [disarmAll_part State.store (fun _ _ => rfl)]
    exact rest.carousel

theorem loadedAtStart_office_parts {β : Type} (f : Office → β) (flags : ∀ o x, f { o with flags := x } = f o)
    (u : State) (a : StartUpArgs) : f (u.loadedAtStart a).office = f u.office := by
  rw [loadedAtStart_office]
  split
  · rfl
  · exact flags ..

theorem loadedAtStart_standing (standing : Standing straps store r u) (a : StartUpArgs) :
    Standing straps store r (u.loadedAtStart a) := by
  obtain ⟨running, strapsIs, tableStore, cover, storeIs, intake, ports, -⟩ := loadedAtStart_rest u a
  have journal := loadedAtStart_journal u a
  exact
    { running := running.trans standing.running
      straps := strapsIs.trans standing.straps
      hand := (loadedAtStart_office_parts Office.hand (fun _ _ => rfl) u a).trans standing.hand
      replies := (loadedAtStart_office_parts Office.replies (fun _ _ => rfl) u a).trans standing.replies
      transmitter := (loadedAtStart_office_parts Office.transmitter (fun _ _ => rfl) u a).trans standing.transmitter
      tableStore := tableStore.trans standing.tableStore
      retained := by
        rw [← standing.retained]
        simp only [State.retained, cover, storeIs, intake, journal]
      held := by rw [cover, standing.held]
      slotHolds := by rw [journal, standing.slotHolds]
      holds := by rw [storeIs, standing.holds]
      rest := standing.rest.of_parts ports (congrArg Store.carousel storeIs) }

theorem phase3_standing (standing : Standing straps store r u) (a : StartUpArgs) :
    Standing straps store r (u.phase3 a) :=
  have loaded := loadedAtStart_standing standing a
  phase3_eq u a ▸ loaded.still (disarmAll_stood _) (disarmAll_rest loaded.rest)

/-- The tables that a table store gives at start-up. -/
theorem startStore_tables (a : StartUpArgs) (s : State) :
    (if (startStore a s).good then (startStore a s).tables else Tables.defaults) = storedTables s := rfl

theorem startStore_epoch (a : StartUpArgs) (s : State) :
    (if (startStore a s).good then (startStore a s).epoch else if a.retainedIntact then 0 else 1) = startEpoch a s := by
  unfold startStore startEpoch cutStore
  cases storeGood s <;> cases a.retainedIntact <;> rfl

theorem loadedAtStart_flags (clear : Unreported (decide (a.retainedIntact = false)) u)
    (tableStore : u.tableStore = startStore a s) :
    let x := (u.loadedAtStart a)
    x.latched .retainedLost = decide (a.retainedIntact = false) ∧ x.latched .tableStoreBad = !storeGood s
      ∧ x.latched .unexpectedDrop = false := by
  have good : u.tableStore.good = storeGood s := congrArg TableStore.good tableStore
  dsimp only
  unfold latched
  rw [loadedAtStart_office, good]
  cases storeGood s with
  | true => exact ⟨clear.lost, clear.bad, clear.drop⟩
  | false =>
    exact ⟨(latch_latched_ne u (by decide)).trans clear.lost, latch_latched u _,
      (latch_latched_ne u (by decide)).trans clear.drop⟩

theorem phase3_loaded (standing : Standing straps (startStore a s) ((foundRetained a s).ticked k) u)
    (clear : Unreported (decide (a.retainedIntact = false)) u)
    (tokens : ∀ i, (u.counts.get i).token = (foundCount a s i).token) : Loaded a s 0 (u.phase3 a) := by
  have committed : u.cover.committed = (foundRetained a s).committed := congrArg Retained.committed standing.retained
  obtain ⟨lost, bad, drop⟩ := loadedAtStart_flags clear standing.tableStore
  have drops := loadedAtStart_office_parts Office.unexpectedDrops (fun _ _ => rfl) u a
  have notice := (loadedAtStart_office_parts Office.notice (fun _ _ => rfl) u a).trans clear.notice
  have loaded : Loaded a s 0 (u.loadedAtStart a) :=
    { tables := by
        rw [loadedAtStart_tables, standing.tableStore, startStore_tables, committed, standing.held]
        rfl
      epoch := by
        rw [loadedAtStart_journal]
        unfold loadedEpoch
        rw [standing.tableStore]
        exact startStore_epoch a s
      tokens := fun i => by
        rw [loadedAtStart_counts, standing.tableStore, startStore_tables]
        unfold matchCount
        split
        · rfl
        · rw [tokens]
          split
          · exact tokens i
          · rfl
      mapAccess := rfl
      count := (loadedAtStart_office_parts Office.count (fun _ _ => rfl) u a).trans clear.count
      timer := (loadedAtStart_office_parts Office.timer (fun _ _ => rfl) u a).trans clear.timer
      lost := lost
      bad := bad
      drops := drops.trans clear.drops
      shown := by
        unfold DropShown
        rw [drop, drops, clear.drops]
        rfl
      fits := by
        unfold NoticeFits
        rw [notice]
        exact .zero _ }
  rw [phase3_eq]
  exact loaded.stood (disarmAll_stood _)

end State

end Sys2Proof.Machine
end

section
/-! SUPPORT. Phase 4 of start-up (R110, R136, R190): what was in the chute is stranded and its pending place released,
and window 0, the intake state and the near marks are evaluated. -/

namespace Sys2Proof.Machine

open Sys2Proof

/-- An entry stranded. -/
def Entry.strand (e : Entry) : Entry := { e with state := .stranded }

/-- The journal with every number found IN_CHUTE stranded. -/
def strandFound (l : List Entry) : List Entry :=
  l.map fun e => if ∃ x ∈ l, x.number = e.number ∧ x.state = .inChute then { e with state := .stranded } else e

variable {s u v w : State} {a : StartUpArgs} {straps : Straps} {store : TableStore} {r : Retained} {k p : Nat}

namespace State

/-! ## What was in the chute -/

theorem strandAtStart_entries (u : State) (n : Nat) :
    (u.strandAtStart n).journal.entries = u.journal.entries.map fun e => if e.number = n then e.strand else e := by
  unfold strandAtStart
  rw [releasePlace_journal, strandEntry_entries]
  rfl

theorem foldl_strandAtStart_entries (l : List Nat) (u : State) :
    (l.foldl strandAtStart u).journal.entries
      = u.journal.entries.map fun e => if e.number ∈ l then e.strand else e := by
  induction l generalizing u with
  | nil => simp
  | cons n l ih =>
    rw [List.foldl_cons, ih, strandAtStart_entries, List.map_map]
    refine List.map_congr_left fun e _ => ?_
    by_cases own : e.number = n <;> simp [own, Entry.strand]

theorem inChute_foldl_entries (u : State) :
    (u.inChute.foldl strandAtStart u).journal.entries = strandFound u.journal.entries := by
  rw [foldl_strandAtStart_entries]
  refine List.map_congr_left fun e _ => ?_
  have found : e.number ∈ u.inChute ↔ ∃ x ∈ u.journal.entries, x.number = e.number ∧ x.state = .inChute := by
    simp [inChute, and_assoc, and_comm]
  simp only [found, Entry.strand]

/-- Two states whose bins are one and whose journals differ in the entries' states alone. -/
structure Alike (u v : State) : Prop where
  bins : v.store.bins = u.store.bins
  found : ∀ n, (v.findEntry n).map Entry.strand = (u.findEntry n).map Entry.strand

theorem Alike.releasePlace (alike : Alike u v) (n : Nat) : Alike (u.releasePlace n) (v.releasePlace n) where
  bins := by
    have same := alike.found n
    unfold State.releasePlace
    cases mine : u.findEntry n with
    | none =>
      have yours : v.findEntry n = none := by simpa [mine] using same
      rw [yours]
      exact alike.bins
    | some e =>
      obtain ⟨e', yours, eq⟩ : ∃ e', v.findEntry n = some e' ∧ e'.strand = e.strand := by simpa [mine] using same
      have bin : e'.bin = e.bin := (congrArg Entry.bin eq :)
      have assigned : e'.assigned = e.assigned := (congrArg Entry.assigned eq :)
      have total : e'.total = e.total := (congrArg Entry.total eq :)
      rw [yours]
      dsimp only
      rw [bin]
      split
      · exact alike.bins
      · simp [setBin, State.bin, alike.bins, assigned, total]
  found m := by
    rw [findEntry_of_journal (releasePlace_journal v n), findEntry_of_journal (releasePlace_journal u n)]
    exact alike.found m

/-- Stranding changes an entry's state alone. -/
theorem strandEntry_found (u : State) (n m : Nat) :
    ((u.strandEntry n).findEntry m).map Entry.strand = (u.findEntry m).map Entry.strand := by
  have number : ((fun e : Entry => e.number == m) ∘ fun e => if e.number = n then { e with state := .stranded } else e)
      = fun e => e.number == m := by
    funext e
    by_cases own : e.number = n <;> simp [own]
  have strand : (Entry.strand ∘ fun e => if e.number = n then { e with state := .stranded } else e) = Entry.strand := by
    funext e
    by_cases own : e.number = n <;> simp [own, Entry.strand]
  unfold findEntry
  rw [strandEntry_entries, List.find?_map, Option.map_map, number, strand]

/-- That an entry is stranded before its place is released does not tell in the bins. -/
theorem Alike.strandAtStart (alike : Alike u v) (n : Nat) : Alike (u.releasePlace n) (v.strandAtStart n) := by
  refine Alike.releasePlace ⟨?_, fun m => ?_⟩ n
  · exact (congrArg Store.bins (by simp [strandEntry, modEntry])).trans alike.bins
  · exact (strandEntry_found v n m).trans (alike.found m)

theorem Alike.foldl (alike : Alike u v) (l : List Nat) :
    (l.foldl State.strandAtStart v).store.bins = (l.foldl State.releasePlace u).store.bins := by
  induction l generalizing u v with
  | nil => exact alike.bins
  | cons n l ih => exact ih (alike.strandAtStart n)

theorem Alike.foldl_releasePlace (alike : Alike u v) (l : List Nat) :
    (l.foldl State.releasePlace v).store.bins = (l.foldl State.releasePlace u).store.bins := by
  induction l generalizing u v with
  | nil => exact alike.bins
  | cons n l ih => exact ih (alike.releasePlace n)

theorem strandAtStart_reported (u : State) (n : Nat) : Reported 0 u (u.strandAtStart n) := by
  have entry : Reported 0 u (u.modEntry n fun e => { e with state := .stranded }) := .ofOffice rfl rfl
  have strand : Reported 0 u (u.strandEntry n) := entry.trans (raise_reported _ (by decide))
  exact strand.trans (.ofOffice (releasePlace_office ..) (by simp))

theorem releasePlace_store_near (u : State) (n : Nat) : (u.releasePlace n).store.near = u.store.near := by
  unfold releasePlace
  split
  · rfl
  · split <;> rfl

/-- Stranding touches entries, bins and the office port alone. -/
theorem foldl_strandAtStart_rest (l : List Nat) (u : State) :
    (l.foldl strandAtStart u).tableStore = u.tableStore ∧ (l.foldl strandAtStart u).tables = u.tables
      ∧ (l.foldl strandAtStart u).counts = u.counts ∧ (l.foldl strandAtStart u).cover = u.cover
      ∧ { (l.foldl strandAtStart u).journal with entries := [] } = { u.journal with entries := [] }
      ∧ { (l.foldl strandAtStart u).store with bins := u.store.bins } = u.store
      ∧ (l.foldl strandAtStart u).intake = u.intake ∧ (l.foldl strandAtStart u).ports = u.ports
      ∧ (l.foldl strandAtStart u).now = u.now := by
  have store (x : State) (n : Nat) :
      { (x.strandAtStart n).store with bins := u.store.bins } = { x.store with bins := u.store.bins } := by
    simp [strandAtStart, strandEntry, modEntry, releasePlace_store_near]
  refine ⟨foldl_field State.tableStore ?_ l u, foldl_field State.tables ?_ l u, foldl_field State.counts ?_ l u,
    foldl_field State.cover ?_ l u, foldl_field (fun x : State => { x.journal with entries := [] }) ?_ l u,
    foldl_field (fun x : State => { x.store with bins := u.store.bins }) store l u, foldl_field State.intake ?_ l u,
    foldl_field State.ports ?_ l u, foldl_field State.now ?_ l u⟩
  all_goals
    intro x n
    simp [strandAtStart, strandEntry, modEntry]

/-! ## Standing once the chute is stranded -/

/-- The retained store once the chute is stranded. -/
def strandedRetained (u : State) (r : Retained) : Retained :=
  { r with entries := strandFound r.entries, bins := (u.inChute.foldl releasePlace u).store.bins }

theorem strand_standing (standing : Standing straps store r u) :
    Standing straps store (u.strandedRetained r) (u.inChute.foldl strandAtStart u) := by
  obtain ⟨tableStore, -, -, cover, journal, storeIs, intake, ports, -⟩ := foldl_strandAtStart_rest u.inChute u
  have bins := (Alike.foldl (u := u) (v := u) ⟨rfl, fun _ => rfl⟩ u.inChute)
  have next := (congrArg Journal.next journal :)
  have last := (congrArg Journal.last journal :)
  have queues := (congrArg Store.queues storeIs :)
  have carousel := (congrArg Store.carousel storeIs :)
  refine standing.kept (Kept.foldl strandAtStart_kept ..) (tableStore.trans standing.tableStore) ?_
    (by rw [cover, standing.held]) ((congrArg Journal.slotHolds journal :).trans standing.slotHolds)
    ((congrArg Store.holds storeIs :).trans standing.holds) (standing.rest.of_parts ports carousel)
  rw [← standing.retained]
  dsimp only at next last queues
  simp only [retained, strandedRetained, inChute_foldl_entries, bins, next, last, queues, cover, intake]

theorem strand_loaded (loaded : Loaded a s p u) : Loaded a s p (u.inChute.foldl strandAtStart u) := by
  obtain ⟨-, tables, counts, -, journal, -⟩ := foldl_strandAtStart_rest u.inChute u
  exact loaded.reported (.foldl strandAtStart_reported ..) tables (congrArg Journal.epoch journal :)
    (fun i => by rw [counts]) (Kept.foldl strandAtStart_kept ..).mapAccess

/-! ## The steps after it -/

theorem dropHolds_stood (standing : Standing straps store r u) : Stood 0 0 u u.dropHolds where
  kept := dropHolds_kept u
  reported := .ofOffice rfl rfl
  tables := rfl
  tableStore := rfl
  cover := by
    simp only [dropHolds, setStore_cover, setJournal_cover, setCover_cover]
    rw [← standing.held]
  journal := by
    simp only [dropHolds, setStore_journal, setJournal_journal, setCover_journal]
    rw [← standing.slotHolds]
  bins := rfl
  queues := rfl
  holds := standing.holds.symm
  lastGranted e := e
  carousel _ := rfl
  tokens _ := rfl
  clock := Option.map_id_fun.symm ▸ rfl
  enable := rfl

theorem evalWindow_stood (u : State) : Stood 0 0 u u.evalWindow where
  kept := evalWindow_kept u
  reported := .ofOffice (evalWindow_office u) (by rw [evalWindow_tables])
  tables := evalWindow_tables u
  tableStore := evalWindow_tableStore u
  cover := by rw [evalWindow_cover]
  journal := by rw [evalWindow_journal]
  bins := by rw [evalWindow_store]
  queues := by rw [evalWindow_store]
  holds := by rw [evalWindow_store]
  lastGranted e := by rw [evalWindow_store, e]
  carousel e := by rw [evalWindow_store, e]
  tokens := evalWindow_token u
  clock := by simp [evalWindow_intake]
  enable := by rw [evalWindow_intake]

theorem findIntake_stood (u : State) : Stood 0 0 u u.findIntake :=
  have found : Reported 0 u (u.setIntake { u.intake with state := u.intakeTarget }) := .ofOffice rfl rfl
  { Stood.refl u with
    kept := findIntake_kept u
    reported := found.trans (trigger_intake_reported _) }

/-! ## The near marks -/

theorem evalCover_stood (u : State) : Stood 0 0 u u.evalCover := by
  have mark : Stood 0 0 u (u.setCover { u.cover with near := u.coverNear }) :=
    { Stood.refl u with kept := setCover_kept .., reported := .ofOffice rfl rfl }
  unfold evalCover
  exact .ite (mark.trans (raise_passed _ (by decide)).toStood) mark

theorem evalJournal_stood (u : State) : Stood 0 0 u u.evalJournal := by
  have mark : Stood 0 0 u (u.setJournal { u.journal with near := u.journalNear }) :=
    { Stood.refl u with kept := setJournal_kept .., reported := .ofOffice rfl rfl }
  unfold evalJournal
  exact .ite (mark.trans (raise_passed _ (by decide)).toStood) mark

theorem evalStore_stood (u : State) : Stood 0 0 u u.evalStore := by
  have mark : Stood 0 0 u (u.setStore { u.store with near := u.storeNear }) :=
    { Stood.refl u with kept := setStore_kept .., reported := .ofOffice rfl rfl }
  unfold evalStore
  exact .ite (mark.trans (raise_passed _ (by decide)).toStood) mark

/-- The three near marks are CLEAR. -/
def clearMarks (u : State) : State :=
  ((u.setCover { u.cover with near := false }).setJournal { u.journal with near := false }).setStore
    { u.store with near := false }

theorem freshMarks_eq (u : State) : u.freshMarks = u.clearMarks.evalCover.evalJournal.evalStore := rfl

theorem freshMarks_passed (u : State) : Passed 0 0 u u.freshMarks := by
  have cleared : Stood 0 0 u u.clearMarks :=
    { Stood.refl u with kept := ⟨rfl, rfl, rfl, rfl, rfl, rfl, rfl, rfl⟩, reported := .ofOffice rfl rfl }
  have stood := ((cleared.trans (evalCover_stood _)).trans (evalJournal_stood _)).trans (evalStore_stood _)
  rw [freshMarks_eq]
  exact .ofPorts stood (by simp [clearMarks]) fun _ => by simp [clearMarks]

end State

end Sys2Proof.Machine
end

section
/-! SUPPORT. Start-up from phase 4 on (R190): what every phase, and every event after it, makes of a start-up on its
way, to the notice that stands at the end. -/

namespace Sys2Proof.Machine

open Sys2Proof

variable {s u v w : State} {a : StartUpArgs} {straps : Straps} {store : TableStore} {r : Retained} {k p n : Nat}

/-! ## The intake state and the mark of window 0 -/

/-- What leaves intake control and the machines leaves its evaluation. -/
theorem Stood.timed (stood : Stood k p u v) (intake : v.intake = u.intake) (drops : ∀ h, v.drop h = u.drop h)
    (timed : u.Timed) : v.Timed := by
  refine timed.congr ?_ (congrArg Intake.state intake) (congrArg Intake.windowMark intake)
  exact
    { enable := congrArg Intake.enable intake
      clock := congrArg Intake.clock intake
      tables := stood.tables
      length := (congrArg (fun x : Journal => x.entries.length) stood.journal :)
      slotHolds := (congrArg Journal.slotHolds stood.journal :)
      bins := stood.bins
      holds := stood.holds
      inFlight := fun h => by rw [drops] }

theorem Passed.timed (passed : Passed 0 p u v) (timed : u.Timed) : v.Timed :=
  passed.toStood.timed (passed.still rfl) passed.drop timed

namespace State

theorem startEvent_timed (late : 4 ≤ n) (rest : AtRest u) (timed : u.Timed) (e : StartEvent) :
    (u.startEvent n e).Timed := by
  by_cases advance : e = .clockAdvance
  · subst advance
    change (u.startAdvance n).Timed
    unfold startAdvance
    split
    · exact timed
    · rw [if_pos late]
      exact evalTime_timed _
  · have passed := startEvent_passed n rest e
    have still : eventTicks e = 0 := if_neg advance
    rw [still] at passed
    exact passed.timed timed

theorem foldl_startEvent_timed (late : 4 ≤ n) (l : List StartEvent) (rest : AtRest u) (timed : u.Timed) :
    (l.foldl (startEvent n) u).Timed := by
  induction l generalizing u with
  | nil => exact timed
  | cons e l ih => exact ih ((startEvent_passed n rest e).rest rest) (startEvent_timed late rest timed e)

theorem between_timed (late : 4 ≤ n) (rest : AtRest u) (timed : u.Timed) : (u.between a n).Timed :=
  foldl_startEvent_timed late _ rest timed

/-! ## Phase 4 -/

/-- Phase 4 up to the evaluation of window 0. -/
def strandedAtStart (u : State) : State := Hatch.all.foldl clearFaultFlag (u.inChute.foldl strandAtStart u).dropHolds

theorem phase4_eq (u : State) : u.phase4 = u.strandedAtStart.evalWindow.findIntake.freshMarks := rfl

theorem clearFaultFlags_port (u : State) (h : Hatch) :
    (Hatch.all.foldl clearFaultFlag u).port h = { u.port h with faultFlag := false } :=
  foldl_modPort_port u (fun _ p => { p with faultFlag := false }) h

theorem strandedAtStart_stood (standing : Standing straps store r u) :
    Stood 0 0 (u.inChute.foldl strandAtStart u) u.strandedAtStart :=
  (dropHolds_stood (strand_standing standing)).trans (.foldl (fun _ _ => setPorts_stood ..) ..)

theorem strandedAtStart_rest (standing : Standing straps store r u) : AtRest u.strandedAtStart where
  offline h := (congrArg Port.drop (clearFaultFlags_port _ h)).trans ((strand_standing standing).rest.offline h)
  down h := by
    unfold strandedAtStart
    rw [clearFaultFlags_port]
    exact (strand_standing standing).rest.down h
  carousel := by
    have store : u.strandedAtStart.store = (u.inChute.foldl strandAtStart u).dropHolds.store :=
      foldl_field (f := clearFaultFlag) State.store (fun _ _ => rfl) ..
    rw [store]
    rfl

theorem foundIntake_rest (rest : AtRest u) : AtRest u.evalWindow.findIntake :=
  rest.of_parts (evalWindow_ports u) (by simp [findIntake])

theorem phase4_stood (standing : Standing straps store r u) : Stood 0 0 (u.inChute.foldl strandAtStart u) u.phase4 :=
  (((strandedAtStart_stood standing).trans (evalWindow_stood _)).trans (findIntake_stood _)).trans
    (freshMarks_passed _).toStood

theorem phase4_rest (standing : Standing straps store r u) : AtRest u.phase4 :=
  (freshMarks_passed _).rest (foundIntake_rest (strandedAtStart_rest standing))

theorem phase4_standing (standing : Standing straps store r u) :
    Standing straps store (u.strandedRetained r) u.phase4 :=
  (strand_standing standing).still (phase4_stood standing) (phase4_rest standing)

theorem phase4_loaded (standing : Standing straps store r u) (loaded : Loaded a s p u) : Loaded a s p u.phase4 :=
  (strand_loaded loaded).stood (phase4_stood standing)

theorem findIntake_timed (u : State) : u.evalWindow.findIntake.Timed := by
  refine ⟨rfl, ?_⟩
  have mark : u.evalWindow.intake.windowMark = u.inWindow 0 := by rw [evalWindow_intake]
  have clock : u.evalWindow.intake.clock = u.intake.clock := by rw [evalWindow_intake]
  exact mark.trans (inWindow_congr clock (evalWindow_tables u) 0).symm

theorem phase4_timed (u : State) : u.phase4.Timed := (freshMarks_passed _).timed (findIntake_timed _)

theorem findIntake_begun (u : State) : u.findIntake.NoticeBegun := ⟨_, rfl, .right ..⟩

theorem phase4_begun (u : State) : u.phase4.NoticeBegun := (freshMarks_passed _).reported.begun (findIntake_begun _)

/-! ## Phase 5 -/

theorem startHoming_passed (u : State) : Passed 0 0 u u.startHoming := by
  have free :
      (if u.store.doorOpen then Carousel.haltedHoming else .homing (u.now + Config.homingTime)).free = true := by
    split <;> rfl
  exact (setPosition_passed u none).trans (setCarousel_passed _ free)

theorem phase5_passed (u : State) : Passed 0 0 u u.phase5 :=
  have granted : Passed 0 0 u.startHoming (u.startHoming.setStore { u.startHoming.store with lastGranted := .h4 }) :=
    setStore_passed _ rfl rfl rfl (fun _ => rfl) fun e => e
  (startHoming_passed u).trans granted

theorem phase5_lastGranted (u : State) : u.phase5.store.lastGranted = .h4 := rfl

/-! ## Phase 6 -/

theorem phase6_stood (u : State) : Stood 0 0 u u.phase6 := .foldl (fun _ _ => setPorts_stood ..) _ u

/-- The link that a port starts with. -/
def startLink (u : State) (h : Hatch) : LinkState :=
  if u.fitted h && (u.config h).enable then .holdOff (u.now + Config.holdOffTime) else .disabled

theorem phase6_port (u : State) (h : Hatch) :
    u.phase6.port h = Port.fresh (u.startLink h) (u.config h).depth (u.port h).contactOpen := by
  cases h <;> rfl

theorem startLink_down (u : State) (h : Hatch) : u.startLink h ≠ .up := by
  unfold startLink
  split <;> exact LinkState.noConfusion

theorem phase6_store (u : State) : u.phase6.store = u.store :=
  foldl_field (f := startPort) State.store (fun _ _ => rfl) ..

theorem phase6_intake (u : State) : u.phase6.intake = u.intake :=
  foldl_field (f := startPort) State.intake (fun _ _ => rfl) ..

theorem phase6_rest (rest : AtRest u) : AtRest u.phase6 where
  offline h := congrArg Port.drop (phase6_port u h)
  down h := by
    rw [phase6_port]
    exact startLink_down u h
  carousel := by
    rw [phase6_store]
    exact rest.carousel

theorem phase6_timed (rest : AtRest u) (timed : u.Timed) : u.phase6.Timed :=
  (phase6_stood u).timed (phase6_intake u) (fun h => by rw [(phase6_rest rest).offline, rest.offline]) timed

/-! ## Phase 7 -/

/-- A cause that the latched flags show. -/
theorem trigger_shown_passed {c : Cause} (known : CausesWithin c.bit u.flagCauses) : Passed 0 0 u (u.trigger c) :=
  setOffice_passed (trigger_kept ..)
    ⟨rfl, rfl, rfl, rfl, rfl, rfl, fun e => e, fun e => trigger_fits e (known.trans (.right ..)),
      fun e => trigger_begun e c⟩

theorem flagCauses_alarm (shown : u.newlyLatched alarmSet = true) : CausesWithin Cause.alarm.bit u.flagCauses := by
  unfold flagCauses
  rw [shown]
  exact .left ..

theorem flagCauses_attention (shown : u.newlyLatched attentionSet = true) :
    CausesWithin Cause.attention.bit u.flagCauses := by
  unfold flagCauses
  rw [shown]
  exact .right ..

/-- The causes of the pending notice, none where none is pending. -/
def noted (u : State) : Causes := u.office.notice.getD 0

theorem startNotice_noted (u : State) : u.startNotice.noted = u.noted ||| u.flagCauses := by
  unfold startNotice flagCauses
  cases u.newlyLatched alarmSet <;> cases u.newlyLatched attentionSet <;> simp [noted, trigger, BitVec.or_assoc]

theorem startNotice_flags (u : State) : u.startNotice.office.flags = u.office.flags := by
  unfold startNotice
  dsimp only
  split <;> split <;> rfl

theorem startNotice_passed (u : State) : Passed 0 0 u u.startNotice := by
  unfold startNotice
  have alarm : Passed 0 0 u (if u.newlyLatched alarmSet then u.trigger .alarm else u) := by
    split
    · next shown => exact trigger_shown_passed (flagCauses_alarm shown)
    · exact .refl u
  dsimp only
  split
  · next shown =>
    refine alarm.trans (trigger_shown_passed ?_)
    have causes : (if u.newlyLatched alarmSet then u.trigger .alarm else u).flagCauses = u.flagCauses := by
      split <;> rfl
    rw [causes]
    exact flagCauses_attention shown
  · exact alarm

theorem phase7_passed (u : State) : Passed 0 0 u u.phase7 :=
  (setOffice_passed (latch_kept ..) (latch_reported u (by decide))).trans (startNotice_passed _)

theorem phase7_flags (u : State) : u.phase7.office.flags = (u.latch .powerRestart).office.flags := startNotice_flags _

theorem phase7_powerRestart (u : State) : u.phase7.latched .powerRestart = true := by
  unfold latched
  rw [phase7_flags]
  exact latch_latched u _

theorem phase7_flagCauses (u : State) : u.phase7.flagCauses = (u.latch .powerRestart).flagCauses := by
  have mask : u.phase7.tables = (u.latch .powerRestart).tables := (phase7_passed u).tables
  unfold flagCauses newlyLatched
  rw [phase7_flags, mask]

/-- The notice at the end of phase 7: INTAKE, and what the latched flags show. -/
theorem phase7_notice (begun : u.NoticeBegun) (fits : u.NoticeFits) :
    u.phase7.office.notice = some (Cause.intake.bit ||| u.phase7.flagCauses) := by
  have reported := (phase7_passed u).reported
  obtain ⟨c, pending, intake⟩ := reported.begun begun
  have noted : u.phase7.noted = c := by
    unfold State.noted
    rw [pending]
    rfl
  have within : CausesWithin c (Cause.intake.bit ||| u.phase7.flagCauses) := noted ▸ reported.fits fits
  have shown : CausesWithin u.phase7.flagCauses c := by
    rw [← noted, phase7_flagCauses]
    exact startNotice_noted (u.latch .powerRestart) ▸ .right ..
  rw [pending, within.antisymm (.or intake shown)]

/-! ## The notice begins -/

/-- With the transmitter free and no reply waiting, the notice begins. -/
theorem pump_notice {c : Causes} (transmitter : u.office.transmitter = none) (replies : u.office.replies = [])
    (notice : u.office.notice = some c) :
    u.pump
      = u.setOffice
          { u.office with
            transmitter := some (.notice (u.noticeContent c)), notice := none, count := 0, timer := none } := by
  unfold pump
  rw [transmitter, replies, notice]

end State

end Sys2Proof.Machine
end

section
/-! SUPPORT. A whole start-up, phase by phase (R188 to R190). -/

namespace Sys2Proof.Machine

open Sys2Proof

/-- Where a start-up begins: the controller as the outage left it, with power present. -/
def offState (s : State) : State := (s.outage false).powered

/-- How often the events after phases 1 to `n` advance the clock. -/
def ticksTo (a : StartUpArgs) : Nat → Nat
  | 0 => 0
  | n + 1 => ticksTo a n + ticksAfter a (n + 1)

variable {s u v : State} {a : StartUpArgs}

namespace State

/-- A start-up after `n` phases and the events after each. -/
def started (a : StartUpArgs) (s : State) (n : Nat) : State := runPhases a n (offState s)

theorem started_one : started a s 1 = ((offState s).phase1 a).between a 1 := rfl
theorem started_two : started a s 2 = ((started a s 1).phase2 a).between a 2 := rfl
theorem started_three : started a s 3 = ((started a s 2).phase3 a).between a 3 := rfl
theorem started_four : started a s 4 = (started a s 3).phase4.between a 4 := rfl
theorem started_five : started a s 5 = (started a s 4).phase5.between a 5 := rfl
theorem started_six : started a s 6 = (started a s 5).phase6.between a 6 := rfl
theorem started_seven : started a s 7 = (started a s 6).phase7 := rfl

/-! ## Phases 1 to 3 -/

theorem started_one_standing :
    Standing ⟨a.hatches, a.rate⟩ (cutStore s) (s.retained.ticked (ticksTo a 1)) (started a s 1) := by
  have ticks : ticksTo a 1 = ticksAfter a 1 := Nat.zero_add _
  rw [ticks]
  exact (phase1_standing (outage_standing s) a).between 1

theorem started_one_unreported : Unreported false (started a s 1) :=
  (phase1_unreported (offState s) a).of_office (between_office (by decide) ..)

theorem offState_phase1_counts : ((offState s).phase1 a).counts = s.counts := by
  simp [offState, powered, outage, cutWrites, dropHolds, phase1, clearOffice, clearCounters]

theorem started_one_token (i : Slot) : ((started a s 1).counts.get i).token = (s.counts.get i).token := by
  have rest : AtRest ((offState s).phase1 a) := (phase1_standing (outage_standing s) a).rest
  rw [← offState_phase1_counts (s := s) (a := a)]
  exact (between_passed a 1 rest).tokens i

theorem started_two_standing :
    Standing ⟨a.hatches, a.rate⟩ (startStore a s) ((foundRetained a s).ticked (ticksTo a 2)) (started a s 2) :=
  Retained.ticked_ticked .. ▸ (phase2_standing started_one_standing a).between 2

theorem started_two_unreported : Unreported (decide (a.retainedIntact = false)) (started a s 2) :=
  (phase2_unreported started_one_unreported a).of_office (between_office (by decide) ..)

theorem started_two_token (i : Slot) : ((started a s 2).counts.get i).token = (foundCount a s i).token :=
  ((between_passed a 2 (phase2_standing started_one_standing a).rest).tokens i).trans
    (phase2_token started_one_token a i)

theorem started_three_standing :
    Standing ⟨a.hatches, a.rate⟩ (startStore a s) ((foundRetained a s).ticked (ticksTo a 3)) (started a s 3) :=
  Retained.ticked_ticked .. ▸ (phase3_standing started_two_standing a).between 3

theorem started_three_loaded : Loaded a s 0 (started a s 3) := by
  have passed := between_passed a 3 (phase3_standing (started_two_standing (a := a) (s := s)) a).rest
  rw [pulsesAfter_early a (by decide)] at passed
  exact (phase3_loaded started_two_standing started_two_unreported started_two_token).stood passed.toStood

/-! ## Phases 4 to 7 -/

/-- The retained store as start-up leaves it, `k` clock advances later. -/
def startRetained (a : StartUpArgs) (s : State) (k : Nat) : Retained :=
  ((started a s 3).strandedRetained (foundRetained a s)).ticked k

theorem startRetained_ticked (k l : Nat) : (startRetained a s k).ticked l = startRetained a s (k + l) :=
  Retained.ticked_ticked ..

/-- A start-up past phase 4. -/
structure Under (a : StartUpArgs) (s : State) (ticks pulses : Nat) (u : State) : Prop where
  standing : Standing ⟨a.hatches, a.rate⟩ (startStore a s) (startRetained a s ticks) u
  loaded : Loaded a s pulses u
  timed : u.Timed
  begun : u.NoticeBegun

theorem Under.stood {k p q l : Nat} (under : Under a s k p u) (stood : Stood l q u v) (rest : AtRest v)
    (timed : v.Timed) : Under a s (k + l) (p + q) v where
  standing := startRetained_ticked k l ▸ under.standing.stood stood rest
  loaded := under.loaded.stood stood
  timed := timed
  begun := stood.reported.begun under.begun

theorem Under.between {k p n : Nat} (under : Under a s k p u) (late : 4 ≤ n) :
    Under a s (k + ticksAfter a n) (p + pulsesAfter a n) (u.between a n) :=
  have passed := between_passed a n under.standing.rest
  under.stood passed.toStood (passed.rest under.standing.rest) (between_timed late under.standing.rest under.timed)

theorem Under.passed {k p : Nat} (under : Under a s k p u) (passed : Passed 0 0 u v) : Under a s k p v :=
  under.stood passed.toStood (passed.rest under.standing.rest) (passed.timed under.timed)

theorem started_three_phase4 : Under a s (ticksTo a 3) 0 (started a s 3).phase4 where
  standing := phase4_standing started_three_standing
  loaded := phase4_loaded started_three_standing started_three_loaded
  timed := phase4_timed _
  begun := phase4_begun _

theorem started_four_under : Under a s (ticksTo a 4) 0 (started a s 4) := by
  have under := (started_three_phase4 (a := a) (s := s)).between (le_refl 4)
  rwa [pulsesAfter_early a (by decide)] at under

theorem started_five_under : Under a s (ticksTo a 5) (pulsesAfter a 5) (started a s 5) := by
  have under := (started_four_under.passed (phase5_passed (started a s 4))).between (n := 5) (by decide)
  rwa [Nat.zero_add] at under

theorem started_five_phase6 : Under a s (ticksTo a 5) (pulsesAfter a 5) (started a s 5).phase6 :=
  have rest := started_five_under.standing.rest
  started_five_under.stood (phase6_stood _) (phase6_rest rest) (phase6_timed rest started_five_under.timed)

theorem started_six_under : Under a s (ticksTo a 6) (pulsesAfter a 5 + pulsesAfter a 6) (started a s 6) :=
  started_five_phase6.between (by decide)

theorem started_seven_under : Under a s (ticksTo a 6) (pulsesAfter a 5 + pulsesAfter a 6) (started a s 7) :=
  started_six_under.passed (phase7_passed _)

theorem started_seven_notice :
    (started a s 7).office.notice = some (Cause.intake.bit ||| (started a s 7).flagCauses) :=
  phase7_notice started_six_under.begun started_six_under.loaded.fits

theorem started_seven_lastGranted : (started a s 7).store.lastGranted = .h4 := by
  have five : (started a s 5).store.lastGranted = .h4 :=
    (between_passed a 5 (started_four_under.passed (phase5_passed (started a s 4))).standing.rest).lastGranted
      (phase5_lastGranted _)
  have six : (started a s 6).store.lastGranted = .h4 :=
    (between_passed a 6 started_five_phase6.standing.rest).lastGranted ((phase6_stood _).lastGranted five)
  exact (phase7_passed _).lastGranted six

/-- The ports have stood since phase 6, but for their aux contacts. -/
theorem started_seven_port (h : Hatch) :
    ((started a s 7).port h).apart = ((started a s 5).phase6.port h).apart :=
  ((phase7_passed _).ports h).trans ((between_passed a 6 started_five_phase6.standing.rest).ports h)

theorem started_five_configs : (started a s 5).tables.configs = (storedTables s).configs :=
  (congrArg Tables.configs started_five_under.loaded.tables :)

/-- A port at the end of a start-up. -/
theorem started_port (h : Hatch) :
    let t := started a s 7
    t.drop h = .offline ∧ (t.port h).faultFlag = false ∧ (t.port h).inverted = false
      ∧ (t.port h).depth = ((storedTables s).configs.get h).depth ∧ (t.port h).zeroArmed = false
      ∧ (t.port h).link
        = if h.num ≤ a.hatches ∧ ((storedTables s).configs.get h).enable = true then
            .holdOff ((started a s 5).now + 1500)
          else .disabled := by
  have apart := (started_seven_port (a := a) (s := s) h).trans (congrArg Port.apart (phase6_port _ h))
  have config : (started a s 5).config h = (storedTables s).configs.get h := by
    unfold State.config
    rw [started_five_configs]
  have link : (started a s 5).startLink h
      = if h.num ≤ a.hatches ∧ ((storedTables s).configs.get h).enable = true then
          .holdOff ((started a s 5).now + 1500)
        else .disabled := by
    unfold startLink fitted
    rw [config, started_five_under.standing.straps]
    simp [Config.holdOffTime]
  have depth := (congrArg Port.depth apart :)
  have links := (congrArg Port.link apart :)
  exact ⟨(congrArg Port.drop apart :), (congrArg Port.faultFlag apart :), (congrArg Port.inverted apart :),
    depth.trans (congrArg HatchConfig.depth config), (congrArg Port.zeroArmed apart :), links.trans link⟩

end State

end Sys2Proof.Machine
end

section
/-! SUPPORT. A start-up cut short, and what the retained store holds at the end of a whole one (R110, R136, R188). -/

namespace Sys2Proof.Machine

open Sys2Proof

variable {s u v : State} {a : StartUpArgs}

namespace State

theorem exec_startUp (a : StartUpArgs) (s : State) : exec (.startUp a) s = .next (startUpEvent a (offState s)) := rfl

/-! ## A start-up cut short -/

theorem startUpEvent_cut (short : a.ending ≠ .completes) : ∃ x, startUpEvent a u = abandon x := by
  unfold startUpEvent
  cases ending : a.ending with
  | completes => exact absurd ending short
  | cutAfter n => exact ⟨_, rfl⟩
  | cutBeforeEpochWrite | cutInEpochWrite =>
    unfold cutPhase2
    dsimp only
    split
    · exact ⟨_, rfl⟩
    · split <;> exact ⟨_, rfl⟩

/-- An abandoned start-up leaves the controller off and silent. -/
theorem abandon_silent (u : State) :
    u.abandon.mainsGood = false ∧ u.abandon.office.transmitter = none
      ∧ ∀ h, (u.abandon.port h).link = .disabled ∧ u.abandon.drop h = .offline := by
  refine ⟨rfl, rfl, fun h => ?_⟩
  have port : u.abandon.port h = (u.port h).silence := outage_port u false h
  exact ⟨congrArg Port.link port, congrArg Port.drop port⟩

theorem abandon_tableStore (u : State) : u.abandon.tableStore = cutStore u := outage_tableStore u

/-- Phase 2 begins with the table store as the outage left it, and loses the retained store first. -/
theorem started_one_lost :
    (started a s 1).loseRetained.tableStore = cutStore s ∧ (started a s 1).loseRetained.storing = false := by
  refine ⟨(loseRetained_tableStore _).trans started_one_standing.tableStore, ?_⟩
  have hand : (started a s 1).loseRetained.office.hand = none :=
    (loseRetained_kept _).hand.trans started_one_standing.hand
  unfold storing
  rw [hand]

theorem cut_before_epochWrite (lost : a.retainedIntact = false) (cut : a.ending = .cutBeforeEpochWrite) :
    (startUpEvent a (offState s)).tableStore = cutStore s := by
  have eq : startUpEvent a (offState s) = (started a s 1).loseRetained.abandon := by
    unfold startUpEvent cutPhase2
    rw [cut, lost]
    rfl
  obtain ⟨tableStore, storing⟩ := started_one_lost (a := a) (s := s)
  rw [eq, abandon_tableStore]
  unfold cutStore storeGood at tableStore ⊢
  rw [tableStore, storing]
  simp

theorem cut_in_epochWrite (lost : a.retainedIntact = false) (cut : a.ending = .cutInEpochWrite) :
    (startUpEvent a (offState s)).tableStore.good = false := by
  have eq : startUpEvent a (offState s) = (started a s 1).loseRetained.spoilStore.abandon := by
    unfold startUpEvent cutPhase2
    rw [cut, lost]
    rfl
  rw [eq, abandon_tableStore]
  rfl

/-! ## The retained store at the end -/

theorem startRetained_bins_lost (lost : a.retainedIntact = false) (k : Nat) :
    (startRetained a s k).bins = Tab.fill 30 Bin.lost := by
  have retained := (started_three_standing (a := a) (s := s)).retained
  have found : foundRetained a s = .afresh := if_pos lost
  rw [found] at retained
  have entries : (started a s 3).journal.entries = [] := (congrArg Retained.entries retained :)
  have bins : (started a s 3).store.bins = Tab.fill 30 Bin.lost := (congrArg Retained.bins retained :)
  have none : (started a s 3).inChute = [] := by simp [inChute, entries]
  simp only [startRetained, strandedRetained, Retained.ticked, none, List.foldl_nil, bins]

theorem startRetained_bins_intact (intact : ¬a.retainedIntact = false) (k : Nat) :
    (startRetained a s k).bins = (s.inChute.foldl releasePlace s).store.bins := by
  have retained := (started_three_standing (a := a) (s := s)).retained
  have found : foundRetained a s = s.retained := if_neg intact
  rw [found] at retained
  have entries : (started a s 3).journal.entries = s.journal.entries := (congrArg Retained.entries retained :)
  have bins : (started a s 3).store.bins = s.store.bins := (congrArg Retained.bins retained :)
  have same : (started a s 3).inChute = s.inChute := by simp only [inChute, entries]
  have alike : Alike s (started a s 3) := ⟨bins, fun n => by simp only [findEntry, entries]⟩
  simp only [startRetained, strandedRetained, Retained.ticked, same, alike.foldl_releasePlace]

end State

end Sys2Proof.Machine
end

section
/-! SUPPORT. A start-up with nothing between its phases (R190): the moment, the carousel and the night's counters. -/

namespace Sys2Proof.Machine

open Sys2Proof

variable {s u v : State} {a : StartUpArgs}

namespace State

theorem phase2_now (u : State) (a : StartUpArgs) : (u.phase2 a).now = u.now := by
  unfold phase2
  split
  · rfl
  · simp [advanceEpoch, loseRetained, freshRetained]

theorem phase2_doorOpen (u : State) (a : StartUpArgs) : (u.phase2 a).store.doorOpen = u.store.doorOpen := by
  unfold phase2
  split
  · rfl
  · simp [advanceEpoch, loseRetained, freshRetained]

/-- Phase 2 keeps the night of an intact retained store, and sets that of a lost one afresh. -/
theorem phase2_night (counts : u.counts = s.counts) (mark : u.intake.windowMark = s.intake.windowMark)
    (a : StartUpArgs) :
    (∀ i, (u.phase2 a).counts.get i = foundCount a s i)
      ∧ (u.phase2 a).intake.windowMark = (a.retainedIntact && s.intake.windowMark) := by
  by_cases lost : a.retainedIntact = false
  · have freshCounts : (u.phase2 a).counts = Tab.fill 512 ⟨0, 0, none⟩ := by
      simp [phase2, lost, advanceEpoch, loseRetained, freshRetained]
    have freshMark : (u.phase2 a).intake.windowMark = false := by
      simp [phase2, lost, advanceEpoch, loseRetained, freshRetained]
    refine ⟨fun i => ?_, ?_⟩
    · rw [freshCounts, Tab.get_fill]
      exact (if_pos lost).symm
    · rw [freshMark, lost]
      rfl
  · have eq : u.phase2 a = u := by simp [phase2, lost]
    have intact : a.retainedIntact = true := by simpa using lost
    refine ⟨fun i => ?_, ?_⟩
    · rw [eq, counts]
      exact (if_neg lost).symm
    · rw [eq, mark, intact, Bool.true_and]

theorem offState_phase1_calm (s : State) (a : StartUpArgs) :
    ((offState s).phase1 a).now = s.now ∧ ((offState s).phase1 a).store.doorOpen = s.store.doorOpen
      ∧ ((offState s).phase1 a).intake.windowMark = s.intake.windowMark := by
  simp [offState, powered, outage, cutWrites, dropHolds, phase1, clearOffice, clearCounters]

/-- What phases 1 to 3 leave of the moment, the door and the night. -/
theorem started_three_calm (nothing : a.during = []) :
    (started a s 3).now = s.now ∧ (started a s 3).store.doorOpen = s.store.doorOpen
      ∧ (started a s 3).intake.windowMark = (a.retainedIntact && s.intake.windowMark)
      ∧ ∀ i, (started a s 3).counts.get i
          = matchCount ((storedTables s).depositors.get i) (foundCount a s i) := by
  have one : started a s 1 = (offState s).phase1 a :=
    started_one.trans (between_nothing nothing ..)
  have two : started a s 2 = (started a s 1).phase2 a :=
    started_two.trans (between_nothing nothing ..)
  have three : started a s 3 = ((started a s 2).loadedAtStart a).disarmAll :=
    started_three.trans (between_nothing nothing ..)
  have part {β : Type} (f : State → β) (c : ∀ x y, f (setPorts x y) = f x) :
      f (started a s 3) = f ((started a s 2).loadedAtStart a) := by
    rw [three]
    exact disarmAll_part f c _
  obtain ⟨now, door, mark⟩ := offState_phase1_calm s a
  obtain ⟨-, -, -, -, store, intake, -, nowIs⟩ := loadedAtStart_rest (started a s 2) a
  have counts : (started a s 1).counts = s.counts := by rw [one, offState_phase1_counts]
  obtain ⟨nightCounts, nightMark⟩ := phase2_night (u := started a s 1) (s := s) counts (by rw [one, mark]) a
  refine ⟨?_, ?_, ?_, fun i => ?_⟩
  · rw [part State.now (fun _ _ => rfl), nowIs, two, phase2_now, one, now]
  · rw [part State.store (fun _ _ => rfl), store, two, phase2_doorOpen, one, door]
  · rw [part State.intake (fun _ _ => rfl), intake, two, nightMark]
  · rw [part State.counts (fun _ _ => rfl), loadedAtStart_counts, started_two_standing.tableStore, startStore_tables,
      two, nightCounts]

/-- What stranding leaves of the moment, the door and the night. -/
theorem strandedAtStart_calm (u : State) :
    u.strandedAtStart.now = u.now ∧ u.strandedAtStart.store.doorOpen = u.store.doorOpen
      ∧ u.strandedAtStart.intake = u.intake ∧ u.strandedAtStart.counts = u.counts := by
  obtain ⟨-, -, counts, -, -, store, intake, -, now⟩ := foldl_strandAtStart_rest u.inChute u
  have part {β : Type} (f : State → β) (c : ∀ x y, f (setPorts x y) = f x) :
      f u.strandedAtStart = f (u.inChute.foldl strandAtStart u).dropHolds :=
    foldl_field (f := clearFaultFlag) f (fun _ _ => c ..) ..
  have door := (congrArg Store.doorOpen store :)
  exact ⟨(part State.now fun _ _ => rfl).trans now,
    (congrArg Store.doorOpen (part State.store fun _ _ => rfl)).trans door,
    (part State.intake fun _ _ => rfl).trans intake, (part State.counts fun _ _ => rfl).trans counts⟩

theorem phase4_calm (u : State) :
    u.phase4.now = u.now ∧ u.phase4.store.doorOpen = u.store.doorOpen
      ∧ u.phase4.intake.windowMark = u.strandedAtStart.inWindow 0
      ∧ u.phase4.counts = u.strandedAtStart.evalWindow.counts := by
  obtain ⟨now, door, -, -⟩ := strandedAtStart_calm u
  have marks := freshMarks_lasting u.strandedAtStart.evalWindow.findIntake
  have intake := (freshMarks_passed u.strandedAtStart.evalWindow.findIntake).still rfl
  rw [phase4_eq]
  refine ⟨marks.now.trans ?_, marks.doorOpen.trans ?_, (congrArg Intake.windowMark intake).trans ?_, marks.counts⟩
  · exact (evalWindow_now _).trans now
  · exact (congrArg Store.doorOpen (evalWindow_store _)).trans door
  · exact (congrArg Intake.windowMark (evalWindow_intake u.strandedAtStart) :)

theorem startNotice_part {β : Type} (f : State → β) (c : ∀ x y, f (setOffice x y) = f x) (u : State) :
    f u.startNotice = f u := by
  unfold startNotice
  dsimp only
  split
  · refine (c ..).trans ?_
    split
    · exact c ..
    · rfl
  · split
    · exact c ..
    · rfl

theorem phase7_part {β : Type} (f : State → β) (c : ∀ x y, f (setOffice x y) = f x) (u : State) : f u.phase7 = f u :=
  (startNotice_part f c _).trans (c ..)

/-- What phases 5 to 7 make of the moment, the store and the night. -/
theorem homed_calm (u : State) :
    u.phase5.phase6.phase7.now = u.now ∧ u.phase5.phase6.phase7.store.position = none
      ∧ u.phase5.phase6.phase7.store.doorOpen = u.store.doorOpen
      ∧ u.phase5.phase6.phase7.store.carousel
        = (if u.store.doorOpen then .haltedHoming else .homing (u.now + Config.homingTime))
      ∧ u.phase5.phase6.phase7.intake = u.intake ∧ u.phase5.phase6.phase7.counts = u.counts := by
  have part {β : Type} (f : State → β) (ports : ∀ x y, f (setPorts x y) = f x)
      (office : ∀ x y, f (setOffice x y) = f x) : f u.phase5.phase6.phase7 = f u.phase5 :=
    (phase7_part f office _).trans (foldl_field (f := startPort) f (fun _ _ => ports ..) ..)
  have store := part State.store (fun _ _ => rfl) fun _ _ => rfl
  exact ⟨part State.now (fun _ _ => rfl) fun _ _ => rfl, (congrArg Store.position store :),
    (congrArg Store.doorOpen store :),
    (congrArg Store.carousel store :), part State.intake (fun _ _ => rfl) fun _ _ => rfl,
    part State.counts (fun _ _ => rfl) fun _ _ => rfl⟩

/-- With nothing between the phases the carousel homes or is halted, and a rise of window 0 rolls the night over. -/
theorem started_calm (nothing : a.during = []) :
    let t := started a s 7
    (started a s 5).now = s.now ∧ t.now = s.now ∧ t.store.position = none ∧ t.store.doorOpen = s.store.doorOpen
      ∧ t.store.carousel = (if s.store.doorOpen then .haltedHoming else .homing (s.now + 40000))
      ∧ ∀ i, t.counts.get i
          = if t.inWindow 0 = true ∧ (a.retainedIntact && s.intake.windowMark) = false then
              ⟨0, 0, (matchCount ((storedTables s).depositors.get i) (foundCount a s i)).token⟩
            else matchCount ((storedTables s).depositors.get i) (foundCount a s i) := by
  have four : started a s 4 = (started a s 3).phase4 :=
    started_four.trans (between_nothing nothing ..)
  have five : started a s 5 = (started a s 4).phase5 :=
    started_five.trans (between_nothing nothing ..)
  have six : started a s 6 = (started a s 5).phase6 :=
    started_six.trans (between_nothing nothing ..)
  have seven : started a s 7 = (started a s 4).phase5.phase6.phase7 := by rw [started_seven, six, five]
  obtain ⟨now3, door3, mark3, counts3⟩ := started_three_calm (s := s) nothing
  obtain ⟨-, -, intakeX, countsX⟩ := strandedAtStart_calm (started a s 3)
  obtain ⟨now4, door4, mark4, counts4⟩ := phase4_calm (started a s 3)
  rw [← four] at now4 door4 mark4 counts4
  obtain ⟨now7, position7, door7, carousel7, intake7, counts7⟩ := homed_calm (started a s 4)
  rw [← seven] at now7 position7 door7 carousel7 intake7 counts7
  have inWindow : (started a s 7).inWindow 0 = (started a s 3).strandedAtStart.inWindow 0 := by
    rw [← mark4, ← intake7]
    exact (started_seven_under (a := a) (s := s)).timed.2.symm
  have now5 : (started a s 5).now = (started a s 4).now := by
    rw [five]
    rfl
  refine ⟨now5.trans (now4.trans now3), now7.trans (now4.trans now3), position7, door7.trans (door4.trans door3), ?_,
    fun i => ?_⟩
  · rw [carousel7, door4, door3, now4, now3]
    rfl
  · rw [counts7, counts4, evalWindow_counts_get, countsX, counts3, intakeX, mark3, inWindow]

end State

end Sys2Proof.Machine
end

section
/-! PROOFS. Start-up, cut short or whole (R188 to R190). -/

namespace Sys2Proof.Machine

open Sys2Proof

variable {s u v : State} {a : StartUpArgs}

namespace State

/-! ## The end of a whole start-up -/

/-- The state at the end of a start-up that completes. -/
def startedUp (a : StartUpArgs) (s : State) : State := (started a s 7).pump

theorem startedUp_eq :
    startedUp a s
      = (started a s 7).setOffice
          { (started a s 7).office with
            transmitter := some (.notice
              ((started a s 7).noticeContent (Cause.intake.bit ||| (started a s 7).flagCauses)))
            notice := none, count := 0, timer := none } :=
  pump_notice started_seven_under.standing.transmitter started_seven_under.standing.replies started_seven_notice

theorem startUpEvent_completes (whole : a.ending = .completes) : startUpEvent a (offState s) = startedUp a s := by
  unfold startUpEvent
  rw [whole]
  rfl

theorem startedUp_retained : (startedUp a s).retained = startRetained a s (ticksTo a 6) :=
  (pump_part retained (fun _ _ => rfl) _).trans started_seven_under.standing.retained

/-- A part of what is found is that of the one store or of the other. -/
theorem foundRetained_part {β : Type} (f : Retained → β) :
    f (foundRetained a s) = if a.retainedIntact = false then f .afresh else f s.retained := apply_ite f ..

/-- What the retained store comes to (R110, R136, R188). -/
theorem startedUp_retained_parts :
    let t := startedUp a s
    t.cover.committed = (if a.retainedIntact = false then 0 else s.cover.committed)
      ∧ t.journal.next = (if a.retainedIntact = false then 1 else s.journal.next)
      ∧ t.journal.last = (if a.retainedIntact = false then 0 else s.journal.last)
      ∧ t.journal.entries = strandFound (if a.retainedIntact = false then [] else s.journal.entries)
      ∧ t.store.queues = (if a.retainedIntact = false then PerHatch.all [] else s.store.queues)
      ∧ t.intake.clock = (if a.retainedIntact = false then none else s.intake.clock).map nextTime^[ticksTo a 6]
      ∧ t.intake.enable = (if a.retainedIntact = false then false else s.intake.enable) := by
  have retained := startedUp_retained (a := a) (s := s)
  refine ⟨(congrArg Retained.committed retained :).trans (foundRetained_part Retained.committed),
    (congrArg Retained.next retained :).trans (foundRetained_part Retained.next),
    (congrArg Retained.last retained :).trans (foundRetained_part Retained.last),
    (congrArg Retained.entries retained :).trans (congrArg strandFound (foundRetained_part Retained.entries)),
    (congrArg Retained.queues retained :).trans (foundRetained_part Retained.queues),
    (congrArg Retained.clock retained :).trans (congrArg (Option.map _) (foundRetained_part Retained.clock)),
    (congrArg Retained.enable retained :).trans (foundRetained_part Retained.enable)⟩

theorem startedUp_bins_lost (lost : a.retainedIntact = false) (b : BinNo) :
    (startedUp a s).bin b = ⟨.unknown, [], 0, 0, 0⟩ := by
  have bins : (startedUp a s).store.bins = Tab.fill 30 Bin.lost :=
    (congrArg Retained.bins startedUp_retained :).trans (startRetained_bins_lost lost _)
  unfold bin
  rw [bins, Tab.get_fill]
  rfl

theorem startedUp_bins_intact (intact : ¬a.retainedIntact = false) :
    (startedUp a s).store.bins = (s.inChute.foldl releasePlace s).store.bins :=
  (congrArg Retained.bins startedUp_retained :).trans (startRetained_bins_intact intact _)

/-- The clock is UNSET, or it shows the time found with every advance since. -/
theorem startedUp_clock :
    (a.retainedIntact = false ∨ s.intake.clock = none → (startedUp a s).intake.clock = none)
      ∧ ∀ c, ¬a.retainedIntact = false → s.intake.clock = some c →
          (startedUp a s).intake.clock = some (nextTime^[ticksTo a 6] c) := by
  obtain ⟨-, -, -, -, -, clock, -⟩ := startedUp_retained_parts (a := a) (s := s)
  refine ⟨fun unset => ?_, fun c intact found => ?_⟩
  · rw [clock]
    by_cases lost : a.retainedIntact = false
    · rw [if_pos lost]
      rfl
    · rw [if_neg lost, unset.resolve_left lost]
      rfl
  · rw [clock, if_neg intact, found]
    rfl

theorem ticksTo_six (a : StartUpArgs) :
    ticksTo a 6 = (a.during.filter fun e => decide (1 ≤ e.1 ∧ e.1 ≤ 6 ∧ e.2 = .clockAdvance)).length := by
  rw [← ticksAfter_total]
  simp only [ticksTo, Nat.zero_add]

theorem startedUp_timed : (startedUp a s).Timed := by
  obtain ⟨state, mark⟩ := (started_seven_under (a := a) (s := s)).timed
  unfold startedUp Timed
  rw [pump_intake]
  exact ⟨state.trans (pump_part intakeTarget (fun _ _ => rfl) _).symm,
    mark.trans (pump_part (fun x : State => x.inWindow 0) (fun _ _ => rfl) _).symm⟩

/-- The accounts are sound: nothing is held, and no machine is in flight. -/
theorem startedUp_sound : (startedUp a s).Sound := by
  have standing := (started_seven_under (a := a) (s := s)).standing
  have tables := (started_seven_under (a := a) (s := s)).loaded.tables
  have committed : (started a s 7).cover.committed = (foundRetained a s).committed :=
    (congrArg Retained.committed standing.retained :)
  have offline (h : Hatch) : (startedUp a s).drop h = .offline := (pump_drop _ h).trans (standing.rest.offline h)
  have sums (f : Holds → Nat) (none : f ⟨0, 0, 0, 0⟩ = 0) : (startedUp a s).sumDrops f = 0 := by
    simp [sumDrops, offline, Drop.holds, none, Hatch.all]
  refine ⟨fun h _ => offline h, ?_, ?_⟩
  · unfold HoldsAgree
    rw [sums _ rfl, sums _ rfl, sums _ rfl]
    unfold startedUp
    rw [pump_cover, pump_journal, pump_store]
    exact ⟨standing.held, standing.slotHolds, standing.holds⟩
  · unfold CoverBound startedUp
    rw [pump_cover, pump_tables, tables, standing.held, committed]
    exact le_max_right ..

/-- The start-up notice shows the state at the end, and its causes are INTAKE and the classes of the flags (R181). -/
theorem startedUp_transmitter :
    let t := startedUp a s
    t.office.transmitter = some (.notice (t.noticeContent
      (Cause.intake.bit
        ||| (if t.office.flags &&& ~~~(storedTables s).alertMask &&& 0x1FFF00#21 ≠ 0 then Cause.alarm.bit else 0)
        ||| (if t.office.flags &&& ~~~(storedTables s).alertMask &&& 0x0000FF#21 ≠ 0 then Cause.attention.bit
          else 0)))) := by
  have mask : (started a s 7).tables.alertMask = (storedTables s).alertMask :=
    (congrArg Tables.alertMask started_seven_under.loaded.tables :)
  dsimp only
  rw [startedUp_eq]
  dsimp only [setOffice, noticeContent]
  unfold flagCauses newlyLatched
  rw [mask, BitVec.or_assoc]
  simp only [decide_eq_true_eq]
  rfl

theorem startedUp_latched (f : Flag) : (startedUp a s).latched f = (started a s 7).latched f := by
  rw [startedUp_eq]
  rfl

/-- What start-up makes of the tables, the night's tokens and the office port, but for its notice. -/
theorem startedUp_loaded :
    let t := startedUp a s
    t.tables = { storedTables s with limit := max (storedTables s).limit t.cover.committed }
      ∧ t.journal.epoch = startEpoch a s
      ∧ (∀ i, (t.counts.get i).token = (matchCount ((storedTables s).depositors.get i) (foundCount a s i)).token)
      ∧ t.mapAccess = ⟨0, 1020, 0⟩
      ∧ t.office.unexpectedDrops
        = min (a.during.filter fun e => decide (5 ≤ e.1 ∧ e.1 ≤ 6 ∧ e.2 = .dropPulse)).length 65535
      ∧ t.latched .unexpectedDrop
        = decide (0 < (a.during.filter fun e => decide (5 ≤ e.1 ∧ e.1 ≤ 6 ∧ e.2 = .dropPulse)).length)
      ∧ t.latched .retainedLost = decide (a.retainedIntact = false) ∧ t.latched .tableStoreBad = !storeGood s := by
  have loaded := (started_seven_under (a := a) (s := s)).loaded
  have committed : (startedUp a s).cover.committed = (foundRetained a s).committed :=
    (congrArg Retained.committed startedUp_retained :)
  have drops : (started a s 7).office.unexpectedDrops
      = min (a.during.filter fun e => decide (5 ≤ e.1 ∧ e.1 ≤ 6 ∧ e.2 = .dropPulse)).length 65535 := by
    rw [loaded.drops, iterate_bump, pulsesAfter_total]
  have shown := loaded.shown
  unfold DropShown at shown
  dsimp only
  rw [startedUp_latched, startedUp_latched, startedUp_latched, committed]
  refine ⟨(pump_tables _).trans loaded.tables, (congrArg Journal.epoch (pump_journal _)).trans loaded.epoch,
    fun i => ?_, (pump_mapAccess _).trans loaded.mapAccess, (pump_office_unexpectedDrops _).trans drops, ?_,
    loaded.lost, loaded.bad⟩
  · rw [← loaded.tokens, startedUp, pump_counts]
  · rw [shown, drops]
    exact decide_eq_decide.2 (by omega)

/-- A port and its drop machine at the end. -/
theorem startedUp_port (h : Hatch) :
    let t := startedUp a s
    t.drop h = .offline ∧ (t.port h).faultFlag = false ∧ (t.port h).inverted = false
      ∧ (t.port h).depth = ((storedTables s).configs.get h).depth ∧ (t.port h).zeroArmed = false
      ∧ (t.port h).link
        = if h.num ≤ a.hatches ∧ ((storedTables s).configs.get h).enable = true then
            .holdOff ((started a s 5).now + 1500)
          else .disabled := by
  dsimp only [startedUp]
  rw [pump_port, pump_drop]
  exact started_port h

/-- A fitted and enabled port is in HOLD_OFF, every other is DISABLED (R152). -/
theorem startedUp_link (h : Hatch) :
    if h.num ≤ a.hatches ∧ ((storedTables s).configs.get h).enable = true then
      ∃ x, ((startedUp a s).port h).link = .holdOff x
    else ((startedUp a s).port h).link = .disabled := by
  obtain ⟨-, -, -, -, -, link⟩ := startedUp_port (a := a) (s := s) h
  rw [link]
  split
  · exact ⟨_, rfl⟩
  · rfl

theorem startedUp_tableStore :
    (startedUp a s).tableStore
      = { s.tableStore with
          good := storeGood s
          epoch := if storeGood s then (startedUp a s).journal.epoch else s.tableStore.epoch
          writing := false } := by
  obtain ⟨-, epoch, -⟩ := startedUp_loaded (a := a) (s := s)
  rw [epoch]
  exact (pump_tableStore _).trans started_seven_under.standing.tableStore

/-- With nothing between the phases (R136, R146, R190). -/
theorem startedUp_calm (nothing : a.during = []) :
    let t := startedUp a s
    t.now = s.now ∧ t.store.position = none ∧ t.store.doorOpen = s.store.doorOpen
      ∧ t.store.carousel = (if s.store.doorOpen then .haltedHoming else .homing (s.now + 40000))
      ∧ (∀ h : Hatch, h.num ≤ a.hatches → ((storedTables s).configs.get h).enable = true →
        (t.port h).link = .holdOff (s.now + 1500))
      ∧ ∀ i, t.counts.get i
          = if t.inWindow 0 = true ∧ ¬a.retainedIntact = false ∧ s.intake.windowMark = false then
              ⟨0, 0, (matchCount ((storedTables s).depositors.get i) (foundCount a s i)).token⟩
            else matchCount ((storedTables s).depositors.get i) (foundCount a s i) := by
  obtain ⟨now5, now, position, door, carousel, counts⟩ := started_calm (s := s) nothing
  have inWindow : (startedUp a s).inWindow 0 = (started a s 7).inWindow 0 :=
    pump_part (fun x : State => x.inWindow 0) (fun _ _ => rfl) _
  have lostClock : a.retainedIntact = false → (startedUp a s).inWindow 0 = false := fun lost => by
    unfold State.inWindow
    rw [startedUp_clock.1 (.inl lost)]
  have rises : ((startedUp a s).inWindow 0 = true ∧ (a.retainedIntact && s.intake.windowMark) = false)
      ↔ ((startedUp a s).inWindow 0 = true ∧ ¬a.retainedIntact = false ∧ s.intake.windowMark = false) := by
    cases intact : a.retainedIntact with
    | false => simp [lostClock intact]
    | true => simp
  refine ⟨(pump_now _).trans now, (congrArg Store.position (pump_store _)).trans position,
    (congrArg Store.doorOpen (pump_store _)).trans door, (congrArg Store.carousel (pump_store _)).trans carousel,
    fun h fitted enabled => ?_, fun i => ?_⟩
  · obtain ⟨-, -, -, -, -, link⟩ := startedUp_port (a := a) (s := s) h
    rw [link, if_pos ⟨fitted, enabled⟩, now5]
  · have counted := counts i
    rw [← inWindow] at counted
    simp only [rises] at counted
    exact (congrArg (fun x : Tab NightCount 512 => x.get i) (pump_counts _)).trans counted

end State

open State in
/-- Settles O60: a cut start-up is an abandoned one; a whole one is followed from phase to phase, what stands through
the events between the phases being said once by `Passed`. -/
theorem startUpRebuildsFromTheStores : Obligations.StartUpRebuildsFromTheStores := by
  unfold Obligations.StartUpRebuildsFromTheStores
  refine ⟨fun a s short => ?cut, fun a s whole => ?whole⟩
  case cut =>
    obtain ⟨x, eq⟩ := startUpEvent_cut (u := offState s) short
    obtain ⟨off, silent, ports⟩ := abandon_silent x
    exact ⟨_, exec_startUp a s, eq ▸ off, eq ▸ silent, eq ▸ ports, cut_before_epochWrite, cut_in_epochWrite⟩
  case whole =>
    have standing := (started_seven_under (a := a) (s := s)).standing
    obtain ⟨committed, next, last, entries, queues, -, enable⟩ := startedUp_retained_parts (a := a) (s := s)
    obtain ⟨tables, epoch, tokens, mapAccess, drops, dropShown, lost, bad⟩ := startedUp_loaded (a := a) (s := s)
    obtain ⟨unset, set⟩ := startedUp_clock (a := a) (s := s)
    obtain ⟨intakeState, mark⟩ := startedUp_timed (a := a) (s := s)
    refine ⟨startedUp a s, startUpEvent_completes whole ▸ exec_startUp a s, ?running, ?straps, tables, committed, ?held,
      ?slotHolds, ?holds, next, last, ?entries, epoch, startedUp_tableStore, startedUp_bins_lost, startedUp_bins_intact,
      queues, unset, ?clock, enable, intakeState, mark, tokens, ?lastGranted, ?ports, mapAccess, ?hand, ?timer, ?count,
      drops, dropShown, ?powerRestart, lost, bad, startedUp_transmitter, ?notice, ?replies, startedUp_sound,
      pump_nothingWaits _, startedUp_calm⟩
    case running => exact (pump_part running (fun _ _ => rfl) _).trans standing.running
    case straps => exact (pump_straps _).trans standing.straps
    case held => exact (congrArg Cover.held (pump_cover _)).trans standing.held
    case slotHolds => exact (congrArg Journal.slotHolds (pump_journal _)).trans standing.slotHolds
    case holds => exact (congrArg Store.holds (pump_store _)).trans standing.holds
    case entries =>
      rw [entries]
      split <;> rfl
    case clock =>
      intro c intact found
      refine ⟨_, set c intact found, ?_⟩
      rw [← ticksTo_six]
      exact iterate_nextTime_seconds ..
    case lastGranted => exact (congrArg Store.lastGranted (pump_store _)).trans started_seven_lastGranted
    case ports =>
      intro h
      obtain ⟨drop, faultFlag, inverted, depth, zeroArmed, -⟩ := startedUp_port (a := a) (s := s) h
      exact ⟨drop, faultFlag, inverted, depth, zeroArmed, startedUp_link h⟩
    case powerRestart => exact (startedUp_latched _).trans (phase7_powerRestart _)
    case hand =>
      rw [startedUp_eq]
      exact standing.hand
    case replies =>
      rw [startedUp_eq]
      exact standing.replies
    all_goals
      rw [startedUp_eq]
      rfl

end Sys2Proof.Machine
end

section
/-! PROOFS. Raised flags and the near marks (R92, R109, R114, R175). -/

namespace Sys2Proof.Machine

open Sys2Proof

namespace State

/-- A flag that is clear latches and, unless masked, triggers by its class (R175). -/
theorem raise_eq (s : State) (f : Flag) :
    s.raise f =
      if s.office.flags.getLsbD f.position then s
      else
        { s with
          office :=
            { s.office with
              flags := s.office.flags ||| BitVec.ofNat 21 (2 ^ f.position)
              notice :=
                if s.tables.alertMask.getLsbD f.position then s.office.notice
                else if f.position < 8 then some (s.office.notice.getD 0 ||| Cause.attention.bit)
                else some (s.office.notice.getD 0 ||| Cause.alarm.bit) } } := by
  unfold raise
  by_cases latched : s.office.flags.getLsbD f.position = true
  · exact (if_pos latched).trans (if_pos latched).symm
  · refine (if_neg latched).trans (Eq.trans ?_ (if_neg latched).symm)
    by_cases masked : s.tables.alertMask.getLsbD f.position = true
    · refine (if_pos masked).trans ?_
      rw [if_pos masked]
      rfl
    · refine (if_neg masked).trans ?_
      rw [if_neg masked]
      by_cases attention : f.position < 8
      · have cls : f.isAlarm = false := decide_eq_false (by omega)
        rw [cls, if_pos attention]
        rfl
      · have cls : f.isAlarm = true := decide_eq_true (by omega)
        rw [cls, if_neg attention]
        rfl

end State

/-- Settles O18: a raised flag by latched, masked and class, and each near mark as its evaluation is defined. -/
theorem raisedFlagsAndNearMarks : Obligations.RaisedFlagsAndNearMarks := by
  unfold Obligations.RaisedFlagsAndNearMarks
  have rises (a b : Bool) : (a && !b) = true ↔ a = true ∧ b = false := by cases a <;> cases b <;> decide
  refine ⟨State.raise_eq, fun s => ?_, fun s => ?_, fun s => ?_⟩
  · unfold State.evalCover
    exact if_congr (rises _ _) rfl rfl
  · unfold State.evalJournal
    exact if_congr (rises _ _) rfl rfl
  · unfold State.evalStore
    exact if_congr (rises _ _) rfl rfl

end Sys2Proof.Machine
end

section
/-! PROOFS. JOURNAL_RESOLVE (R88, R105, R106). -/

namespace Sys2Proof.Machine

open Sys2Proof

variable {s : State} {n : Nat} {e : Entry} {b : BinNo}

/-- A bin's record without one entry's place and totals (R106). -/
def Bin.without (r : Bin) (e : Entry) : Bin :=
  { r with
    arrived := r.arrived.filter fun k => decide (k ≠ e.number)
    mass := r.mass - (e.mass.getD e.expected)
    value := r.value - e.total }

namespace State

/-! ## JOURNAL_RESOLVE (R105, R106) -/

/-- The journal with the entry of a number RECONCILED and its fields kept. -/
def reconciledJournal (s : State) (n : Nat) : Journal :=
  { s.journal with
    entries := s.journal.entries.map fun x => if x.number = n then { x with state := .reconciled } else x }

/-- The accounts with one entry RECONCILED and its D taken from S; the near mark is not yet evaluated. -/
def reconciled (s : State) (n total : Nat) : State :=
  { s with
    journal := s.reconciledJournal n
    cover := { s.cover with committed := s.cover.committed - total } }

theorem findEntry_none (absent : ∀ e ∈ s.journal.entries, e.number ≠ n) : s.findEntry n = none :=
  List.find?_eq_none.2 fun e mem => by simpa using absent e mem

theorem journalResolve_notFound (named : n ≠ 0) (absent : s.findEntry n = none) :
    s.journalResolve n = s.answer 0x49 .notFound [] := by
  simp [journalResolve, named, absent]

theorem journalResolve_refused (named : n ≠ 0) (found : s.findEntry n = some e)
    (refused : e.state = .inChute ∨ e.state = .inTray ∨ e.state = .reconciled) :
    s.journalResolve n = s.answer 0x49 .state [] := by
  rcases refused with state | state | state <;> simp [journalResolve, named, found, state]

theorem journalResolve_stranded (named : n ≠ 0) (found : s.findEntry n = some e) (state : e.state = .stranded) :
    s.journalResolve n = (s.resolveStranded e).answerResolved n := by
  simp [journalResolve, named, found, state]

theorem journalResolve_binned (named : n ≠ 0) (found : s.findEntry n = some e) (state : e.state = .binned) :
    s.journalResolve n = (s.resolveBinned e).answerResolved n := by
  simp [journalResolve, named, found, state]

theorem resolveStranded_eq (s : State) (e : Entry) : s.resolveStranded e = (s.reconciled e.number e.total).evalCover :=
  rfl

theorem resolveBinned_eq (s : State) (has : e.bin = some b) :
    s.resolveBinned e
      = evalIntake (evalStore (evalCover
          { s.reconciled e.number e.total with
            store := { s.store with bins := s.store.bins.put b ((s.bin b).without e) } })) := by
  unfold resolveBinned unfile
  rw [has]
  rfl

theorem answerResolved_eq {u : State} {c : Nat} (committed : u.cover.committed = c) (n : Nat) :
    u.answerResolved n = u.answer 0x49 .ok (bytesOf 4 n ++ bytesOf 1 4 ++ bytesOf 4 c) := by
  subst committed
  rfl

end State

open State in
/-- Settles O32: the request by the state of the entry found, and each reconciliation as one change of journal, cover and
store with the evaluations that follow. -/
theorem journalResolveReconcilesOneEntry : Obligations.JournalResolveReconcilesOneEntry := by
  unfold Obligations.JournalResolveReconcilesOneEntry
  refine fun s n ready => ⟨fun zero => exec_request_same rfl ready (if_pos zero), fun named absent => ?notFound,
    fun e named found => ?found⟩
  case notFound => exact exec_request_same rfl ready (journalResolve_notFound named (findEntry_none absent))
  case found =>
    obtain rfl := findEntry_number found
    refine ⟨fun refused => ?refused, fun stranded => ?stranded, fun b binned has => ?binned⟩
    case refused => exact exec_request_same rfl ready (journalResolve_refused named found refused)
    case stranded =>
      have answered := answerResolved_eq (evalCover_cover_committed (s.reconciled e.number e.total)) e.number
      exact exec_request_answered rfl ready
        ((journalResolve_stranded named found stranded).trans answered) (resolveStranded_kept s e)
    case binned =>
      have kept := resolveBinned_kept s e
      have resolved := journalResolve_binned named found binned
      rw [resolveBinned_eq s has] at kept resolved
      exact exec_request_answered rfl ready (resolved.trans (answerResolved_eq (by simp [reconciled]) _)) kept

end Sys2Proof.Machine
end

section
/-! PROOFS. BIN_CLEAR (R88, R106, R132). -/

namespace Sys2Proof.Machine

open Sys2Proof

variable {s : State} {b : BinNo}

namespace State

/-! ## BIN_CLEAR (R132) -/

theorem deliveringTo_iff (s : State) (b : BinNo) :
    s.deliveringTo b = true ↔ ∃ g release deadline, s.store.carousel = .delivering g b release deadline := by
  unfold deliveringTo
  cases s.store.carousel <;> simp

theorem clearable_iff (s : State) (b : BinNo) :
    s.clearable b = true
      ↔ (s.intake.state = .stopped ∨ s.intake.state = .closed) ∧ (s.bin b).pending = 0
        ∧ ¬∃ g release deadline, s.store.carousel = .delivering g b release deadline := by
  rw [← deliveringTo_iff]
  simp [clearable, and_assoc]

theorem binClear_range (s : State) {n : Nat} (beyond : 30 ≤ n) : s.binClear n = s.answer 0x50 .range [] := by
  simp [binClear, binOf?_none beyond]

theorem binClear_val (s : State) (b : BinNo) :
    s.binClear b.val
      = if s.clearable b then
          (s.clearBin b).answer 0x50 .ok
            (Out.u8 (s.bin b).arrived.length ++ Out.u32 (s.clearBin b).cover.committed)
        else s.answer 0x50 .state [] := by
  simp [binClear]

theorem clearBin_committed (s : State) (b : BinNo) :
    (s.clearBin b).cover.committed = s.cover.committed - s.valueOf (s.bin b).arrived := by
  simp [clearBin, reconcileCover, reconcileAll]

end State

open State in
/-- Settles O34: the request by `clearable`, and its change `clearBin`, which takes the listed entries' D from S. -/
theorem binClearCountsABinOut : Obligations.BinClearCountsABinOut := by
  unfold Obligations.BinClearCountsABinOut
  refine fun s ready => ⟨fun n beyond => exec_request_same rfl ready (s.binClear_range beyond), fun b =>
    ⟨fun refused => ?refused, fun accepted => ?accepted⟩⟩
  case refused =>
    have closed : ¬s.clearable b = true := fun allowed => refused ((s.clearable_iff b).1 allowed)
    exact exec_request_same rfl ready ((s.binClear_val b).trans (if_neg closed))
  case accepted =>
    have cleared := (s.binClear_val b).trans (if_pos ((s.clearable_iff b).2 accepted))
    rw [clearBin_committed] at cleared
    exact exec_request_answered rfl ready cleared (s.clearBin_kept b)

end Sys2Proof.Machine
end

section
/-! SUPPORT. The accounts as one drop machine changes what it owns (R83, R103, R113): the sums over the four machines
follow it, and each operation of the drop machine and of the hatch port leaves sound accounts sound. -/

namespace Sys2Proof.Machine

open Sys2Proof

variable {s t u : State} {h k : Hatch}

/-- From `s` to `t` no hatch but `h` changed its link or what its machine owns. -/
structure OthersStand (h : Hatch) (s t : State) : Prop where
  owned : ∀ k, h ≠ k → (t.drop k).holds = (s.drop k).holds
  offline : ∀ k, h ≠ k → s.drop k = .offline → t.drop k = .offline
  link : ∀ k, h ≠ k → (t.port k).link = (s.port k).link

namespace OthersStand

theorem trans (a : OthersStand h s t) (b : OthersStand h t u) : OthersStand h s u where
  owned k other := (b.owned k other).trans (a.owned k other)
  offline k other e := b.offline k other (a.offline k other e)
  link k other := (b.link k other).trans (a.link k other)

/-- Where the other ports are those of `s`. -/
theorem ofPorts (ports : ∀ k, h ≠ k → t.port k = s.port k) : OthersStand h s t where
  owned k other := by unfold State.drop; rw [ports k other]
  offline k other e := by unfold State.drop at e ⊢; rwa [ports k other]
  link k other := by rw [ports k other]

end OthersStand

theorem Quiet.othersStand (q : Quiet s t) : OthersStand h s t :=
  ⟨fun k _ => q.owned k, fun k _ => q.offline k, fun k _ => q.link k⟩

theorem Quiet.answer (q : Quiet s t) (c : Nat) (x : Result) (d : List Byte) : Quiet s (t.answer c x d) :=
  q.trans (State.answer_quiet ..)

namespace State

/-! ## The sums over the four machines -/

/-- A sum over the four machines follows what hatch `h` owns. -/
theorem sumDrops_moved (f : Holds → Nat) (others : OthersStand h s t) :
    t.sumDrops f + f (s.drop h).holds = s.sumDrops f + f (t.drop h).holds := by
  have owned := others.owned
  cases h <;> simp [sumDrops, Hatch.all, owned] <;> omega

/-- What one machine owns is part of the sum. -/
theorem owned_le_sumDrops (s : State) (h : Hatch) (f : Holds → Nat) : f (s.drop h).holds ≤ s.sumDrops f := by
  cases h <;> simp [sumDrops, Hatch.all] <;> omega

/-- What the three accounts hold for a machine is at most what they hold. -/
theorem HoldsAgree.owned_le (agree : s.HoldsAgree) (h : Hatch) :
    (s.drop h).holds.cover ≤ s.cover.held ∧ (s.drop h).holds.slots ≤ s.journal.slotHolds
      ∧ (s.drop h).holds.store ≤ s.store.holds := by
  obtain ⟨cover, slots, store⟩ := agree
  rw [cover, slots, store]
  exact ⟨s.owned_le_sumDrops h _, s.owned_le_sumDrops h _, s.owned_le_sumDrops h _⟩

namespace Sound

theorem links (sound : s.Sound) : s.LinksAgree := And.left sound

theorem agree (sound : s.Sound) : s.HoldsAgree := And.left (And.right sound)

theorem bound (sound : s.Sound) : s.CoverBound := And.right (And.right sound)

/-- Accounts that follow what hatch `h` owns stay sound. -/
theorem moved (sound : s.Sound) (others : OthersStand h s t) (link : (t.port h).link = .up ∨ t.drop h = .offline)
    (held : t.cover.held + (s.drop h).holds.cover = s.cover.held + (t.drop h).holds.cover)
    (slots : t.journal.slotHolds + (s.drop h).holds.slots = s.journal.slotHolds + (t.drop h).holds.slots)
    (holds : t.store.holds + (s.drop h).holds.store = s.store.holds + (t.drop h).holds.store)
    (bound : t.CoverBound) : t.Sound := by
  obtain ⟨links, ⟨held', slots', holds'⟩, -⟩ := sound
  refine ⟨fun k down => ?_, ⟨?_, ?_, ?_⟩, bound⟩
  · by_cases own : h = k
    · subst own
      exact link.resolve_left down
    · exact others.offline k own (links k (others.link k own ▸ down))
  · have moves := sumDrops_moved Holds.cover others
    omega
  · have moves := sumDrops_moved Holds.slots others
    omega
  · have moves := sumDrops_moved Holds.store others
    omega

/-- A machine that is not OFFLINE has its link UP. -/
theorem up (sound : s.Sound) (on : s.drop h ≠ .offline) : (s.port h).link = .up :=
  Decidable.byContradiction fun down => on (sound.links h down)

theorem ite {c : Prop} [Decidable c] (a : t.Sound) (b : u.Sound) : (if c then t else u).Sound := by
  split <;> assumption

theorem foldl {α : Type} {f : State → α → State} (keeps : ∀ {x : State}, x.Sound → ∀ a, (f x a).Sound) (l : List α)
    (sound : s.Sound) : (l.foldl f s).Sound :=
  List.foldlRecOn (motive := fun x : State => x.Sound) l f sound fun _ before a _ => keeps before a

theorem answer (sound : s.Sound) (c : Nat) (x : Result) (d : List Byte) : (s.answer c x d).Sound :=
  (answer_quiet s c x d).sound sound

/-- With every machine OFFLINE and nothing held the accounts are sound. -/
theorem ofNone (offline : ∀ h, s.drop h = .offline) (held : s.cover.held = 0) (slots : s.journal.slotHolds = 0)
    (holds : s.store.holds = 0) (bound : s.cover.committed ≤ s.tables.limit) : s.Sound := by
  have none (f : Holds → Nat) (zero : f ⟨0, 0, 0, 0⟩ = 0) : s.sumDrops f = 0 := by
    simp [sumDrops, Hatch.all, offline, Drop.holds, zero]
  refine ⟨fun h _ => offline h, ⟨?_, ?_, ?_⟩, ?_⟩
  · rw [held, none _ rfl]
  · rw [slots, none _ rfl]
  · rw [holds, none _ rfl]
  · unfold CoverBound
    omega

end Sound

/-! ## One port -/

/-- A change at one port that leaves what its machine's accounts hold, and its link UP or its machine OFFLINE. -/
theorem modPort_sound (sound : s.Sound) {f : Port → Port}
    (cover : (f (s.port h)).drop.holds.cover = (s.drop h).holds.cover)
    (slots : (f (s.port h)).drop.holds.slots = (s.drop h).holds.slots)
    (store : (f (s.port h)).drop.holds.store = (s.drop h).holds.store)
    (link : (f (s.port h)).link = .up ∨ (f (s.port h)).drop = .offline) : (s.modPort h f).Sound := by
  have port : (s.modPort h f).port h = f (s.port h) := modPort_port_self s h f
  have drop : (s.modPort h f).drop h = (f (s.port h)).drop := congrArg Port.drop port
  refine sound.moved (h := h) (.ofPorts fun k other => modPort_port_ne s other f) ?_ ?_ ?_ ?_ sound.bound
  · rwa [port, drop]
  · rw [drop, cover, modPort_cover]
  · rw [drop, slots, modPort_journal]
  · rw [drop, store, modPort_store]

/-- A change at one port that leaves what its machine owns in whole. -/
theorem modPort_owned_sound (sound : s.Sound) {f : Port → Port} (same : (f (s.port h)).drop.holds = (s.drop h).holds)
    (link : (f (s.port h)).link = .up ∨ (f (s.port h)).drop = .offline) : (s.modPort h f).Sound :=
  modPort_sound sound (congrArg Holds.cover same) (congrArg Holds.slots same) (congrArg Holds.store same) link

/-! ## The ending of a transaction -/

theorem endTransaction_othersStand (s : State) (h : Hatch) (x : Drop) : OthersStand h s (s.endTransaction h x) where
  owned k other := by
    rcases endTransaction_drop_cases s other x with same | ⟨waited, idle⟩
    · rw [same]
    · obtain ⟨t, dl, e⟩ := Drop.code_eq_two.1 waited
      rw [idle, e]
      rfl
  offline k other e := by
    rcases endTransaction_drop_cases s other x with same | ⟨waited, -⟩
    · rwa [same]
    · rw [e] at waited
      cases waited
  link k _ := endTransaction_port_link s h k x

/-- An ending keeps S + H within C: H falls at most, and S and C stand. -/
theorem endTransaction_bound (s : State) (h : Hatch) (x : Drop) (bound : s.CoverBound) :
    (s.endTransaction h x).CoverBound := by
  obtain ⟨held, -⟩ := (endTransaction_endedFrom s h x).accounts
  unfold CoverBound at bound ⊢
  rw [held, endTransaction_cover_committed, endTransaction_tables]
  omega

/-- A transaction that ends gives up what its machine owned. -/
theorem endTransaction_sound (sound : s.Sound) {x : Drop} (free : x.holds = ⟨0, 0, 0, 0⟩) (settled : x.code ≠ 2)
    (link : s.drop h ≠ .offline ∨ x = .offline) : (s.endTransaction h x).Sound := by
  obtain ⟨cover, slots, store⟩ := sound.agree.owned_le h
  obtain ⟨cover', slots', store'⟩ := (endTransaction_endedFrom s h x).accounts
  have ended := endTransaction_drop_self s h x settled
  refine sound.moved (endTransaction_othersStand s h x) ?_ ?_ ?_ ?_ (endTransaction_bound s h x sound.bound)
  · rw [endTransaction_port_link, ended]
    exact link.imp_left sound.up
  all_goals
    rw [ended, free]
    dsimp only
    omega

theorem faultHatch_sound (sound : s.Sound) (h : Hatch) : (s.faultHatch h).Sound := by
  have flagged := modPort_quiet s h (fun p => { p with faultFlag := true }) (fun _ => rfl) fun _ => rfl
  by_cases stays : s.drop h = .offline ∨ s.drop h = .fault
  · rw [faultHatch_stays s h stays]
    exact flagged.sound sound
  · obtain ⟨on, fit⟩ := not_or.1 stays
    have same : (s.modPort h fun p => { p with faultFlag := true }).drop h = s.drop h := by simp [drop]
    rw [faultHatch_ends s h on fit]
    exact endTransaction_sound (flagged.sound sound) rfl (by decide) (.inl (same ▸ on))

/-- A flag is raised and the hatch faulted. -/
theorem raise_faultHatch_sound (sound : s.Sound) (f : Flag) (h : Hatch) : ((s.raise f).faultHatch h).Sound :=
  faultHatch_sound ((raise_quiet s f).sound sound) h

theorem cancelDrop_sound (sound : s.Sound) (on : s.drop h ≠ .offline) (c : Cancel) : (s.cancelDrop h c).Sound :=
  ((countCancel_quiet _ c).trans (showAt_quiet _ h 28)).sound
    (endTransaction_sound sound rfl (by decide) (.inl on))

theorem dropLink_sound (sound : s.Sound) (h : Hatch) : (s.dropLink h).Sound := by
  obtain ⟨links, agree, bound⟩ := sound
  have dropped := dropLink_linksDropped s h
  obtain ⟨held, -⟩ := (dropLink_endedFrom s h).accounts
  refine ⟨dropped.linksAgree links, dropped.agree agree, ?_⟩
  unfold CoverBound at bound ⊢
  rw [held, dropLink_cover_committed, dropLink_tables]
  omega

/-! ## A declaration that passes (R11) -/

/-- What passes the declaration checks has passed the cover test (R84). -/
theorem checkDeclaration_cover {x : Snapshot} {d : Declaration} {y : Declared}
    (passes : s.checkDeclaration h x d = .ok y) : s.cover.committed + s.cover.held + y.total ≤ s.tables.limit := by
  unfold checkDeclaration at passes
  (repeat' split at passes) <;> cases passes
  next covered _ _ => simpa [coverPasses] using covered

theorem placeHolds_othersStand (s : State) (h : Hatch) (x : Snapshot) (d : Declared) :
    OthersStand h s (s.placeHolds h x d) := by
  unfold placeHolds
  refine OthersStand.trans (.ofPorts fun k other => ?_) (evalIntake_quiet _).othersStand
  rw [showAt_port, if_neg other.symm, setDrop_port, if_neg other.symm]
  exact port_of_ports (by simp) k

/-- A declaration that passed the cover test places its holds. -/
theorem placeHolds_sound (sound : s.Sound) (on : s.drop h ≠ .offline) (free : (s.drop h).holds = ⟨0, 0, 0, 0⟩)
    (x : Snapshot) {d : Declared} (covered : s.cover.committed + s.cover.held + d.total ≤ s.tables.limit) :
    (s.placeHolds h x d).Sound := by
  obtain ⟨drop, -⟩ := placeHolds_drop s h x d
  refine sound.moved (placeHolds_othersStand s h x d) (.inl ?_) ?_ ?_ ?_ ?_
  · rw [placeHolds_port_link]
    exact sound.up on
  · rw [free, drop]
    simp [placeHolds, holdCover, Drop.holds]
  · rw [free, drop]
    simp [placeHolds, placeSlot, Drop.holds]
  · rw [free, drop]
    simp [placeHolds, placeStoreHold, Drop.holds]
  · unfold CoverBound
    simp only [placeHolds, holdCover]
    simp
    omega

theorem takeDeclaration_sound (sound : s.Sound) (h : Hatch) (d : Declaration) : (s.takeDeclaration h d).Sound := by
  unfold takeDeclaration
  split
  · next x _ waits =>
    have on : s.drop h ≠ .offline := by simp [waits]
    have free : (s.drop h).holds = ⟨0, 0, 0, 0⟩ := by rw [waits]; rfl
    unfold processDeclaration
    split
    · next passes => exact placeHolds_sound sound on free x (checkDeclaration_cover passes)
    · exact ((setDrop_quiet s h .idle on free.symm).trans (refuse_quiet ..)).sound sound
  · exact (showAt_quiet ..).sound sound
  all_goals exact sound

/-! ## Commit, verdict and arrival (R13, R17, R20) -/

theorem commit_othersStand (s : State) (h : Hatch) (x : Snapshot) (d : Declared) : OthersStand h s (s.commit h x d) :=
  .ofPorts fun k other => by
    rw [commit_eq, setDrop_port, if_neg other.symm]
    exact port_of_ports (by simp) k

/-- What a commit leaves of the accounts (R13, R86). -/
theorem commit_accounts (s : State) (h : Hatch) (x : Snapshot) (d : Declared) :
    (s.commit h x d).cover.held = s.cover.held - d.total
      ∧ (s.commit h x d).cover.committed = s.cover.committed + d.total
      ∧ (s.commit h x d).journal.slotHolds = s.journal.slotHolds - 1
      ∧ (s.commit h x d).store.holds = s.store.holds ∧ (s.commit h x d).tables = s.tables := by
  obtain ⟨held, moved⟩ := committed_cover s x d
  obtain ⟨-, slots, -⟩ := appendEntry_journal (s.committed x d) (s.newEntry h x d)
  rw [commit_eq]
  simp [held, moved, slots]

/-- A commit moves D from H to S, and the slot hold becomes an entry. -/
theorem commit_sound (sound : s.Sound) {x : Snapshot} {d : Declared} {o p : Bool} {dl : Option Nat}
    (opened : s.drop h = .opened x d o p dl) : (s.commit h x d).Sound := by
  have bound := sound.bound
  obtain ⟨cover, slots, -⟩ := sound.agree.owned_le h
  obtain ⟨held, moved, slots', store, tables⟩ := commit_accounts s h x d
  have weighs : (s.commit h x d).drop h = .weighing x d s.journal.next (s.now + Config.weighTime) :=
    setDrop_drop_self ..
  have up : ((s.commit h x d).port h).link = .up := by
    rw [commit_eq, setDrop_port_link]
    exact (congrArg Port.link (port_of_ports (by simp) h)).trans (sound.up (by simp [opened]))
  rw [opened] at cover slots
  refine sound.moved (commit_othersStand s h x d) (.inl up) ?_ ?_ ?_ ?_
  · simp only [opened, weighs, held, Drop.holds] at cover ⊢
    omega
  · simp only [opened, weighs, slots', Drop.holds] at slots ⊢
    omega
  · simp only [opened, weighs, store, Drop.holds]
  · unfold CoverBound at bound ⊢
    simp only [held, moved, tables, Drop.holds] at cover ⊢
    omega

/-- The bag's store hold is taken up by its bin's record; marks and intake follow (R116). -/
theorem placePending_eq (s : State) (b : BinNo) (mass total : Nat) :
    ∃ r, s.placePending b mass total
      = ((s.setStore { s.store with holds := s.store.holds - 1 }).setBin b r).evalStore.evalIntake := ⟨_, rfl⟩

theorem judged_port_ne (s : State) (x : Snapshot) (d : Declared) (n : Nat) (r : Reasons) (mass : Option Nat)
    (arrival : BitVec 8) (other : h ≠ k) : (s.judged h x d n r mass arrival).port k = s.port k := by
  unfold judged
  rw [setDrop_port, if_neg other.symm, flagVerdict_only_office]
  rfl

theorem judged_port_link (s : State) (x : Snapshot) (d : Declared) (n : Nat) (r : Reasons) (mass : Option Nat)
    (arrival : BitVec 8) : ((s.judged h x d n r mass arrival).port k).link = (s.port k).link := by
  unfold judged
  rw [setDrop_port_link, flagVerdict_only_office]
  rfl

/-- A verdict makes the store hold a pending place. -/
theorem conclude_sound (sound : s.Sound) {x : Snapshot} {d : Declared} {n dl : Nat}
    (weighs : s.drop h = .weighing x d n dl) (r : Reasons) (mass : Option Nat) (arrival : BitVec 8) :
    (s.conclude h x d n r mass arrival).Sound := by
  obtain ⟨-, -, store⟩ := sound.agree.owned_le h
  obtain ⟨record, placed⟩ := placePending_eq (s.judged h x d n r mass arrival)
    (s.chooseBin (verdictOf r) x.entry.homeBin n).1 (mass.getD d.expected) d.total
  have tips := judged_drop s h x d n r mass arrival
  have cover := judged_cover s h x d n r mass arrival
  have slots := congrArg Journal.slotHolds (judged_journal s h x d n r mass arrival)
  have tables := judged_tables s h x d n r mass arrival
  have holds := congrArg Store.holds (judged_store s h x d n r mass arrival)
  rw [conclude_eq, placed]
  refine ((evalStore_quiet _).trans (evalIntake_quiet _)).sound ?_
  have taken (u : State) (y : Store) : (u.setStore y).drop h = u.drop h := rfl
  refine sound.moved (h := h) (.ofPorts fun k other => judged_port_ne s x d n r mass arrival other)
    (.inl ?_) ?_ ?_ ?_ ?_
  · exact (judged_port_link s x d n r mass arrival).trans (sound.up (by simp [weighs]))
  all_goals rw [weighs] at store
  · simp only [setBin, taken, setStore_cover, cover, weighs, tips, Drop.holds]
  · simp only [setBin, taken, setStore_journal, slots, weighs, tips, Drop.holds]
  · simp only [setBin, taken, setStore_store, holds, weighs, tips, Drop.holds] at store ⊢
    omega
  · simpa only [setBin, CoverBound, setStore_cover, setStore_tables, cover, tables] using sound.bound

/-- An arrival gives up a tray place, which no account holds. -/
theorem arrive_sound (sound : s.Sound) {x : Snapshot} {d : Declared} {m dl : Nat} {target : BitVec 8}
    (tips : s.drop h = .tipping x d m target dl) (n : Nat) : (s.arrive h n).Sound := by
  have queued := (((modEntry_quiet s n fun e => { e with state := .inTray }).trans
    (setQueue_quiet _ h (s.queue h ++ [n]))).trans (receiptAt_quiet _ h n)).trans (showAt_quiet _ h 29)
  have owned := queued.owned h
  rw [tips] at owned
  refine ((evalIntake_quiet _).trans (arbiter_quiet _)).sound
    (modPort_sound (h := h) (queued.sound sound) ?_ ?_ ?_ (.inl ?_))
  · exact (congrArg Holds.cover owned).symm
  · exact (congrArg Holds.slots owned).symm
  · exact (congrArg Holds.store owned).symm
  · exact (queued.link h).trans (sound.up (by simp [tips]))

/-! ## One report (R5) -/

theorem alarmOn_sound (sound : s.Sound) (h : Hatch) (given : Bool) (f : Flag) : (s.alarmOn h given f).Sound :=
  .ite (raise_faultHatch_sound sound f h) sound

theorem takeAlarms_sound (sound : s.Sound) (h : Hatch) (r : HeadReport) (surround : Bool) :
    (s.takeAlarms h r surround).Sound := by
  rw [takeAlarms_eq]
  have alarmed := alarmOn_sound (alarmOn_sound sound h (r.tamper || surround) .headAlarm) h r.chuteBlocked .jam
  have printed (x : State) :=
    modPort_quiet x h (fun p => { p with receiptMode := .display }) (fun _ => rfl) fun _ => rfl
  exact .ite (((raise_quiet _ .printer).trans (printed _)).sound alarmed) alarmed

theorem takeOpenFields_sound (sound : s.Sound) {x : Snapshot} {d : Declared} {o p : Bool} {dl : Option Nat}
    (opened : s.drop h = .opened x d o p dl) (r : HeadReport) : (s.takeOpenFields h x d o p dl r).Sound := by
  have on : s.drop h ≠ .offline := by simp [opened]
  exact .ite ((setDrop_quiet s h _ on (by rw [opened]; rfl)).sound sound)
    (.ite (commit_sound sound opened) (.ite (cancelDrop_sound sound on _) sound))

theorem takeFields_sound (sound : s.Sound) (h : Hatch) (r : HeadReport) : (s.takeFields h r).Sound := by
  have forced : (s.forceFlap h).Sound := raise_faultHatch_sound sound _ h
  unfold takeFields
  split
  · exact sound
  · exact .ite forced sound
  · exact .ite forced sound
  · exact .ite forced sound
  · next opened => exact takeOpenFields_sound sound opened r
  · next weighs =>
    exact .ite forced (.ite (raise_faultHatch_sound sound _ h) (.ite (conclude_sound sound weighs ..) sound))
  · next tips => exact .ite forced (.ite (arrive_sound sound tips _) sound)

theorem takePlate_sound (sound : s.Sound) (h : Hatch) (r : HeadReport) : (s.takePlate h r).Sound :=
  have taken := takeFields_sound sound h r
  .ite ((captureZero_quiet ..).sound taken) taken

/-- A token that meets IDLE enters AWAIT_DECL, which owns nothing, or is refused. -/
theorem processToken_quiet (on : s.drop h ≠ .offline) (free : (s.drop h).holds = ⟨0, 0, 0, 0⟩) (token : Nat) :
    Quiet s (s.processToken h token) := by
  unfold processToken
  split
  · next x _ => exact (setDrop_quiet s h (.awaitDecl x _) on free.symm).trans (showAt_quiet ..)
  · exact refuse_quiet ..

theorem takeToken_quiet (s : State) (h : Hatch) (token : Nat) : Quiet s (s.takeToken h token) := by
  unfold takeToken
  split
  · next idle => exact processToken_quiet (by simp [idle]) (by rw [idle]; rfl) token
  · next waits =>
    have left := setDrop_quiet s h .idle (by simp [waits]) (by rw [waits]; rfl)
    exact .ite (.refl s) (left.trans (processToken_quiet (by simp) (by simp [Drop.holds]) token))
  · exact showAt_quiet ..
  · exact showAt_quiet ..
  · exact showAt_quiet ..
  · exact refuse_quiet ..
  · exact .refl s

theorem takeReport_sound (sound : s.Sound) (h : Hatch) (r : HeadReport) (surround : Bool) (token : Option Nat)
    (decl : Option Declaration) : (s.takeReport h r surround token decl).Sound := by
  have plate := takePlate_sound (takeAlarms_sound sound h r surround) h r
  have tokened : (((s.takeAlarms h r surround).takePlate h r).takeTokenPart h token).Sound := by
    cases token with
    | none => exact plate
    | some x => exact (takeToken_quiet _ h x).sound plate
  rw [takeReport_eq]
  cases decl with
  | none => exact tokened
  | some d => exact takeDeclaration_sound tokened h d

/-! ## Release counts and deliveries (R127, R130) -/

theorem examineRelease_sound (sound : s.Sound) (h : Hatch) (c : BitVec 8) : (s.examineRelease h c).Sound := by
  have counted (k : ReleaseCounts) :=
    modPort_quiet s h (fun p => { p with release := some k }) (fun _ => rfl) fun _ => rfl
  unfold examineRelease
  split
  · exact sound
  · exact .ite sound (.ite ((counted _).sound sound) (raise_faultHatch_sound ((counted _).sound sound) _ h))

theorem blameTray_sound (sound : s.Sound) (h : Hatch) (target : BitVec 8) : (s.blameTray h target).Sound := by
  unfold blameTray
  split
  · exact sound
  · exact .ite sound (raise_faultHatch_sound sound _ h)

theorem failDelivery_sound (sound : s.Sound) (g : Grant) (target : BitVec 8) (next : Carousel) :
    (s.failDelivery g target next).Sound :=
  blameTray_sound (((((((strandEntry_quiet s _).trans (releasePending_quiet ..)).trans (popQueue_quiet ..)).trans
    (setCarousel_quiet ..)).trans (raise_quiet ..)).trans (evalIntake_quiet _)).sound sound) ..

/-! ## Leaving UP and coming UP -/

theorem leaveUp_sound (sound : s.Sound) (h : Hatch) : (s.leaveUp h).Sound :=
  (modPort_quiet _ h Port.discard (fun _ => rfl) fun _ => rfl).sound (dropLink_sound sound h)

theorem unlink_sound (sound : s.Sound) (h : Hatch) : (s.unlink h).Sound := .ite (leaveUp_sound sound h) sound

/-- A link that is not UP any more leaves its machine OFFLINE. -/
theorem unlink_drop_self (sound : s.Sound) (h : Hatch) : (s.unlink h).drop h = .offline := by
  unfold unlink
  split
  · unfold leaveUp drop
    rw [modPort_port_self]
    exact dropLink_drop_self s h
  · next down => exact sound.links h down

/-- A machine that is OFFLINE may have its link changed. -/
theorem modPort_offline_sound (sound : s.Sound) (offline : s.drop h = .offline) {f : Port → Port}
    (same : (f (s.port h)).drop = s.drop h) : (s.modPort h f).Sound :=
  modPort_owned_sound sound (congrArg Drop.holds same) (.inr (same.trans offline))

theorem enterHoldOff_sound (sound : s.Sound) (h : Hatch) : (s.enterHoldOff h).Sound :=
  modPort_offline_sound (unlink_sound sound h) (unlink_drop_self sound h) rfl

theorem disablePort_sound (sound : s.Sound) (h : Hatch) : (s.disablePort h).Sound :=
  modPort_offline_sound (unlink_sound sound h) (unlink_drop_self sound h) rfl

theorem sendOffer_sound (sound : s.Sound) (down : (s.port h).link ≠ .up) : (s.sendOffer h).Sound :=
  modPort_offline_sound sound (sound.links h down) rfl

theorem applyConfig_sound (sound : s.Sound) (h : Hatch) (c : HatchConfig) : (s.applyConfig h c).Sound := by
  have taken := ((setTables_quiet s { s.tables with configs := s.tables.configs.set h c } rfl).trans
    (modPort_quiet _ h (fun p =>
      { p with
        streak := if c.autoPolarity then p.streak else 0
        surroundLatch := if c.aux = .surround then p.surroundLatch else false })
      (fun _ => rfl) fun _ => rfl)).sound sound
  exact .ite taken (.ite (enterHoldOff_sound taken h) (disablePort_sound taken h))

/-- A machine whose link is UP leaves OFFLINE for a state that owns nothing. -/
theorem setDrop_joined_sound (sound : s.Sound) (up : (s.port h).link = .up) (offline : s.drop h = .offline) {x : Drop}
    (free : x.holds = ⟨0, 0, 0, 0⟩) : (s.setDrop h x).Sound := by
  have same : x.holds = (s.drop h).holds := by rw [free, offline]; rfl
  exact modPort_owned_sound sound same (.inl up)

theorem joinLink_sound (sound : s.Sound) (up : (s.port h).link = .up) (offline : s.drop h = .offline) (n : Nat) :
    (s.joinLink h n).Sound := by
  have failed := failVerification_quiet s h
  exact .ite (setDrop_joined_sound sound up offline rfl) (.ite (setDrop_joined_sound sound up offline rfl)
    (setDrop_joined_sound (failed.sound sound) ((failed.link h).trans up) (failed.offline h offline) rfl))

theorem takeAnswer_sound (sound : s.Sound) (h : Hatch) (a : HeadAnswer) : (s.takeAnswer h a).Sound := by
  unfold takeAnswer
  split
  · next waits =>
    have offline : s.drop h = .offline := sound.links h (by simp [waits])
    have port := resolveAnswer_port s h a
    have joined : (s.resolveAnswer h a).drop h = .offline := (congrArg Port.drop port).trans offline
    have resolved : (s.resolveAnswer h a).Sound := modPort_offline_sound sound offline rfl
    exact (sendPoll_quiet _ h).sound (joinLink_sound resolved (congrArg Port.link port) joined _)
  · exact (countBad_quiet ..).sound sound
  · exact sound
  · exact sound

/-! ## Frames -/

theorem recordReport_quiet (s : State) (h : Hatch) (r : HeadReport) : Quiet s (s.recordReport h r) :=
  modPort_quiet _ _ _ (fun _ => rfl) fun _ => rfl

theorem takeAnsweringReport_sound (sound : s.Sound) (h : Hatch) (r : HeadReport) :
    (s.takeAnsweringReport h r).Sound :=
  have taken := takeReport_sound ((recordReport_quiet s h r).sound sound) h r (s.surroundDelivered h)
    (delivered (s.port h).snapshot.isNone (s.port h).takenToken r.token)
    (delivered (s.port h).snapshot.isNone (s.port h).takenDecl r.declaration)
  .ite ((baselineRelease_quiet ..).sound taken) (examineRelease_sound taken ..)

theorem takeValidReport_sound (sound : s.Sound) (h : Hatch) (r : HeadReport) : (s.takeValidReport h r).Sound := by
  have bad := (countBad_quiet s h).sound sound
  unfold takeValidReport
  split
  · exact .ite (takeAnsweringReport_sound sound h r) bad
  · exact bad
  · exact sound
  · exact sound

theorem takeFrame_sound (sound : s.Sound) (h : Hatch) (f : HeadFrame) : (s.takeFrame h f).Sound := by
  cases f with
  | report r => exact takeValidReport_sound sound h r
  | answer a => exact takeAnswer_sound sound h a

theorem judgeComplemented_sound (sound : s.Sound) (h : Hatch) (f : HeadFrame) :
    (s.judgeComplemented h f).Sound := by
  have inverted :=
    modPort_quiet s h (fun p => { p with inverted := !p.inverted, streak := 0 }) (fun _ => rfl) fun _ => rfl
  exact .ite ((countBad_quiet s h).sound sound)
    (.ite ((modPort_quiet s h (fun p => { p with streak := p.streak + 1 }) (fun _ => rfl) fun _ => rfl).sound sound)
      (takeFrame_sound ((inverted.trans (raise_quiet ..)).sound sound) h f))

theorem takeComplemented_sound (sound : s.Sound) (h : Hatch) (f : HeadFrame) : (s.takeComplemented h f).Sound := by
  unfold takeComplemented
  split
  · exact sound
  · exact sound
  · exact judgeComplemented_sound sound h f
  · exact judgeComplemented_sound sound h f

end State

end Sys2Proof.Machine
end

section
/-! SUPPORT. What each request and event leaves of the accounts, the links and what the machines own: most leave them
alone, and the others leave sound accounts sound. -/

namespace Sys2Proof.Machine

open Sys2Proof

variable {s t u : State} {h k : Hatch}

namespace State

/-! ## Status, counters, alerts and notices -/

theorem hatchRead_quiet (s : State) (n : Nat) : Quiet s (s.hatchRead n) := by
  unfold hatchRead
  split <;> exact answer_quiet ..

/-- The ports change in their counters alone. -/
theorem clearCounters_quiet (s : State) : Quiet s s.clearCounters where
  held := rfl
  slots := rfl
  holds := rfl
  link h := by cases h <;> rfl
  owned h := by cases h <;> rfl
  offline h e := by cases h <;> exact e
  bound b := b

theorem alertClear_quiet (s : State) (v : Nat) : Quiet s (s.alertClear v) := by
  unfold alertClear
  split
  · exact answer_quiet ..
  · exact (setOffice_quiet ..).answer ..

theorem alertMask_quiet (s : State) (v : Nat) : Quiet s (s.alertMask v) := by
  unfold alertMask
  split
  · exact answer_quiet ..
  · exact (setTables_quiet s _ (by rfl)).answer ..

theorem retimeMitigation_quiet (s : State) : Quiet s s.retimeMitigation := by
  unfold retimeMitigation
  split
  · exact .refl s
  · exact .ite (setOffice_quiet ..) (.ite ((setOffice_quiet ..).trans (trigger_quiet ..)) (setOffice_quiet ..))

theorem applyNoticeSettings_quiet (s : State) : Quiet s s.applyNoticeSettings :=
  (retimeMitigation_quiet s).trans (.ite (trigger_quiet ..) (.refl _))

theorem noticeSet_quiet (s : State) (a : NoticeArgs) : Quiet s (s.noticeSet a) :=
  .ite (((setTables_quiet s _ (by rfl)).trans (applyNoticeSettings_quiet _)).answer ..) (answer_quiet ..)

theorem resetRequest_quiet (s : State) : Quiet s (s.resetRequest ()) := (answer_quiet ..).trans (setOffice_quiet ..)

/-! ## Clock, schedule and intake -/

theorem setClock_quiet (s : State) (a : ClockArgs) : Quiet s (s.setClock a) := by
  unfold setClock
  split
  · exact answer_quiet ..
  · exact ((setIntake_quiet ..).trans (evalTime_quiet _)).answer ..

theorem schedulePut_quiet (s : State) (a : ScheduleArgs) : Quiet s (s.schedulePut a) := by
  unfold schedulePut
  split
  · split
    · exact answer_quiet ..
    · have put (x : Tables) (same : x.limit = s.tables.limit) := setTables_quiet s x same
      exact (Quiet.ite ((put _ (by rfl)).trans (evalTime_quiet _)) (put _ (by rfl))).answer ..
  · exact answer_quiet ..

theorem intakeStart_quiet (s : State) : Quiet s (s.intakeStart ()) :=
  Quiet.answer (.ite (.refl s) ((setIntake_quiet ..).trans (evalIntake_quiet _))) ..

theorem intakeStop_quiet (s : State) : Quiet s (s.intakeStop ()) :=
  Quiet.answer (.ite ((setIntake_quiet ..).trans (evalIntake_quiet _)) (.refl s)) ..

theorem advanceClock_quiet (s : State) (x : ClockTime) : Quiet s (s.advanceClock x) :=
  (reach_quiet ..).trans (setIntake_quiet ..)

/-! ## Tables -/

theorem putDepositor_quiet (s : State) (slot : Slot) (e : Option DepositorEntry) : Quiet s (s.putDepositor slot e) :=
  setTables_quiet s _ (by rfl)

theorem depositorPut_quiet (s : State) (a : DepositorArgs) : Quiet s (s.depositorPut a) := by
  unfold depositorPut
  split
  · exact answer_quiet ..
  · split
    · exact (putDepositor_quiet ..).answer ..
    · split
      · exact ((putDepositor_quiet ..).trans (setCounts_quiet ..)).answer ..
      · exact answer_quiet ..

theorem depositorDrop_quiet (s : State) (token : Nat) : Quiet s (s.depositorDrop token) := by
  unfold depositorDrop
  split
  · exact answer_quiet ..
  · split
    · exact answer_quiet ..
    · exact ((putDepositor_quiet ..).trans (setCounts_quiet ..)).answer ..

theorem depositorSetState_quiet (s : State) (a : DepositorStateArgs) : Quiet s (s.depositorSetState a) := by
  unfold depositorSetState
  split
  · exact answer_quiet ..
  · split
    · exact answer_quiet ..
    · split
      · exact answer_quiet ..
      · exact (putDepositor_quiet ..).answer ..

theorem depositorRead_quiet (s : State) (token : Nat) : Quiet s (s.depositorRead token) := by
  unfold depositorRead
  split
  · exact answer_quiet ..
  · split <;> exact answer_quiet ..

theorem denomPut_quiet (s : State) (a : DenomArgs) : Quiet s (s.denomPut a) := by
  unfold denomPut
  split
  · split
    · exact answer_quiet ..
    · exact (setTables_quiet s _ (by rfl)).answer ..
  · exact answer_quiet ..

theorem tarePut_quiet (s : State) (a : TareArgs) : Quiet s (s.tarePut a) := by
  unfold tarePut
  split
  · exact .ite ((setTables_quiet s _ (by rfl)).answer ..) (answer_quiet ..)
  · exact answer_quiet ..

theorem toleranceSet_quiet (s : State) (a : ToleranceArgs) : Quiet s (s.toleranceSet a) :=
  .ite ((setTables_quiet s _ (by rfl)).answer ..) (answer_quiet ..)

theorem setScreenMode_quiet (s : State) (v : Nat) : Quiet s (s.setScreenMode v) := by
  unfold setScreenMode
  split
  · exact answer_quiet ..
  · exact (setTables_quiet s _ (by rfl)).answer ..

theorem screenRangeAdd_quiet (s : State) (a : RangeArgs) : Quiet s (s.screenRangeAdd a) :=
  .ite (answer_quiet ..) (.ite (answer_quiet ..) (Quiet.answer (setTables_quiet s _ (by rfl)) ..))

theorem screenRead_quiet (s : State) (index : Nat) : Quiet s (s.screenRead index) :=
  .ite (answer_quiet ..) (answer_quiet ..)

theorem mapWindow_quiet (s : State) (a : RangeArgs) : Quiet s (s.mapWindow a) :=
  .ite ((setMapAccess_quiet ..).answer ..) (answer_quiet ..)

theorem mapWrite_quiet (s : State) (a : MapWriteArgs) : Quiet s (s.mapWrite a) :=
  have written (bits : List Bool) : Quiet s (s.writeBits bits) :=
    (setTables_quiet s _ (by rfl)).trans (setMapAccess_quiet ..)
  .ite (answer_quiet ..) (.ite (answer_quiet ..) ((written _).answer ..))

theorem mapRead_quiet (s : State) (n : Nat) : Quiet s (s.mapRead n) :=
  .ite ((setMapAccess_quiet ..).answer ..) (answer_quiet ..)

/-! ## Cover account and journal -/

/-- C takes a value that S + H does not exceed. -/
theorem setLimit_sound (sound : s.Sound) {c : Nat} (fits : s.cover.committed + s.cover.held ≤ c) :
    (s.setLimit c).Sound := by
  obtain ⟨links, agree, -⟩ := sound
  exact (evalCover_quiet _).sound (s := s.setTables { s.tables with limit := c }) ⟨links, agree, fits⟩

theorem coverSet_sound (sound : s.Sound) (v : Nat) : (s.coverSet v).Sound := by
  unfold coverSet
  split
  · exact sound.answer ..
  · split
    · next fits => exact (setLimit_sound sound fits).answer ..
    · exact (setLimit_sound sound (le_refl _)).answer ..

theorem journalRead_quiet (s : State) (a : JournalReadArgs) : Quiet s (s.journalRead a) :=
  .ite (answer_quiet ..) (answer_quiet ..)

theorem unfile_quiet (s : State) (e : Entry) : Quiet s (s.unfile e) := by
  unfold unfile
  split
  · exact .refl s
  · exact setBin_quiet ..

theorem resolveStranded_quiet (s : State) (e : Entry) : Quiet s (s.resolveStranded e) :=
  (modEntry_quiet ..).trans (reconcileCover_quiet ..)

theorem resolveBinned_quiet (s : State) (e : Entry) : Quiet s (s.resolveBinned e) :=
  ((((unfile_quiet s e).trans (modEntry_quiet ..)).trans (reconcileCover_quiet ..)).trans (evalStore_quiet _)).trans
    (evalIntake_quiet _)

theorem journalResolve_quiet (s : State) (n : Nat) : Quiet s (s.journalResolve n) := by
  unfold journalResolve
  split
  · exact answer_quiet ..
  · split
    · exact answer_quiet ..
    · split
      · exact answer_quiet ..
      · exact answer_quiet ..
      · exact answer_quiet ..
      · exact (resolveStranded_quiet ..).answer ..
      · exact (resolveBinned_quiet ..).answer ..

theorem journalRelease_quiet (s : State) : Quiet s (s.journalRelease ()) :=
  (((setJournal_quiet s _ (by rfl)).trans (evalJournal_quiet _)).trans (evalIntake_quiet _)).answer ..

/-! ## Bins and carousel -/

theorem clearBin_quiet (s : State) (b : BinNo) : Quiet s (s.clearBin b) :=
  ((((setJournal_quiet s _ (by rfl)).trans (reconcileCover_quiet ..)).trans (setBin_quiet ..)).trans
    (evalStore_quiet _)).trans (evalIntake_quiet _)

theorem binClear_quiet (s : State) (v : Nat) : Quiet s (s.binClear v) := by
  unfold binClear
  split
  · exact answer_quiet ..
  · exact .ite ((clearBin_quiet ..).answer ..) (answer_quiet ..)

theorem changeBinState_quiet (s : State) (b : BinNo) (x : BinState) : Quiet s (s.changeBinState b x) :=
  ((setBin_quiet ..).trans (evalStore_quiet _)).trans (evalIntake_quiet _)

theorem binWithdraw_quiet (s : State) (v : Nat) : Quiet s (s.binWithdraw v) := by
  unfold binWithdraw
  split
  · exact answer_quiet ..
  · exact .ite (answer_quiet ..) (Quiet.answer (.ite (.refl s) (changeBinState_quiet ..)) ..)

theorem binRestore_quiet (s : State) (v : Nat) : Quiet s (s.binRestore v) := by
  unfold binRestore
  split
  · exact answer_quiet ..
  · exact .ite ((changeBinState_quiet ..).answer ..) (answer_quiet ..)

theorem binRead_quiet (s : State) (v : Nat) : Quiet s (s.binRead v) := by
  unfold binRead
  split <;> exact answer_quiet ..

theorem carouselHome_quiet (s : State) : Quiet s (s.carouselHome ()) := by
  have homes : Quiet s (s.startHoming.answer 0x54 .ok []) := (startHoming_quiet s).answer ..
  unfold carouselHome
  split
  · exact homes
  · exact homes
  · exact homes
  all_goals exact answer_quiet ..

/-! ## Hatch requests -/

theorem hatchConfig_sound (sound : s.Sound) (a : HatchConfigArgs) : (s.hatchConfig a).Sound := by
  unfold hatchConfig
  split
  · exact .ite (sound.answer ..) ((applyConfig_sound sound ..).answer ..)
  · exact sound.answer ..

theorem hatchCalibrate_quiet (s : State) (a : CalibrateArgs) : Quiet s (s.hatchCalibrate a) := by
  unfold hatchCalibrate
  split
  · exact ((setCalibration_quiet ..).trans (modPort_quiet _ _ _ (by intro; rfl) (by intro; rfl))).answer ..
  · exact answer_quiet ..

theorem hatchRelink_sound (sound : s.Sound) (v : Nat) : (s.hatchRelink v).Sound := by
  unfold hatchRelink
  split
  · exact sound.answer ..
  · exact .ite (sound.answer ..) ((enterHoldOff_sound sound _).answer ..)

theorem hatchShow_quiet (s : State) (a : ShowArgs) : Quiet s (s.hatchShow a) := by
  unfold hatchShow
  split
  · exact answer_quiet ..
  · exact .ite (answer_quiet ..) (.ite ((showAt_quiet ..).answer ..) (answer_quiet ..))

/-- A machine in FAULT whose tray agrees returns to IDLE, and owns nothing in either. -/
theorem clearFault_sound (sound : s.Sound) (fault : s.drop h = .fault) (n : Nat) : (s.clearFault h n).Sound := by
  have returned : (s.returnToService h).Sound :=
    modPort_owned_sound sound (by rw [fault]; rfl) (.inl (sound.up (by simp [fault])))
  exact .ite (returned.answer ..) (((failVerification_quiet s h).answer ..).sound sound)

theorem hatchClear_sound (sound : s.Sound) (v : Nat) : (s.hatchClear v).Sound := by
  unfold hatchClear
  split
  · exact sound.answer ..
  · split
    · exact sound.answer ..
    · split
      · next cleared => exact clearFault_sound sound cleared.1 _
      · exact sound.answer ..

/-! ## Storing and loading the tables -/

theorem storeTablesDone_quiet (s : State) : Quiet s s.storeTablesDone := by
  unfold storeTablesDone
  split
  · exact (setTableStore_quiet ..).answer ..
  · exact .refl s

theorem disarmAll_quiet (s : State) : Quiet s s.disarmAll :=
  .foldl (fun x h => modPort_quiet x h _ (by intro; rfl) (by intro; rfl)) _ s

/-- Loaded tables have their C clamped to S + H (R91). -/
theorem takeLoaded_sound (sound : s.Sound) (x : Tables) : (s.takeLoaded x).Sound := by
  obtain ⟨links, agree, -⟩ := sound
  exact ⟨links, agree, le_max_right ..⟩

theorem loadConfig_sound (x : Tables) (sound : s.Sound) (h : Hatch) : (loadConfig x s h).Sound :=
  .ite sound (applyConfig_sound sound ..)

theorem loadTablesFrom_sound (sound : s.Sound) (x : Tables) : (s.loadTablesFrom x).Sound :=
  have loaded := (((evalCover_quiet _).trans (applyNoticeSettings_quiet _)).trans (disarmAll_quiet _)).sound
    (takeLoaded_sound sound x)
  (evalTime_quiet _).sound (.foldl (loadConfig_sound x) Hatch.all loaded)

theorem loadTables_sound (sound : s.Sound) : (s.loadTables ()).Sound :=
  .ite (sound.answer ..) (.ite ((loadTablesFrom_sound sound _).answer ..) (((raise_quiet ..).answer ..).sound sound))

/-! ## The office port -/

theorem answerUnknown_quiet (s : State) (body : List Byte) : Quiet s (s.answerUnknown body) := by
  unfold answerUnknown
  split
  · exact answerBusy_quiet ..
  · split <;> exact answer_quiet ..

theorem mitigationExpiry_quiet (s : State) : Quiet s s.mitigationExpiry := by
  unfold mitigationExpiry
  split
  · exact .refl s
  · exact ((reach_quiet ..).trans (setOffice_quiet ..)).trans (trigger_quiet ..)

/-! ## Hatch ports -/

theorem pollEvent_quiet (s : State) (h : Hatch) (b : Bool) : Quiet s (s.pollEvent h b) :=
  .ite (((reach_quiet ..).trans (abandonFrame_quiet ..)).trans (sendPoll_quiet ..)) (.refl s)

theorem judgeMisses_sound (sound : s.Sound) (h : Hatch) : (s.judgeMisses h).Sound :=
  .ite (enterHoldOff_sound ((raise_quiet ..).sound sound) h) sound

theorem missEvent_sound (sound : s.Sound) (h : Hatch) : (s.missEvent h).Sound := by
  unfold missEvent
  split
  · refine judgeMisses_sound (Quiet.sound ?_ sound) h
    exact (reach_quiet ..).trans (modPort_quiet _ _ _ (by intro; rfl) (by intro; rfl))
  · exact sound

/-- An OFFER goes out on a link that is not UP. -/
theorem offered_sound (sound : s.Sound) (down : (s.port h).link ≠ .up) (x : Nat) (b : Bool) :
    (((s.reach x).abandonFrame h b).sendOffer h).Sound :=
  have abandoned := (reach_quiet s x).trans (abandonFrame_quiet _ h b)
  sendOffer_sound (abandoned.sound sound) (abandoned.link h ▸ down)

theorem holdOffEvent_sound (sound : s.Sound) (h : Hatch) (b : Bool) : (s.holdOffEvent h b).Sound := by
  unfold holdOffEvent
  split
  · next waits => exact offered_sound sound (by simp [waits]) ..
  · exact sound

theorem offerEvent_sound (sound : s.Sound) (h : Hatch) (b : Bool) : (s.offerEvent h b).Sound := by
  unfold offerEvent
  split
  · next waits => exact offered_sound sound (by simp [waits]) ..
  · exact sound

theorem frameEvent_sound (sound : s.Sound) (h : Hatch) (b : Bool) (f : HeadFrame) : (s.frameEvent h b f).Sound :=
  .ite (takeComplemented_sound sound h f) (takeFrame_sound sound h f)

theorem badFrameEvent_quiet (s : State) (h : Hatch) : Quiet s (s.badFrameEvent h) := by
  unfold badFrameEvent
  split
  · exact countBad_quiet ..
  · exact countBad_quiet ..
  · exact .refl s
  · exact .refl s

theorem jabberEvent_sound (sound : s.Sound) (h : Hatch) : (s.jabberEvent h).Sound := by
  have jabbed : (s.jab h).Sound := enterHoldOff_sound (((countBad_quiet ..).trans (raise_quiet ..)).sound sound) h
  unfold jabberEvent
  split
  · exact jabbed
  · exact jabbed
  · exact sound
  · exact sound

theorem setContact_quiet (s : State) (h : Hatch) (b : Bool) : Quiet s (s.setContact h b) :=
  modPort_quiet _ _ _ (by intro; rfl) (by intro; rfl)

theorem surroundEvent_quiet (s : State) (h : Hatch) (b : Bool) : Quiet s (s.surroundEvent h b) :=
  have latched (x : State) : Quiet x (x.latchSurround h) :=
    .ite (modPort_quiet _ _ _ (by intro; rfl) (by intro; rfl)) (.refl x)
  .ite ((setContact_quiet ..).trans (latched _)) (setContact_quiet ..)

/-! ## Drop deadlines -/

theorem declExpiry_sound (sound : s.Sound) (h : Hatch) : (s.declExpiry h).Sound := by
  unfold declExpiry
  split
  · next waits => exact cancelDrop_sound (s := s.reach _) sound (waits ▸ Drop.noConfusion) _
  · exact sound

theorem passTimeout_quiet {x : Snapshot} {d : Declared} {o p : Bool} {dl : Option Nat}
    (opened : s.drop h = .opened x d o p dl) : Quiet s (s.passTimeout h x d) :=
  have passed := setDrop_quiet s h (.opened x d true true none) (by simp [opened]) (by rw [opened]; rfl)
  .ite (passed.trans (raise_quiet ..)) passed

theorem openExpiry_sound (sound : s.Sound) (h : Hatch) : (s.openExpiry h).Sound := by
  unfold openExpiry
  split
  · next opened => exact cancelDrop_sound (s := s.reach _) sound (opened ▸ Drop.noConfusion) _
  · next opened => exact (passTimeout_quiet (s := s.reach _) opened).sound sound
  · exact sound

theorem weighExpiry_sound (sound : s.Sound) (h : Hatch) : (s.weighExpiry h).Sound := by
  unfold weighExpiry
  split
  · next weighs => exact conclude_sound (s := s.reach _) sound weighs ..
  · exact sound

theorem tipExpiry_sound (sound : s.Sound) (h : Hatch) : (s.tipExpiry h).Sound := by
  unfold tipExpiry
  split
  · exact raise_faultHatch_sound ((reach_quiet ..).sound sound) ..
  · exact sound

/-! ## Store lines -/

theorem turned_quiet (s : State) : Quiet s s.turned :=
  ((setPosition_quiet ..).trans (setCarousel_quiet ..)).trans (raise_quiet ..)

theorem positionEvent_sound (sound : s.Sound) (b : BinNo) : (s.positionEvent b).Sound := by
  have positioned := (setPosition_quiet s (some b)).sound sound
  have turned : Quiet s s.turned := turned_quiet s
  unfold positionEvent
  split
  · exact sound
  · exact positioned
  · exact positioned
  · exact positioned
  · exact .ite sound (turned.sound sound)
  · exact .ite sound (turned.sound sound)
  · exact .ite ((endMove_quiet ..).sound positioned) positioned
  · exact .ite sound (failDelivery_sound ((setPosition_quiet s none).sound sound) ..)

theorem homeEvent_quiet (s : State) : Quiet s s.homeEvent := by
  unfold homeEvent
  split
  · exact (setPosition_quiet ..).trans (enterIdle_quiet _)
  · exact setPosition_quiet ..
  · exact setPosition_quiet ..
  all_goals exact .refl s

theorem dropEvent_quiet (s : State) : Quiet s s.dropEvent := by
  unfold dropEvent
  split
  · exact fileBag_quiet ..
  all_goals exact (setOffice_quiet ..).trans (raise_quiet ..)

theorem setDoor_quiet (s : State) (b : Bool) : Quiet s (s.setDoor b) := setStore_quiet s _ (by rfl)

theorem haltCarousel_quiet (s : State) : Quiet s s.haltCarousel := by
  unfold haltCarousel
  split
  · exact setCarousel_quiet ..
  · exact setCarousel_quiet ..
  · exact .refl s

theorem doorOpensEvent_quiet (s : State) : Quiet s s.doorOpensEvent :=
  have alarmed (x : State) : Quiet x x.doorAlarm := .ite (raise_quiet ..) (.refl x)
  .ite (.refl s) (((setDoor_quiet ..).trans (haltCarousel_quiet _)).trans (alarmed _))

theorem resumeCarousel_quiet (s : State) : Quiet s s.resumeCarousel := by
  unfold resumeCarousel
  split
  · exact setCarousel_quiet ..
  · exact .ite (endMove_quiet ..) (setCarousel_quiet ..)
  · exact arbiter_quiet s
  · exact .refl s

theorem doorClosesEvent_quiet (s : State) : Quiet s s.doorClosesEvent :=
  .ite ((setDoor_quiet ..).trans (resumeCarousel_quiet _)) (.refl s)

theorem stopCarousel_quiet (s : State) : Quiet s s.stopCarousel :=
  ((setPosition_quiet ..).trans (setCarousel_quiet ..)).trans (raise_quiet ..)

theorem homingExpiry_quiet (s : State) : Quiet s s.homingExpiry := by
  unfold homingExpiry
  split
  · exact (reach_quiet ..).trans (stopCarousel_quiet _)
  · exact .refl s

theorem moveExpiry_quiet (s : State) : Quiet s s.moveExpiry := by
  unfold moveExpiry
  split
  · exact (reach_quiet ..).trans (stopCarousel_quiet _)
  · exact .refl s

theorem deliveryExpiry_sound (sound : s.Sound) : s.deliveryExpiry.Sound := by
  unfold deliveryExpiry
  split
  · exact failDelivery_sound ((reach_quiet ..).sound sound) ..
  · exact sound

end State

end Sys2Proof.Machine
end

section
/-! PROOFS. The accounts through every step (R3, R83, R89, R103, R113): the steps of RESET, an outage and a start-up
leave every machine OFFLINE and nothing held, and every other command is one of the requests and events above. -/

namespace Sys2Proof.Machine

open Sys2Proof

variable {s u v : State} {a : StartUpArgs} {k p : Nat}

/-- S alone is within C. -/
theorem State.CoverBound.committed (bound : s.CoverBound) : s.cover.committed ≤ s.tables.limit := by
  unfold State.CoverBound at bound
  omega

theorem Stood.bound (stood : Stood k p u v) (bound : u.CoverBound) : v.CoverBound := by
  have held := congrArg Cover.held stood.cover
  have committed := congrArg Cover.committed stood.cover
  dsimp only at held committed
  unfold State.CoverBound at bound ⊢
  rwa [held, committed, stood.tables]

namespace State

/-! ## The end of a transmission -/

theorem resetSteps_sound (sound : s.Sound) : s.resetSteps.Sound := by
  obtain ⟨held, slots, holds⟩ := resetSteps_holds sound
  have lasting := resetSteps_lasting s
  have committed : s.resetSteps.cover.committed = s.cover.committed := lasting.committed
  have tables : s.resetSteps.tables = s.tables := lasting.tables
  refine .ofNone (fun h => ?_) held slots holds ?_
  · obtain ⟨offline, -⟩ := resetSteps_port_fields sound.links h
    exact offline
  · rw [committed, tables]
    exact sound.bound.committed

theorem transmitEnd_sound (sound : s.Sound) : s.transmitEnd.Sound := by
  have free := (setOffice_quiet s { s.office with transmitter := none }).sound sound
  unfold transmitEnd
  split
  · exact sound
  · exact .ite (resetSteps_sound free) free

/-! ## Power fail and the reset input -/

theorem outage_sound (bound : s.CoverBound) (b : Bool) : (s.outage b).Sound :=
  .ofNone (fun h => congrArg Port.drop (outage_port s b h)) rfl rfl rfl bound.committed

theorem abandon_sound (bound : s.CoverBound) : s.abandon.Sound :=
  (setMainsGood_quiet ..).sound (outage_sound bound false)

theorem stop_sound (sound : s.Sound) (b : Bool) : (s.stop b).Sound := .ite (outage_sound sound.bound b) sound

/-! ## Start-up, whole or cut short -/

theorem loseRetained_bound (bound : u.CoverBound) : u.loseRetained.CoverBound := by
  have lost : u.loseRetained.cover = { u.cover with committed := 0 } := by simp [loseRetained, freshRetained, latch]
  have tables : u.loseRetained.tables = u.tables := by simp [loseRetained, freshRetained, latch]
  unfold CoverBound at bound ⊢
  rw [lost, tables]
  dsimp only
  omega

theorem phase2_bound (a : StartUpArgs) (bound : u.CoverBound) : (u.phase2 a).CoverBound := by
  have advanced (x : State) : Quiet x x.advanceEpoch := (setJournal_quiet x _ (by rfl)).trans (epochWrite_quiet _)
  unfold phase2
  split
  · exact bound
  · exact (advanced _).bound (loseRetained_bound bound)

/-- Once the tables are loaded, C is at least what is committed (R91, R189). -/
theorem loaded_bound {straps : Straps} {store : TableStore} {r : Retained}
    (standing : Standing straps store r u) (same : r.committed = (foundRetained a s).committed)
    (loaded : Loaded a s p u) : u.CoverBound := by
  have committed : u.cover.committed = r.committed := congrArg Retained.committed standing.retained
  unfold CoverBound
  rw [standing.held, committed, same, loaded.tables]
  exact le_max_right ..

theorem started_one_bound (bound : s.CoverBound) : (started a s 1).CoverBound := by
  have rest : AtRest ((offState s).phase1 a) := (phase1_standing (outage_standing s) a).rest
  exact (between_passed a 1 rest).toStood.bound bound.committed

theorem started_two_bound (bound : s.CoverBound) : (started a s 2).CoverBound :=
  (between_passed a 2 (phase2_standing started_one_standing a).rest).toStood.bound
    (phase2_bound a (started_one_bound bound))

/-- Past the seventh phase there is none. -/
theorem started_beyond (n : Nat) : started a s (n + 7) = started a s 7 := by
  unfold started runPhases
  rw [List.take_of_length_le (Nat.le_add_left 7 n)]
  rfl

theorem Under.bound (under : Under a s k p u) : u.CoverBound :=
  loaded_bound under.standing rfl under.loaded

theorem started_bound (bound : s.CoverBound) (n : Nat) : (started a s n).CoverBound :=
  match n with
  | 0 => bound.committed
  | 1 => started_one_bound bound
  | 2 => started_two_bound bound
  | 3 => loaded_bound started_three_standing rfl started_three_loaded
  | 4 => started_four_under.bound
  | 5 => started_five_under.bound
  | 6 => started_six_under.bound
  | n + 7 => started_beyond n ▸ started_seven_under.bound

/-- Phase 2 is cut with the retained store as it was found or set afresh. -/
theorem cutPhase2_sound (bound : s.CoverBound) (b : Bool) : (cutPhase2 a b (offState s)).Sound := by
  have lost := loseRetained_bound (started_one_bound (a := a) bound)
  exact .ite (abandon_sound (started_one_bound bound))
    (.ite (abandon_sound (s := (started a s 1).loseRetained.spoilStore) lost) (abandon_sound lost))

theorem startUpEvent_sound (bound : s.CoverBound) : (startUpEvent a (offState s)).Sound := by
  cases ending : a.ending with
  | completes => exact startUpEvent_completes ending ▸ startedUp_sound
  | cutAfter n =>
    unfold startUpEvent
    rw [ending]
    exact abandon_sound (started_bound bound n)
  | cutBeforeEpochWrite | cutInEpochWrite =>
    unfold startUpEvent
    rw [ending]
    exact cutPhase2_sound bound _

/-! ## Every command -/

theorem exec_event_sound {c : Instr} {f : State → State} (command : exec c s = .next (s.event f)) (before : s.Sound)
    (after : (f s).Sound) : ∃ t, exec c s = .next t ∧ t.Sound :=
  ⟨_, command, event_satisfies (fun x o => (setOffice_quiet x o).sound) before after⟩

theorem exec_request_sound {c : Instr} {α : Type} {n : Nat} {x : Params α} {f : α → State}
    (command : exec c s = .next (s.request n x f)) (before : s.Sound) (handled : ∀ a, (f a).Sound) :
    ∃ t, exec c s = .next t ∧ t.Sound :=
  ⟨_, command, request_satisfies (fun x o => (setOffice_quiet x o).sound) before handled⟩

theorem exec_event_quiet {c : Instr} {f : State → State} (command : exec c s = .next (s.event f)) (before : s.Sound)
    (quiet : Quiet s (f s)) : ∃ t, exec c s = .next t ∧ t.Sound :=
  exec_event_sound command before (quiet.sound before)

theorem exec_request_quiet {c : Instr} {α : Type} {n : Nat} {x : Params α} {f : α → State}
    (command : exec c s = .next (s.request n x f)) (before : s.Sound) (quiet : ∀ a, Quiet s (f a)) :
    ∃ t, exec c s = .next t ∧ t.Sound :=
  exec_request_sound command before fun a => (quiet a).sound before

theorem exec_sound (c : Instr) (sound : s.Sound) : ∃ t, exec c s = .next t ∧ t.Sound := by
  cases c with
  | statusRead | countersRead | scheduleRead | massTablesRead | coverRead =>
    exact exec_request_quiet rfl sound fun _ => answer_quiet ..
  | hatchRead => exact exec_request_quiet rfl sound s.hatchRead_quiet
  | countersClear => exact exec_request_quiet rfl sound fun _ => s.clearCounters_quiet.answer ..
  | alertClear => exact exec_request_quiet rfl sound s.alertClear_quiet
  | alertMask => exact exec_request_quiet rfl sound s.alertMask_quiet
  | noticeSet => exact exec_request_quiet rfl sound s.noticeSet_quiet
  | reset => exact exec_request_quiet rfl sound fun _ => s.resetRequest_quiet
  | setClock => exact exec_request_quiet rfl sound s.setClock_quiet
  | schedulePut => exact exec_request_quiet rfl sound s.schedulePut_quiet
  | intakeStart => exact exec_request_quiet rfl sound fun _ => s.intakeStart_quiet
  | intakeStop => exact exec_request_quiet rfl sound fun _ => s.intakeStop_quiet
  | depositorPut => exact exec_request_quiet rfl sound s.depositorPut_quiet
  | depositorDrop => exact exec_request_quiet rfl sound s.depositorDrop_quiet
  | depositorState => exact exec_request_quiet rfl sound s.depositorSetState_quiet
  | depositorRead => exact exec_request_quiet rfl sound s.depositorRead_quiet
  | denomPut => exact exec_request_quiet rfl sound s.denomPut_quiet
  | tarePut => exact exec_request_quiet rfl sound s.tarePut_quiet
  | toleranceSet => exact exec_request_quiet rfl sound s.toleranceSet_quiet
  | screenMode => exact exec_request_quiet rfl sound s.setScreenMode_quiet
  | screenRangeAdd => exact exec_request_quiet rfl sound s.screenRangeAdd_quiet
  | screenRangeClear | mapClear =>
    exact exec_request_quiet rfl sound fun _ => (setTables_quiet s _ (by rfl)).answer ..
  | screenRead => exact exec_request_quiet rfl sound s.screenRead_quiet
  | mapWindow => exact exec_request_quiet rfl sound s.mapWindow_quiet
  | mapWrite => exact exec_request_quiet rfl sound s.mapWrite_quiet
  | mapRead => exact exec_request_quiet rfl sound s.mapRead_quiet
  | coverSet => exact exec_request_sound rfl sound (coverSet_sound sound)
  | journalRead => exact exec_request_quiet rfl sound s.journalRead_quiet
  | journalResolve => exact exec_request_quiet rfl sound s.journalResolve_quiet
  | journalRelease => exact exec_request_quiet rfl sound fun _ => s.journalRelease_quiet
  | binClear => exact exec_request_quiet rfl sound s.binClear_quiet
  | binWithdraw => exact exec_request_quiet rfl sound s.binWithdraw_quiet
  | binRestore => exact exec_request_quiet rfl sound s.binRestore_quiet
  | binRead => exact exec_request_quiet rfl sound s.binRead_quiet
  | carouselHome => exact exec_request_quiet rfl sound fun _ => s.carouselHome_quiet
  | hatchConfig => exact exec_request_sound rfl sound (hatchConfig_sound sound)
  | hatchCalibrate => exact exec_request_quiet rfl sound s.hatchCalibrate_quiet
  | hatchRelink => exact exec_request_sound rfl sound (hatchRelink_sound sound)
  | hatchShow => exact exec_request_quiet rfl sound s.hatchShow_quiet
  | hatchClear => exact exec_request_sound rfl sound (hatchClear_sound sound)
  | storeTables => exact exec_request_quiet rfl sound fun _ => setOffice_quiet ..
  | storeTablesDone => exact exec_event_quiet rfl sound s.storeTablesDone_quiet
  | loadTables => exact exec_request_sound rfl sound fun _ => loadTables_sound sound
  | unknownCommand body => exact exec_event_quiet rfl sound (s.answerUnknown_quiet body)
  | officeBadFrame | officeGapTimeout => exact exec_event_quiet rfl sound (setOffice_quiet ..)
  | transmitEnd => exact exec_event_sound rfl sound (transmitEnd_sound sound)
  | mitigationTimer => exact exec_event_quiet rfl sound s.mitigationExpiry_quiet
  | poll h b => exact exec_event_quiet rfl sound (s.pollEvent_quiet h b)
  | miss h => exact exec_event_sound rfl sound (missEvent_sound sound h)
  | holdOffExpiry h b => exact exec_event_sound rfl sound (holdOffEvent_sound sound h b)
  | offer h b => exact exec_event_sound rfl sound (offerEvent_sound sound h b)
  | answer h b f => exact exec_event_sound rfl sound (frameEvent_sound sound h b (.answer f))
  | report h b r => exact exec_event_sound rfl sound (frameEvent_sound sound h b (.report r))
  | hatchBadFrame h => exact exec_event_quiet rfl sound (s.badFrameEvent_quiet h)
  | complementedFrame h f => exact exec_event_sound rfl sound (takeComplemented_sound sound h f)
  | jabber h => exact exec_event_sound rfl sound (jabberEvent_sound sound h)
  | surroundOpening h b =>
    by_cases run : s.running = true
    · exact exec_event_quiet (if_pos run) sound (s.surroundEvent_quiet h b)
    · exact ⟨_, if_neg run, (s.setContact_quiet h b).sound sound⟩
  | declTimeout h => exact exec_event_sound rfl sound (declExpiry_sound sound h)
  | openTimeout h => exact exec_event_sound rfl sound (openExpiry_sound sound h)
  | weighingTimeout h => exact exec_event_sound rfl sound (weighExpiry_sound sound h)
  | tippingTimeout h => exact exec_event_sound rfl sound (tipExpiry_sound sound h)
  | clockAdvance =>
    change ∃ t, execClockAdvance s = .next t ∧ t.Sound
    unfold execClockAdvance
    split
    · exact ⟨s, rfl, sound⟩
    · next x _ =>
      have advanced := s.advanceClock_quiet x
      split
      · exact ⟨_, rfl, event_satisfies (fun x o => (setOffice_quiet x o).sound) sound
          ((advanced.trans (evalTime_quiet _)).sound sound)⟩
      · exact ⟨_, rfl, advanced.sound sound⟩
  | atPosition b => exact exec_event_sound rfl sound (positionEvent_sound sound b)
  | home => exact exec_event_quiet rfl sound s.homeEvent_quiet
  | dropPulse => exact exec_event_quiet rfl sound s.dropEvent_quiet
  | doorOpens =>
    by_cases run : s.running = true
    · exact exec_event_quiet (if_pos run) sound s.doorOpensEvent_quiet
    · exact ⟨_, if_neg run, (s.setDoor_quiet true).sound sound⟩
  | doorCloses =>
    by_cases run : s.running = true
    · exact exec_event_quiet (if_pos run) sound s.doorClosesEvent_quiet
    · exact ⟨_, if_neg run, (s.setDoor_quiet false).sound sound⟩
  | homingTimeout => exact exec_event_quiet rfl sound s.homingExpiry_quiet
  | moveTimeout => exact exec_event_quiet rfl sound s.moveExpiry_quiet
  | deliveryTimeout => exact exec_event_sound rfl sound (deliveryExpiry_sound sound)
  | powerFail b => exact ⟨_, rfl, (setMainsGood_quiet ..).sound (stop_sound sound b)⟩
  | resetInput b => exact ⟨_, rfl, (setResetReleased_quiet ..).sound (stop_sound sound b)⟩
  | startUp a => exact ⟨_, exec_startUp a s, startUpEvent_sound sound.bound⟩

end State

/-- Settles O4: each command moves the accounts with what one machine owns, leaves them all alone, or leaves every
machine OFFLINE with nothing held. -/
theorem everyStepKeepsTheAccountsSound : Obligations.EveryStepKeepsTheAccountsSound := by
  unfold Obligations.EveryStepKeepsTheAccountsSound
  intro s t sound next
  unfold step at next
  split at next
  · cases next
    exact (State.setNow_quiet ..).sound sound
  · next c rest _ =>
    obtain ⟨u, answered, kept⟩ := State.exec_sound (s := s.setPending rest) c sound
    cases answered.symm.trans next
    exact kept

end Sys2Proof.Machine
end

section
/-! SUPPORT. The requests and events that leave the journal alone, one lemma for each. -/

namespace Sys2Proof.Machine

open Sys2Proof

namespace State

/-! ## Status, counters, alerts and notices -/

@[simp] theorem answer_journal (s : State) (c : Nat) (x : Result) (d : List Byte) :
    (s.answer c x d).journal = s.journal := rfl

theorem hatchRead_journal (s : State) (n : Nat) : (s.hatchRead n).journal = s.journal := by
  unfold hatchRead
  split <;> rfl

theorem alertClear_journal (s : State) (v : Nat) : (s.alertClear v).journal = s.journal := by
  unfold alertClear
  split <;> rfl

theorem alertMask_journal (s : State) (v : Nat) : (s.alertMask v).journal = s.journal := by
  unfold alertMask
  split <;> rfl

theorem noticeSet_journal (s : State) (a : NoticeArgs) : (s.noticeSet a).journal = s.journal := by
  unfold noticeSet
  split <;> simp

/-! ## Clock, schedule and intake -/

theorem setClock_journal (s : State) (a : ClockArgs) : (s.setClock a).journal = s.journal := by
  unfold setClock
  split <;> simp

theorem schedulePut_journal (s : State) (a : ScheduleArgs) : (s.schedulePut a).journal = s.journal := by
  unfold schedulePut
  (repeat' split) <;> simp

theorem intakeStart_journal (s : State) : (s.intakeStart ()).journal = s.journal := by
  unfold intakeStart answerIntake
  split <;> simp

theorem intakeStop_journal (s : State) : (s.intakeStop ()).journal = s.journal := by
  unfold intakeStop answerIntake
  split <;> simp

/-! ## Tables -/

theorem depositorPut_journal (s : State) (a : DepositorArgs) : (s.depositorPut a).journal = s.journal := by
  unfold depositorPut
  (repeat' split) <;> rfl

theorem depositorDrop_journal (s : State) (token : Nat) : (s.depositorDrop token).journal = s.journal := by
  unfold depositorDrop
  (repeat' split) <;> rfl

theorem depositorSetState_journal (s : State) (a : DepositorStateArgs) :
    (s.depositorSetState a).journal = s.journal := by
  unfold depositorSetState
  (repeat' split) <;> rfl

theorem depositorRead_journal (s : State) (token : Nat) : (s.depositorRead token).journal = s.journal := by
  unfold depositorRead
  (repeat' split) <;> rfl

theorem denomPut_journal (s : State) (a : DenomArgs) : (s.denomPut a).journal = s.journal := by
  unfold denomPut
  (repeat' split) <;> rfl

theorem tarePut_journal (s : State) (a : TareArgs) : (s.tarePut a).journal = s.journal := by
  unfold tarePut
  (repeat' split) <;> rfl

theorem toleranceSet_journal (s : State) (a : ToleranceArgs) : (s.toleranceSet a).journal = s.journal := by
  unfold toleranceSet
  split <;> rfl

theorem setScreenMode_journal (s : State) (v : Nat) : (s.setScreenMode v).journal = s.journal := by
  unfold setScreenMode
  split <;> rfl

theorem screenRangeAdd_journal (s : State) (a : RangeArgs) : (s.screenRangeAdd a).journal = s.journal := by
  unfold screenRangeAdd
  (repeat' split) <;> rfl

theorem screenRead_journal (s : State) (index : Nat) : (s.screenRead index).journal = s.journal := by
  unfold screenRead
  split <;> rfl

theorem mapWindow_journal (s : State) (a : RangeArgs) : (s.mapWindow a).journal = s.journal := by
  unfold mapWindow
  split <;> rfl

theorem mapWrite_journal (s : State) (a : MapWriteArgs) : (s.mapWrite a).journal = s.journal := by
  unfold mapWrite
  (repeat' split) <;> rfl

theorem mapRead_journal (s : State) (n : Nat) : (s.mapRead n).journal = s.journal := by
  unfold mapRead
  split <;> rfl

theorem coverSet_journal (s : State) (v : Nat) : (s.coverSet v).journal = s.journal := by
  unfold coverSet
  (repeat' split) <;> simp [setLimit]

theorem storeTablesDone_journal (s : State) : s.storeTablesDone.journal = s.journal := by
  unfold storeTablesDone
  split <;> rfl

/-! ## Journal, bins and carousel -/

theorem journalRead_journal (s : State) (a : JournalReadArgs) : (s.journalRead a).journal = s.journal := by
  unfold journalRead
  split <;> rfl

theorem unfile_journal (s : State) (e : Entry) : (s.unfile e).journal = s.journal := by
  unfold unfile
  split <;> rfl

theorem changeBinState_journal (s : State) (b : BinNo) (x : BinState) : (s.changeBinState b x).journal = s.journal := by
  simp [changeBinState]

theorem binWithdraw_journal (s : State) (v : Nat) : (s.binWithdraw v).journal = s.journal := by
  unfold binWithdraw
  (repeat' split) <;> simp [changeBinState_journal]

theorem binRestore_journal (s : State) (v : Nat) : (s.binRestore v).journal = s.journal := by
  unfold binRestore
  (repeat' split) <;> simp [changeBinState_journal]

theorem binRead_journal (s : State) (v : Nat) : (s.binRead v).journal = s.journal := by
  unfold binRead
  split <;> rfl

theorem carouselHome_journal (s : State) : (s.carouselHome ()).journal = s.journal := by
  unfold carouselHome
  split <;> rfl

/-! ## Hatches -/

theorem hatchCalibrate_journal (s : State) (a : CalibrateArgs) : (s.hatchCalibrate a).journal = s.journal := by
  unfold hatchCalibrate
  split <;> rfl

theorem hatchShow_journal (s : State) (a : ShowArgs) : (s.hatchShow a).journal = s.journal := by
  unfold hatchShow
  (repeat' split) <;> rfl

@[simp] theorem countBad_journal (s : State) (h : Hatch) : (s.countBad h).journal = s.journal := rfl

@[simp] theorem abandonFrame_journal (s : State) (h : Hatch) (b : Bool) : (s.abandonFrame h b).journal = s.journal := by
  unfold abandonFrame
  split <;> rfl

@[simp] theorem sendPoll_journal (s : State) (h : Hatch) : (s.sendPoll h).journal = s.journal := rfl

@[simp] theorem sendOffer_journal (s : State) (h : Hatch) : (s.sendOffer h).journal = s.journal := rfl

theorem pollEvent_journal (s : State) (h : Hatch) (b : Bool) : (s.pollEvent h b).journal = s.journal := by
  unfold pollEvent
  split <;> simp

theorem holdOffEvent_journal (s : State) (h : Hatch) (b : Bool) : (s.holdOffEvent h b).journal = s.journal := by
  unfold holdOffEvent
  split <;> simp

theorem offerEvent_journal (s : State) (h : Hatch) (b : Bool) : (s.offerEvent h b).journal = s.journal := by
  unfold offerEvent
  split <;> simp

theorem badFrameEvent_journal (s : State) (h : Hatch) : (s.badFrameEvent h).journal = s.journal := by
  unfold badFrameEvent
  split <;> rfl

theorem surroundEvent_journal (s : State) (h : Hatch) (b : Bool) : (s.surroundEvent h b).journal = s.journal := by
  unfold surroundEvent latchSurround
  (repeat' split) <;> rfl

theorem captureZero_journal (s : State) (h : Hatch) (r : HeadReport) : (s.captureZero h r).journal = s.journal := by
  unfold captureZero
  dsimp only
  (repeat' split) <;> simp [setCalibration]

theorem refuse_journal (s : State) (h : Hatch) (r : Refuse) : (s.refuse h r).journal = s.journal := rfl

theorem processToken_journal (s : State) (h : Hatch) (token : Nat) : (s.processToken h token).journal = s.journal := by
  unfold processToken
  split <;> rfl

theorem takeToken_journal (s : State) (h : Hatch) (token : Nat) : (s.takeToken h token).journal = s.journal := by
  unfold takeToken
  (repeat' split) <;> simp [processToken_journal, refuse_journal]

theorem passTimeout_journal (s : State) (h : Hatch) (x : Snapshot) (d : Declared) :
    (s.passTimeout h x d).journal = s.journal := by
  unfold passTimeout
  dsimp only
  split <;> simp

theorem baselineRelease_journal (s : State) (h : Hatch) (c : BitVec 8) :
    (s.baselineRelease h c).journal = s.journal := by
  unfold baselineRelease
  dsimp only
  split <;> simp

/-! ## Office port and store lines -/

theorem answerUnknown_journal (s : State) (body : List Byte) : (s.answerUnknown body).journal = s.journal := by
  unfold answerUnknown
  (repeat' split) <;> rfl

theorem mitigationExpiry_journal (s : State) : s.mitigationExpiry.journal = s.journal := by
  unfold mitigationExpiry
  split <;> rfl

theorem turned_journal (s : State) : s.turned.journal = s.journal := by simp [turned]

theorem homeEvent_journal (s : State) : s.homeEvent.journal = s.journal := by
  unfold homeEvent
  split <;> simp

theorem unexpectedDrop_journal (s : State) : s.unexpectedDrop.journal = s.journal := by simp [unexpectedDrop]

theorem haltCarousel_journal (s : State) : s.haltCarousel.journal = s.journal := by
  unfold haltCarousel
  split <;> rfl

theorem doorAlarm_journal (s : State) : s.doorAlarm.journal = s.journal := by
  unfold doorAlarm
  split <;> simp

theorem doorOpensEvent_journal (s : State) : s.doorOpensEvent.journal = s.journal := by
  unfold doorOpensEvent
  split <;> simp [doorAlarm_journal, haltCarousel_journal, setDoor]

theorem resumeCarousel_journal (s : State) : s.resumeCarousel.journal = s.journal := by
  unfold resumeCarousel
  (repeat' split) <;> simp

theorem doorClosesEvent_journal (s : State) : s.doorClosesEvent.journal = s.journal := by
  unfold doorClosesEvent
  split <;> simp [resumeCarousel_journal, setDoor]

theorem stopCarousel_journal (s : State) : s.stopCarousel.journal = s.journal := by simp [stopCarousel]

theorem homingExpiry_journal (s : State) : s.homingExpiry.journal = s.journal := by
  unfold homingExpiry
  split <;> simp [stopCarousel_journal]

theorem moveExpiry_journal (s : State) : s.moveExpiry.journal = s.journal := by
  unfold moveExpiry
  split <;> simp [stopCarousel_journal]

end State

end Sys2Proof.Machine
end

section
/-! SUPPORT. The places of the journal's ring that are taken (R94, R98, R103): the operations that leave as many taken or
free some, one lemma for each. Only a passed declaration takes one, and a commit exchanges a hold for an entry. -/

namespace Sys2Proof.Machine

open Sys2Proof

/-- The places of the ring that the entries present and the slot holds take (R103). -/
def State.placesTaken (s : State) : Nat := s.journal.entries.length + s.journal.slotHolds

/-- No more places of the ring are taken in `t` than in `s`. -/
structure NoFuller (s t : State) : Prop where
  taken : t.placesTaken ≤ s.placesTaken

variable {s t u : State} {h : Hatch}

namespace NoFuller

theorem fits (a : NoFuller s t) (fits : s.JournalFits) : t.JournalFits := a.taken.trans fits

theorem trans (a : NoFuller s t) (b : NoFuller t u) : NoFuller s u := ⟨b.taken.trans a.taken⟩

/-- The entries are no more, and the slot holds are no more. -/
theorem ofParts (entries : t.journal.entries.length ≤ s.journal.entries.length)
    (slots : t.journal.slotHolds ≤ s.journal.slotHolds) : NoFuller s t := ⟨Nat.add_le_add entries slots⟩

theorem ofJournal (same : t.journal = s.journal) : NoFuller s t := .ofParts (same ▸ le_refl _) (same ▸ le_refl _)

theorem refl (s : State) : NoFuller s s := .ofJournal rfl

/-- What then leaves the journal alone. -/
theorem same (a : NoFuller s t) (same : u.journal = t.journal) : NoFuller s u := a.trans (.ofJournal same)

/-- What comes after a change that leaves the journal alone. -/
theorem after (b : NoFuller t u) (same : t.journal = s.journal) : NoFuller s u := (ofJournal same).trans b

theorem ite {c : Prop} [Decidable c] (a : NoFuller s t) (b : NoFuller s u) : NoFuller s (if c then t else u) := by
  split <;> assumption

theorem foldl {α : Type} {f : State → α → State} (k : ∀ s a, NoFuller s (f s a)) :
    ∀ (l : List α) (s : State), NoFuller s (l.foldl f s)
  | [], s => .refl s
  | a :: l, s => (k s a).trans (foldl k l (f s a))

theorem answer (a : NoFuller s t) (c : Nat) (x : Result) (d : List Byte) : NoFuller s (t.answer c x d) := a.same rfl

end NoFuller

namespace State

/-! ## Journal -/

theorem modEntry_noFuller (s : State) (n : Nat) (f : Entry → Entry) : NoFuller s (s.modEntry n f) :=
  .ofParts (by simp [modEntry]) (le_refl _)

theorem strandEntry_noFuller (s : State) (n : Nat) : NoFuller s (s.strandEntry n) :=
  (modEntry_noFuller s n _).same (raise_journal ..)

theorem evalJournal_noFuller (s : State) : NoFuller s s.evalJournal := .ofParts (by simp) (by simp)

theorem resolveStranded_noFuller (s : State) (e : Entry) : NoFuller s (s.resolveStranded e) :=
  (modEntry_noFuller ..).same (reconcileCover_journal ..)

theorem resolveBinned_noFuller (s : State) (e : Entry) : NoFuller s (s.resolveBinned e) := by
  have resolved := (modEntry_noFuller (s.unfile e) e.number fun x => { x with state := .reconciled }).after
    (unfile_journal s e)
  exact resolved.same (by simp [resolveBinned, reconcileEntry])

theorem journalResolve_noFuller (s : State) (n : Nat) : NoFuller s (s.journalResolve n) := by
  unfold journalResolve
  split
  · exact .ofJournal rfl
  · split
    · exact .ofJournal rfl
    · split
      · exact .ofJournal rfl
      · exact .ofJournal rfl
      · exact .ofJournal rfl
      · exact (resolveStranded_noFuller ..).same rfl
      · exact (resolveBinned_noFuller ..).same rfl

/-- A release frees places at the oldest end. -/
theorem journalRelease_noFuller (s : State) : NoFuller s (s.journalRelease ()) := by
  have freed : NoFuller s (s.setJournal { s.journal with entries := s.keptEntries }) :=
    .ofParts (List.dropWhile_sublist _).length_le (le_refl _)
  exact ((freed.trans (evalJournal_noFuller _)).same (evalIntake_journal _)).answer ..

theorem binClear_noFuller (s : State) (v : Nat) : NoFuller s (s.binClear v) := by
  have reconciled (ns : List Nat) : NoFuller s (s.reconcileAll ns) := .ofParts (by simp [reconcileAll]) (le_refl _)
  unfold binClear
  split
  · exact .ofJournal rfl
  · next b _ =>
    exact .ite (((reconciled (s.bin b).arrived).same (by simp [clearBin])).answer ..) (.ofJournal rfl)

/-! ## Endings -/

theorem endTransaction_noFuller (s : State) (h : Hatch) (x : Drop) : NoFuller s (s.endTransaction h x) := by
  obtain ⟨-, slots, -⟩ := (endTransaction_endedFrom s h x).accounts
  exact .ofParts (endTransaction_journal_length s h x).le (slots ▸ Nat.sub_le ..)

theorem faultHatch_noFuller (s : State) (h : Hatch) : NoFuller s (s.faultHatch h) := by
  by_cases stays : s.drop h = .offline ∨ s.drop h = .fault
  · exact faultHatch_stays s h stays ▸ .ofJournal rfl
  · obtain ⟨on, fit⟩ := not_or.1 stays
    exact faultHatch_ends s h on fit ▸ (endTransaction_noFuller ..).after rfl

theorem raise_faultHatch_noFuller (s : State) (f : Flag) (h : Hatch) : NoFuller s ((s.raise f).faultHatch h) :=
  (faultHatch_noFuller ..).after (raise_journal ..)

theorem cancelDrop_noFuller (s : State) (h : Hatch) (c : Cancel) : NoFuller s (s.cancelDrop h c) :=
  (endTransaction_noFuller ..).same rfl

theorem dropLink_noFuller (s : State) (h : Hatch) : NoFuller s (s.dropLink h) := by
  obtain ⟨-, slots, -⟩ := (dropLink_endedFrom s h).accounts
  exact .ofParts (dropLink_lasting s h).length.le (slots ▸ Nat.sub_le ..)

theorem unlink_noFuller (s : State) (h : Hatch) : NoFuller s (s.unlink h) :=
  .ite ((dropLink_noFuller ..).same rfl) (.refl s)

theorem enterHoldOff_noFuller (s : State) (h : Hatch) : NoFuller s (s.enterHoldOff h) := (unlink_noFuller ..).same rfl

theorem disablePort_noFuller (s : State) (h : Hatch) : NoFuller s (s.disablePort h) := (unlink_noFuller ..).same rfl

theorem applyConfig_noFuller (s : State) (h : Hatch) (c : HatchConfig) : NoFuller s (s.applyConfig h c) :=
  .ite (.ofJournal rfl) (.ite ((enterHoldOff_noFuller ..).after rfl) ((disablePort_noFuller ..).after rfl))

/-! ## Store controller -/

theorem strandFromTray_noFuller (s : State) (n : Nat) : NoFuller s (s.strandFromTray n) :=
  (strandEntry_noFuller ..).same (releasePending_journal ..)

theorem failVerification_noFuller (s : State) (h : Hatch) : NoFuller s (s.failVerification h) :=
  (NoFuller.foldl strandFromTray_noFuller (s.queue h) s).same (by simp [failVerification])

theorem blameTray_noFuller (s : State) (h : Hatch) (target : BitVec 8) : NoFuller s (s.blameTray h target) := by
  unfold blameTray
  split
  · exact .refl s
  · exact .ite (.refl s) (raise_faultHatch_noFuller ..)

theorem failDelivery_noFuller (s : State) (g : Grant) (target : BitVec 8) (next : Carousel) :
    NoFuller s (s.failDelivery g target next) :=
  ((strandEntry_noFuller s g.entry).same (by simp [popQueue])).trans (blameTray_noFuller ..)

theorem fileBag_noFuller (s : State) (g : Grant) (b : BinNo) : NoFuller s (s.fileBag g b) :=
  (modEntry_noFuller s g.entry fun e =>
    { e with state := .binned, binned := some (s.stampTime (Config.freeFiling g.entry)) }).same
    (by simp [fileBag, popQueue])

theorem examineRelease_noFuller (s : State) (h : Hatch) (c : BitVec 8) : NoFuller s (s.examineRelease h c) := by
  unfold examineRelease
  split
  · exact .refl s
  · exact .ite (.refl s) (.ite (.ofJournal rfl) ((raise_faultHatch_noFuller ..).after rfl))

theorem positionEvent_noFuller (s : State) (b : BinNo) : NoFuller s (s.positionEvent b) := by
  have turned : NoFuller s s.turned := .ofJournal (turned_journal s)
  unfold positionEvent
  split
  · exact .refl s
  · exact .ofJournal rfl
  · exact .ofJournal rfl
  · exact .ofJournal rfl
  · exact .ite (.refl s) turned
  · exact .ite (.refl s) turned
  · exact .ite (.ofJournal (endMove_journal ..)) (.ofJournal rfl)
  · exact .ite (.refl s) ((failDelivery_noFuller ..).after rfl)

theorem dropEvent_noFuller (s : State) : NoFuller s s.dropEvent := by
  unfold dropEvent
  split
  · exact fileBag_noFuller ..
  all_goals exact .ofJournal (unexpectedDrop_journal s)

theorem deliveryExpiry_noFuller (s : State) : NoFuller s s.deliveryExpiry := by
  unfold deliveryExpiry
  split
  · exact (failDelivery_noFuller ..).after rfl
  · exact .refl s

/-! ## Drop machine -/

theorem conclude_noFuller (s : State) (h : Hatch) (x : Snapshot) (d : Declared) (n : Nat) (r : Reasons)
    (mass : Option Nat) (arrival : BitVec 8) : NoFuller s (s.conclude h x d n r mass arrival) := by
  have judged : NoFuller s (s.judged h x d n r mass arrival) :=
    .ofParts (by simp [judged_journal]) (by simp [judged_journal])
  exact conclude_eq s h x d n r mass arrival ▸ judged.same (placePending_journal ..)

theorem receiptAt_journal (s : State) (h : Hatch) (n : Nat) : (s.receiptAt h n).journal = s.journal := by
  unfold receiptAt
  split <;> rfl

theorem arrive_noFuller (s : State) (h : Hatch) (n : Nat) : NoFuller s (s.arrive h n) :=
  (modEntry_noFuller s n fun e => { e with state := .inTray }).same (by simp [arrive, receiptAt_journal])

theorem takeAlarms_noFuller (s : State) (h : Hatch) (r : HeadReport) (surround : Bool) :
    NoFuller s (s.takeAlarms h r surround) := by
  have alarmed (x : State) (given : Bool) (f : Flag) : NoFuller x (x.alarmOn h given f) :=
    .ite (raise_faultHatch_noFuller ..) (.refl x)
  have printed (x : State) : NoFuller x (x.printerOn h r.printerFault) := .ite (.ofJournal (raise_journal ..)) (.refl x)
  exact takeAlarms_eq s h r surround ▸ ((alarmed _ _ _).trans (alarmed _ _ _)).trans (printed _)

theorem declExpiry_noFuller (s : State) (h : Hatch) : NoFuller s (s.declExpiry h) := by
  unfold declExpiry
  split
  · exact (cancelDrop_noFuller ..).after rfl
  · exact .refl s

theorem openExpiry_noFuller (s : State) (h : Hatch) : NoFuller s (s.openExpiry h) := by
  unfold openExpiry
  split
  · exact (cancelDrop_noFuller ..).after rfl
  · exact .ofJournal (passTimeout_journal ..)
  · exact .refl s

theorem weighExpiry_noFuller (s : State) (h : Hatch) : NoFuller s (s.weighExpiry h) := by
  unfold weighExpiry
  split
  · exact (conclude_noFuller ..).after rfl
  · exact .refl s

theorem tipExpiry_noFuller (s : State) (h : Hatch) : NoFuller s (s.tipExpiry h) := by
  unfold tipExpiry
  split
  · exact (raise_faultHatch_noFuller ..).after rfl
  · exact .refl s

/-! ## Hatch port and tables -/

theorem hatchConfig_noFuller (s : State) (a : HatchConfigArgs) : NoFuller s (s.hatchConfig a) := by
  unfold hatchConfig
  split
  · exact .ite (.ofJournal rfl) ((applyConfig_noFuller ..).answer ..)
  · exact .ofJournal rfl

theorem hatchRelink_noFuller (s : State) (v : Nat) : NoFuller s (s.hatchRelink v) := by
  unfold hatchRelink
  split
  · exact .ofJournal rfl
  · exact .ite (.ofJournal rfl) ((enterHoldOff_noFuller ..).answer ..)

theorem hatchClear_noFuller (s : State) (v : Nat) : NoFuller s (s.hatchClear v) := by
  have cleared (h : Hatch) (n : Nat) : NoFuller s (s.clearFault h n) :=
    .ite (.ofJournal rfl) ((failVerification_noFuller ..).answer ..)
  unfold hatchClear
  split
  · exact .ofJournal rfl
  · split
    · exact .ofJournal rfl
    · exact .ite (cleared ..) (.ofJournal rfl)

theorem missEvent_noFuller (s : State) (h : Hatch) : NoFuller s (s.missEvent h) := by
  have judged (x : State) : NoFuller x (x.judgeMisses h) :=
    .ite ((enterHoldOff_noFuller ..).after (raise_journal ..)) (.refl x)
  unfold missEvent
  split
  · exact (judged _).after rfl
  · exact .refl s

theorem jabberEvent_noFuller (s : State) (h : Hatch) : NoFuller s (s.jabberEvent h) := by
  have jabbed : NoFuller s (s.jab h) := (enterHoldOff_noFuller ..).after (raise_journal ..)
  unfold jabberEvent
  split
  · exact jabbed
  · exact jabbed
  · exact .refl s
  · exact .refl s

theorem joinLink_noFuller (s : State) (h : Hatch) (n : Nat) : NoFuller s (s.joinLink h n) :=
  .ite (.ofJournal rfl) (.ite (.ofJournal rfl) ((failVerification_noFuller ..).same rfl))

theorem takeAnswer_noFuller (s : State) (h : Hatch) (a : HeadAnswer) : NoFuller s (s.takeAnswer h a) := by
  unfold takeAnswer
  split
  · have joined := (joinLink_noFuller (s.resolveAnswer h a) h a.trayCount).after (s := s) rfl
    exact joined.same rfl
  · exact .ofJournal rfl
  · exact .refl s
  · exact .refl s

theorem disarmAll_journal (s : State) : s.disarmAll.journal = s.journal :=
  foldl_field State.journal (fun _ _ => rfl) Hatch.all s

theorem loadTables_noFuller (s : State) : NoFuller s (s.loadTables ()) := by
  have configured (x : Tables) : NoFuller s (Hatch.all.foldl (loadConfig x) (s.loadedTables x)) :=
    (NoFuller.foldl (fun _ _ => .ite (.refl _) (applyConfig_noFuller ..)) _ _).after
      (by simp [loadedTables, disarmAll_journal, takeLoaded, matchCounts, clampLimit])
  have loaded (x : Tables) : NoFuller s (s.loadTablesFrom x) := (configured x).same (evalTime_journal _)
  exact .ite (.ofJournal rfl) (.ite ((loaded _).answer ..) (.ofJournal (raise_journal ..)))

end State

end Sys2Proof.Machine
end

section
/-! PROOFS. The journal within its places (R98, R103): in a sound state a machine in OPEN has its slot hold, so that its
commit takes no further place, and a declaration passes only where a place is free. -/

namespace Sys2Proof.Machine

open Sys2Proof

variable {s u : State} {h : Hatch} {a : StartUpArgs}

/-- Start-up strands what was in the chute, and neither makes an entry nor places a hold. -/
theorem Standing.noFuller {straps : Straps} {store : TableStore} {r : Retained} (standing : Standing straps store r u)
    (entries : r.entries.length ≤ s.journal.entries.length) : NoFuller s u := by
  have same : u.journal.entries = r.entries := congrArg Retained.entries standing.retained
  exact .ofParts (same ▸ entries) (standing.slotHolds ▸ Nat.zero_le _)

namespace State

/-! ## Declaration and commit -/

/-- What passes the declaration checks has found journal room (R103). -/
theorem checkDeclaration_journalRoom {x : Snapshot} {d : Declaration} {y : Declared}
    (passes : s.checkDeclaration h x d = .ok y) : s.placesTaken < Config.journalSize := by
  unfold checkDeclaration at passes
  (repeat' split at passes) <;> cases passes
  next room _ =>
    unfold journalRoom at room
    unfold placesTaken
    omega

/-- The holds of a passed declaration take one place. -/
theorem placeHolds_placesTaken (s : State) (h : Hatch) (x : Snapshot) (d : Declared) :
    (s.placeHolds h x d).placesTaken = s.placesTaken + 1 := by
  simp [placesTaken, placeHolds, placeSlot, Nat.add_assoc]

theorem takeDeclaration_fits (fits : s.JournalFits) (h : Hatch) (d : Declaration) :
    (s.takeDeclaration h d).JournalFits := by
  unfold takeDeclaration
  split
  · next x _ _ =>
    unfold processDeclaration
    split
    · next passes => exact (placeHolds_placesTaken ..).trans_le (checkDeclaration_journalRoom passes)
    · exact fits
  all_goals exact fits

/-- A commit makes the slot hold an entry. -/
theorem commit_noFuller (sound : s.Sound) {x : Snapshot} {d : Declared} {o p : Bool} {dl : Option Nat}
    (opened : s.drop h = .opened x d o p dl) : NoFuller s (s.commit h x d) := by
  obtain ⟨-, held, -⟩ := sound.agree.owned_le h
  rw [opened] at held
  obtain ⟨entries, slots, -⟩ := appendEntry_journal (s.committed x d) (s.newEntry h x d)
  have appended : (s.commit h x d).journal = ((s.committed x d).appendEntry (s.newEntry h x d)).journal := by
    simp [commit_eq]
  refine ⟨?_⟩
  simp only [placesTaken, appended, entries, slots, committed_journal, List.length_append, List.length_singleton]
  simp only [Drop.holds] at held
  omega

/-! ## Reports -/

theorem takeFields_noFuller (sound : s.Sound) (h : Hatch) (r : HeadReport) : NoFuller s (s.takeFields h r) := by
  have forced : NoFuller s (s.forceFlap h) := raise_faultHatch_noFuller ..
  unfold takeFields
  split
  · exact .refl s
  · exact .ite forced (.refl s)
  · exact .ite forced (.refl s)
  · exact .ite forced (.refl s)
  · next opened =>
    exact .ite (.ofJournal rfl) (.ite (commit_noFuller sound opened) (.ite (cancelDrop_noFuller ..) (.refl s)))
  · exact .ite forced (.ite (raise_faultHatch_noFuller ..) (.ite (conclude_noFuller ..) (.refl s)))
  · exact .ite forced (.ite (arrive_noFuller ..) (.refl s))

theorem takePlate_noFuller (sound : s.Sound) (h : Hatch) (r : HeadReport) : NoFuller s (s.takePlate h r) :=
  have taken := takeFields_noFuller sound h r
  .ite (taken.same (captureZero_journal ..)) taken

theorem takeReport_fits (sound : s.Sound) (fits : s.JournalFits) (h : Hatch) (r : HeadReport) (surround : Bool)
    (token : Option Nat) (decl : Option Declaration) : (s.takeReport h r surround token decl).JournalFits := by
  have plate := (takeAlarms_noFuller s h r surround).trans
    (takePlate_noFuller (takeAlarms_sound sound h r surround) h r)
  have tokened : NoFuller s (((s.takeAlarms h r surround).takePlate h r).takeTokenPart h token) := by
    cases token with
    | none => exact plate
    | some x => exact plate.same (takeToken_journal ..)
  rw [takeReport_eq]
  cases decl with
  | none => exact tokened.fits fits
  | some d => exact takeDeclaration_fits (tokened.fits fits) h d

theorem takeValidReport_fits (sound : s.Sound) (fits : s.JournalFits) (h : Hatch) (r : HeadReport) :
    (s.takeValidReport h r).JournalFits := by
  have taken := takeReport_fits ((recordReport_quiet s h r).sound sound) fits h r (s.surroundDelivered h)
    (delivered (s.port h).snapshot.isNone (s.port h).takenToken r.token)
    (delivered (s.port h).snapshot.isNone (s.port h).takenDecl r.declaration)
  have answered : (s.takeAnsweringReport h r).JournalFits := by
    unfold takeAnsweringReport
    dsimp only
    split
    · exact (NoFuller.ofJournal (baselineRelease_journal ..)).fits taken
    · exact (examineRelease_noFuller ..).fits taken
  unfold takeValidReport
  split
  · split
    · exact answered
    · exact fits
  all_goals exact fits

theorem takeFrame_fits (sound : s.Sound) (fits : s.JournalFits) (h : Hatch) (f : HeadFrame) :
    (s.takeFrame h f).JournalFits := by
  cases f with
  | report r => exact takeValidReport_fits sound fits h r
  | answer x => exact (takeAnswer_noFuller s h x).fits fits

theorem takeComplemented_fits (sound : s.Sound) (fits : s.JournalFits) (h : Hatch) (f : HeadFrame) :
    (s.takeComplemented h f).JournalFits := by
  have judged : (s.judgeComplemented h f).JournalFits := by
    unfold judgeComplemented
    split
    · exact fits
    · split
      · exact fits
      · have inverted := modPort_quiet s h (fun p => { p with inverted := !p.inverted, streak := 0 }) (fun _ => rfl)
          fun _ => rfl
        exact takeFrame_fits ((inverted.trans (raise_quiet ..)).sound sound)
          ((NoFuller.ofJournal (raise_journal ..)).fits fits) h f
  unfold takeComplemented
  split
  · exact fits
  · exact fits
  · exact judged
  · exact judged

theorem frameEvent_fits (sound : s.Sound) (fits : s.JournalFits) (h : Hatch) (b : Bool) (f : HeadFrame) :
    (s.frameEvent h b f).JournalFits := by
  unfold frameEvent
  split
  · exact takeComplemented_fits sound fits h f
  · exact takeFrame_fits sound fits h f

/-! ## RESET, an outage and start-up -/

theorem transmitEnd_noFuller (sound : s.Sound) : NoFuller s s.transmitEnd := by
  have free := (setOffice_quiet s { s.office with transmitter := none }).sound sound
  obtain ⟨-, slots, -⟩ := resetSteps_holds free
  have reset := NoFuller.ofParts (resetSteps_lasting _).length.le (slots.trans_le (Nat.zero_le _))
  unfold transmitEnd
  split
  · exact .refl s
  · exact .ite (reset.after rfl) (.ofJournal rfl)

theorem outage_noFuller (s : State) (b : Bool) : NoFuller s (s.outage b) := .ofParts (le_refl _) (Nat.zero_le _)

theorem stop_noFuller (s : State) (b : Bool) : NoFuller s (s.stop b) := .ite (outage_noFuller s b) (.refl s)

/-- What start-up finds in the retained store are the entries as they stood, or none. -/
theorem foundRetained_entries_le (a : StartUpArgs) (s : State) :
    (foundRetained a s).entries.length ≤ s.journal.entries.length := by
  unfold foundRetained
  split
  · exact Nat.zero_le _
  · exact le_refl _

theorem Under.noFuller {k p : Nat} (under : Under a s k p u) : NoFuller s u := by
  refine under.standing.noFuller ?_
  have stranded : (startRetained a s k).entries = strandFound (foundRetained a s).entries := rfl
  rw [stranded, strandFound, List.length_map]
  exact foundRetained_entries_le a s

theorem started_noFuller (a : StartUpArgs) (s : State) : ∀ n, NoFuller s (started a s n)
  | 0 => (outage_noFuller s false).same (u := offState s) rfl
  | 1 => started_one_standing.noFuller (le_refl _)
  | 2 => started_two_standing.noFuller (foundRetained_entries_le a s)
  | 3 => started_three_standing.noFuller (foundRetained_entries_le a s)
  | 4 => started_four_under.noFuller
  | 5 => started_five_under.noFuller
  | 6 => started_six_under.noFuller
  | n + 7 => started_beyond (a := a) (s := s) n ▸ started_seven_under.noFuller

theorem startUpEvent_noFuller (a : StartUpArgs) (s : State) : NoFuller s (startUpEvent a (offState s)) := by
  have abandoned (x : State) : NoFuller x x.abandon := (outage_noFuller x false).same rfl
  have one := started_noFuller a s 1
  have cut (b : Bool) : NoFuller s (cutPhase2 a b (offState s)) := by
    have lost : NoFuller (started a s 1) (started a s 1).loseRetained := .ofParts (Nat.zero_le _) (le_refl _)
    have spoiled : NoFuller (started a s 1) (started a s 1).loseRetained.spoilStore := lost.same rfl
    exact .ite (one.trans (abandoned _)) (.ite ((one.trans spoiled).trans (abandoned _))
      ((one.trans lost).trans (abandoned _)))
  unfold startUpEvent
  split
  · exact (started_noFuller a s 7).same (pump_journal _)
  · exact (started_noFuller a s _).trans (abandoned _)
  · exact cut false
  · exact cut true

/-! ## Every command -/

theorem exec_event_fits {c : Instr} {f : State → State} (command : exec c s = .next (s.event f)) (before : s.JournalFits)
    (after : (f s).JournalFits) : ∃ t, exec c s = .next t ∧ t.JournalFits :=
  ⟨_, command, event_satisfies (P := State.JournalFits) (fun _ _ fits => fits) before after⟩

theorem exec_event_noFuller {c : Instr} {f : State → State} (command : exec c s = .next (s.event f))
    (fits : s.JournalFits) (after : NoFuller s (f s)) : ∃ t, exec c s = .next t ∧ t.JournalFits :=
  exec_event_fits command fits (after.fits fits)

theorem exec_event_journal {c : Instr} {f : State → State} (command : exec c s = .next (s.event f))
    (fits : s.JournalFits) (same : (f s).journal = s.journal) : ∃ t, exec c s = .next t ∧ t.JournalFits :=
  exec_event_noFuller command fits (.ofJournal same)

theorem exec_request_noFuller {c : Instr} {α : Type} {n : Nat} {x : Params α} {f : α → State}
    (command : exec c s = .next (s.request n x f)) (fits : s.JournalFits) (handled : ∀ a, NoFuller s (f a)) :
    ∃ t, exec c s = .next t ∧ t.JournalFits :=
  ⟨_, command, request_satisfies (P := State.JournalFits) (fun _ _ fits => fits) fits fun a => (handled a).fits fits⟩

theorem exec_request_journal {c : Instr} {α : Type} {n : Nat} {x : Params α} {f : α → State}
    (command : exec c s = .next (s.request n x f)) (fits : s.JournalFits) (same : ∀ a, (f a).journal = s.journal) :
    ∃ t, exec c s = .next t ∧ t.JournalFits :=
  exec_request_noFuller command fits fun a => .ofJournal (same a)

theorem exec_fits (c : Instr) (sound : s.Sound) (fits : s.JournalFits) : ∃ t, exec c s = .next t ∧ t.JournalFits := by
  cases c with
  | statusRead | countersRead | scheduleRead | massTablesRead | coverRead | countersClear | reset | screenRangeClear
  | mapClear | storeTables => exact exec_request_journal rfl fits fun _ => rfl
  | hatchRead => exact exec_request_journal rfl fits s.hatchRead_journal
  | alertClear => exact exec_request_journal rfl fits s.alertClear_journal
  | alertMask => exact exec_request_journal rfl fits s.alertMask_journal
  | noticeSet => exact exec_request_journal rfl fits s.noticeSet_journal
  | setClock => exact exec_request_journal rfl fits s.setClock_journal
  | schedulePut => exact exec_request_journal rfl fits s.schedulePut_journal
  | intakeStart => exact exec_request_journal rfl fits fun _ => s.intakeStart_journal
  | intakeStop => exact exec_request_journal rfl fits fun _ => s.intakeStop_journal
  | depositorPut => exact exec_request_journal rfl fits s.depositorPut_journal
  | depositorDrop => exact exec_request_journal rfl fits s.depositorDrop_journal
  | depositorState => exact exec_request_journal rfl fits s.depositorSetState_journal
  | depositorRead => exact exec_request_journal rfl fits s.depositorRead_journal
  | denomPut => exact exec_request_journal rfl fits s.denomPut_journal
  | tarePut => exact exec_request_journal rfl fits s.tarePut_journal
  | toleranceSet => exact exec_request_journal rfl fits s.toleranceSet_journal
  | screenMode => exact exec_request_journal rfl fits s.setScreenMode_journal
  | screenRangeAdd => exact exec_request_journal rfl fits s.screenRangeAdd_journal
  | screenRead => exact exec_request_journal rfl fits s.screenRead_journal
  | mapWindow => exact exec_request_journal rfl fits s.mapWindow_journal
  | mapWrite => exact exec_request_journal rfl fits s.mapWrite_journal
  | mapRead => exact exec_request_journal rfl fits s.mapRead_journal
  | coverSet => exact exec_request_journal rfl fits s.coverSet_journal
  | journalRead => exact exec_request_journal rfl fits s.journalRead_journal
  | journalResolve => exact exec_request_noFuller rfl fits s.journalResolve_noFuller
  | journalRelease => exact exec_request_noFuller rfl fits fun _ => s.journalRelease_noFuller
  | binClear => exact exec_request_noFuller rfl fits s.binClear_noFuller
  | binWithdraw => exact exec_request_journal rfl fits s.binWithdraw_journal
  | binRestore => exact exec_request_journal rfl fits s.binRestore_journal
  | binRead => exact exec_request_journal rfl fits s.binRead_journal
  | carouselHome => exact exec_request_journal rfl fits fun _ => s.carouselHome_journal
  | hatchConfig => exact exec_request_noFuller rfl fits s.hatchConfig_noFuller
  | hatchCalibrate => exact exec_request_journal rfl fits s.hatchCalibrate_journal
  | hatchRelink => exact exec_request_noFuller rfl fits s.hatchRelink_noFuller
  | hatchShow => exact exec_request_journal rfl fits s.hatchShow_journal
  | hatchClear => exact exec_request_noFuller rfl fits s.hatchClear_noFuller
  | storeTablesDone => exact exec_event_journal rfl fits s.storeTablesDone_journal
  | loadTables => exact exec_request_noFuller rfl fits fun _ => s.loadTables_noFuller
  | unknownCommand body => exact exec_event_journal rfl fits (s.answerUnknown_journal body)
  | officeBadFrame | officeGapTimeout => exact exec_event_journal rfl fits rfl
  | transmitEnd => exact exec_event_noFuller rfl fits (transmitEnd_noFuller sound)
  | mitigationTimer => exact exec_event_journal rfl fits s.mitigationExpiry_journal
  | poll h b => exact exec_event_journal rfl fits (s.pollEvent_journal h b)
  | miss h => exact exec_event_noFuller rfl fits (s.missEvent_noFuller h)
  | holdOffExpiry h b => exact exec_event_journal rfl fits (s.holdOffEvent_journal h b)
  | offer h b => exact exec_event_journal rfl fits (s.offerEvent_journal h b)
  | answer h b x => exact exec_event_fits rfl fits (frameEvent_fits sound fits h b (.answer x))
  | report h b r => exact exec_event_fits rfl fits (frameEvent_fits sound fits h b (.report r))
  | hatchBadFrame h => exact exec_event_journal rfl fits (s.badFrameEvent_journal h)
  | complementedFrame h f => exact exec_event_fits rfl fits (takeComplemented_fits sound fits h f)
  | jabber h => exact exec_event_noFuller rfl fits (s.jabberEvent_noFuller h)
  | surroundOpening h b =>
    by_cases run : s.running = true
    · exact exec_event_journal (if_pos run) fits (s.surroundEvent_journal h b)
    · exact ⟨_, if_neg run, fits⟩
  | declTimeout h => exact exec_event_noFuller rfl fits (s.declExpiry_noFuller h)
  | openTimeout h => exact exec_event_noFuller rfl fits (s.openExpiry_noFuller h)
  | weighingTimeout h => exact exec_event_noFuller rfl fits (s.weighExpiry_noFuller h)
  | tippingTimeout h => exact exec_event_noFuller rfl fits (s.tipExpiry_noFuller h)
  | clockAdvance =>
    change ∃ t, execClockAdvance s = .next t ∧ t.JournalFits
    unfold execClockAdvance
    split
    · exact ⟨s, rfl, fits⟩
    · next x _ =>
      have advanced : ((s.advanceClock x).evalTime).journal = s.journal := evalTime_journal _
      split
      · exact ⟨_, rfl, event_satisfies (P := State.JournalFits) (fun _ _ held => held) fits
          ((NoFuller.ofJournal advanced).fits fits)⟩
      · exact ⟨_, rfl, fits⟩
  | atPosition b => exact exec_event_noFuller rfl fits (s.positionEvent_noFuller b)
  | home => exact exec_event_journal rfl fits s.homeEvent_journal
  | dropPulse => exact exec_event_noFuller rfl fits s.dropEvent_noFuller
  | doorOpens =>
    by_cases run : s.running = true
    · exact exec_event_journal (if_pos run) fits s.doorOpensEvent_journal
    · exact ⟨_, if_neg run, fits⟩
  | doorCloses =>
    by_cases run : s.running = true
    · exact exec_event_journal (if_pos run) fits s.doorClosesEvent_journal
    · exact ⟨_, if_neg run, fits⟩
  | homingTimeout => exact exec_event_journal rfl fits s.homingExpiry_journal
  | moveTimeout => exact exec_event_journal rfl fits s.moveExpiry_journal
  | deliveryTimeout => exact exec_event_noFuller rfl fits s.deliveryExpiry_noFuller
  | powerFail b => exact ⟨_, rfl, (s.stop_noFuller b).fits fits⟩
  | resetInput b => exact ⟨_, rfl, (s.stop_noFuller b).fits fits⟩
  | startUp x => exact ⟨_, exec_startUp x s, (startUpEvent_noFuller x s).fits fits⟩

end State

/-- Settles O6: only a passed declaration takes a place of the ring, which it found free, and the commit of a sound state
exchanges a slot hold for an entry. -/
theorem everyStepKeepsTheJournalWithinItsPlaces : Obligations.EveryStepKeepsTheJournalWithinItsPlaces := by
  unfold Obligations.EveryStepKeepsTheJournalWithinItsPlaces
  intro s t sound fits next
  unfold step at next
  split at next
  · cases next
    exact fits
  · next c rest _ =>
    obtain ⟨u, answered, kept⟩ := State.exec_fits (s := s.setPending rest) c sound fits
    cases answered.symm.trans next
    exact kept

end Sys2Proof.Machine
end

section
/-! PROOFS. JOURNAL_RELEASE (R108, R109). -/

namespace Sys2Proof.Machine

open Sys2Proof

variable {s : State} {freed kept : List Entry}

namespace State

/-- A ring cut where its RECONCILED entries of the oldest end end: what follows is kept. -/
theorem keptEntries_of_append (ring : s.journal.entries = freed ++ kept)
    (reconciled : ∀ e ∈ freed, e.state = .reconciled)
    (oldest : ∀ e, kept.head? = some e → e.state ≠ .reconciled) : s.keptEntries = kept := by
  unfold keptEntries
  rw [ring, List.dropWhile_append_of_pos fun e mem => decide_eq_true (reconciled e mem)]
  cases kept with
  | nil => rfl
  | cons e rest => exact List.dropWhile_cons_of_neg (by simpa using oldest e rfl)

theorem releaseEntries_entries (s : State) : s.releaseEntries.journal.entries = s.keptEntries := by
  simp [releaseEntries]

/-- The reply counts the entries freed and present, and names the oldest. -/
theorem journalRelease_eq (ring : s.journal.entries = freed ++ s.keptEntries) :
    s.journalRelease ()
      = s.releaseEntries.answer 0x4A .ok
          (bytesOf 2 freed.length ++ bytesOf 2 s.keptEntries.length
            ++ bytesOf 4 ((s.keptEntries.head?.map Entry.number).getD 0)) := by
  have count : s.journal.entries.length - s.keptEntries.length = freed.length := by
    rw [ring, List.length_append, Nat.add_sub_cancel]
  unfold journalRelease oldestNumber
  dsimp only
  rw [releaseEntries_entries, count]
  rfl

end State

open State in
/-- Settles O33: the ring's first entry that is not RECONCILED is the oldest kept. -/
theorem journalReleaseFreesTheOldestReconciled : Obligations.JournalReleaseFreesTheOldestReconciled := by
  unfold Obligations.JournalReleaseFreesTheOldestReconciled
  intro s freed kept ready ring reconciled oldest
  obtain rfl := keptEntries_of_append ring reconciled oldest
  exact exec_request_answered rfl ready (journalRelease_eq ring) s.releaseEntries_kept

end Sys2Proof.Machine
end

section
/-! SUPPORT. Bags stranded out of the tray and the chute (R22, R102, R117): the entries, and the bins' records. -/

namespace Sys2Proof.Machine

open Sys2Proof

variable {s u v w : State} {h : Hatch} {n : Nat} {e : Entry} {b : BinNo}

namespace State

/-- A pending place leaves the record of its entry's bin, with W (or E) and D (R117). -/
theorem releasePlace_found (found : s.findEntry n = some e) (has : e.bin = some b) :
    s.releasePlace n
      = s.setBin b
          { s.bin b with
            pending := (s.bin b).pending - 1
            mass := (s.bin b).mass - (e.mass.getD e.expected)
            value := (s.bin b).value - e.total } := by
  simp only [releasePlace, found, has, Entry.assigned]

theorem Alike.refl (u : State) : Alike u u := ⟨rfl, fun _ => rfl⟩

/-- A change of neither journal nor bins. -/
theorem Alike.same (alike : Alike u v) (journal : w.journal = v.journal) (bins : w.store.bins = v.store.bins) :
    Alike u w :=
  ⟨bins.trans alike.bins, fun m => findEntry_of_journal journal m ▸ alike.found m⟩

/-- A bag stranded from the tray is one stranded at start-up, with the near mark evaluated after it. -/
theorem strandFromTray_eq (s : State) (n : Nat) : s.strandFromTray n = (s.strandAtStart n).evalStore := rfl

theorem Alike.strandFromTray (alike : Alike u v) (n : Nat) : Alike (u.releasePlace n) (v.strandFromTray n) :=
  (alike.strandAtStart n).same (evalStore_journal _) (evalStore_store_bins _)

/-- That entries are stranded as their places are released does not tell in the bins. -/
theorem Alike.foldl_strandFromTray (alike : Alike u v) (l : List Nat) :
    (l.foldl State.strandFromTray v).store.bins = (l.foldl State.releasePlace u).store.bins := by
  induction l generalizing u v with
  | nil => exact alike.bins
  | cons n l ih => exact ih (alike.strandFromTray n)

theorem foldl_strandFromTray_entries (l : List Nat) (s : State) :
    (l.foldl strandFromTray s).journal.entries
      = s.journal.entries.map fun e => if e.number ∈ l then e.strand else e := by
  have same (u : State) (journal : u.journal.entries = s.journal.entries) :
      (l.foldl strandFromTray u).journal.entries = (l.foldl strandAtStart s).journal.entries := by
    induction l generalizing u s with
    | nil => exact journal
    | cons n l ih =>
      refine ih _ _ ?_
      rw [strandFromTray_eq, evalStore_journal, strandAtStart_entries, strandAtStart_entries, journal]
  rw [same s rfl, foldl_strandAtStart_entries]

/-- Stranding a bag of the tray raises STRANDED. -/
theorem foldl_strandFromTray_latched {l : List Nat} (some : l ≠ []) (s : State) :
    (l.foldl strandFromTray s).latched .stranded = true := by
  cases l with
  | nil => exact absurd rfl some
  | cons n l =>
    exact (Grows.foldl strandFromTray_grows l _).stays _
      ((releasePending_grows _ n).stays _ (strandEntry_latched s n))

/-! ## The bins of a faulted hatch -/

/-- Only a bag that is tipping has a pending place to lose (R22). -/
theorem faultHatch_bins (s : State) (h : Hatch) (still : (s.drop h).code ≠ 5) :
    (s.faultHatch h).store.bins = s.store.bins := by
  have ended := faultHatch_endedFrom s h
  cases drop : s.drop h with
  | opened | weighing =>
    rw [drop] at ended
    simp only [EndedFrom] at ended
    simp only [ended]
  | tipping => exact absurd (by rw [drop]; rfl) still
  | offline | idle | awaitDecl | fault =>
    rw [drop] at ended
    obtain ⟨-, -, store⟩ := ended
    rw [store]

theorem faultHatch_bins_tipping {x : Snapshot} {d : Declared} {target : BitVec 8} {dl : Nat}
    (tips : s.drop h = .tipping x d n target dl) (alike : Alike u s) :
    (s.faultHatch h).store.bins = (u.releasePlace n).store.bins := by
  have same : (s.modPort h fun p => { p with faultFlag := true }).drop h = .tipping x d n target dl := by
    simpa [drop] using tips
  rw [faultHatch_ends s h (by simp [tips]) (by simp [tips]), endTransaction_tipping _ h _ same, evalIntake_store]
  have marked : Alike u ((s.modPort h fun p => { p with faultFlag := true }).setDrop h .fault) := alike.same rfl rfl
  exact (marked.strandFromTray n).bins

end State

end Sys2Proof.Machine
end

section
/-! PROOFS. Tray verification (R102, R117, R119). -/

namespace Sys2Proof.Machine

open Sys2Proof

namespace State

theorem deliveringFor_iff (s : State) (h : Hatch) :
    s.deliveringFor h = true
      ↔ ∃ n b release deadline, s.store.carousel = .delivering ⟨h, n⟩ b release deadline := by
  unfold deliveringFor
  cases s.store.carousel with
  | delivering g b release deadline =>
    obtain ⟨k, n⟩ := g
    simp
  | _ => simp

theorem trayAgrees_iff (s : State) (h : Hatch) (count : Nat) :
    s.trayAgrees h count = true
      ↔ (count = (s.queue h).length
          ∨ (∃ n b release deadline, s.store.carousel = .delivering ⟨h, n⟩ b release deadline)
            ∧ count + 1 = (s.queue h).length)
        ∧ (s.queue h).length ≤ (s.port h).depth := by
  rw [← deliveringFor_iff]
  simp [trayAgrees]

/-! ## A failed verification -/

/-- The queue's bags stranded, and the queue emptied. -/
def emptied (s : State) (h : Hatch) : State := ((s.queue h).foldl strandFromTray s).setQueue h []

/-- The hatch marked as faulted, with its alarm and the evaluation of intake. -/
def trayFaulted (s : State) (h : Hatch) : State :=
  ((s.modPort h fun p => { p with faultFlag := true }).raise .trayFault).evalIntake

theorem failVerification_eq (s : State) (h : Hatch) :
    s.failVerification h = ((s.emptied h).trayFaulted h).withdrawGrant h := rfl

theorem trayFaulted_journal (s : State) (h : Hatch) : (s.trayFaulted h).journal = s.journal := by simp [trayFaulted]

theorem trayFaulted_store (s : State) (h : Hatch) : (s.trayFaulted h).store = s.store := by simp [trayFaulted]

theorem emptied_queues (s : State) (h : Hatch) : (s.emptied h).store.queues = s.store.queues.set h [] := by
  have queues : ((s.queue h).foldl strandFromTray s).store.queues = s.store.queues :=
    foldl_field (fun x : State => x.store.queues) (by simp [strandFromTray, strandEntry, modEntry]) _ s
  unfold emptied
  rw [← queues]
  rfl

theorem failVerification_entries (s : State) (h : Hatch) :
    (s.failVerification h).journal.entries
      = s.journal.entries.map fun e => if e.number ∈ s.queue h then { e with state := .stranded } else e := by
  rw [failVerification_eq, withdrawGrant_journal, trayFaulted_journal]
  exact foldl_strandFromTray_entries (s.queue h) s

theorem failVerification_queues (s : State) (h : Hatch) :
    (s.failVerification h).store.queues = s.store.queues.set h [] := by
  rw [failVerification_eq, withdrawGrant_store_queues, trayFaulted_store, emptied_queues]

theorem failVerification_bins (s : State) (h : Hatch) :
    (s.failVerification h).store.bins = ((s.queue h).foldl releasePlace s).store.bins := by
  rw [failVerification_eq, withdrawGrant_store_bins, trayFaulted_store]
  exact (Alike.refl s).foldl_strandFromTray (s.queue h)

theorem failVerification_faultFlag (s : State) (h : Hatch) : ((s.failVerification h).port h).faultFlag = true :=
  failVerification_port_part Port.faultFlag (fun _ _ _ => rfl) (fun _ _ => rfl) s h

theorem failVerification_latched_trayFault (s : State) (h : Hatch) :
    (s.failVerification h).latched .trayFault = true :=
  ((evalIntake_grows _).trans (withdrawGrant_grows _ h)).stays _ (raise_latched _ _)

theorem failVerification_latched_stranded (s : State) (h : Hatch) (held : s.queue h ≠ []) :
    (s.failVerification h).latched .stranded = true := by
  have grows : Grows ((s.queue h).foldl strandFromTray s) (s.failVerification h) :=
    ((raise_grows _ _).trans ((evalIntake_grows _).trans (withdrawGrant_grows _ h))).after rfl
  exact grows.stays _ (foldl_strandFromTray_latched held s)

theorem failVerification_grant (s : State) (h : Hatch) {g : Grant}
    (grant : (s.failVerification h).store.carousel.grant = some g) : g.hatch ≠ h := by
  refine withdrawGrant_grant ((s.emptied h).trayFaulted h) h ?_ g grant
  unfold queue
  rw [trayFaulted_store, emptied_queues, PerHatch.get_set_self]

end State

open State in
/-- Settles O42: the queue's bags are stranded one by one, which the bins show as places released one by one; then the
hatch is marked and its grant withdrawn. -/
theorem failedTrayVerificationEmptiesTheQueue : Obligations.FailedTrayVerificationEmptiesTheQueue := by
  unfold Obligations.FailedTrayVerificationEmptiesTheQueue
  refine ⟨trayAgrees_iff, fun s h => ⟨s.failVerification_entries h, ?_, fun k other => ?_, s.failVerification_faultFlag h,
    s.failVerification_latched_trayFault h, s.failVerification_latched_stranded h, fun _ => s.failVerification_grant h,
    s.failVerification_bins h, fun _ _ _ => releasePlace_found, failVerification_cover s h,
    failVerification_tables s h⟩⟩
  · exact (congrArg (PerHatch.get · h) (s.failVerification_queues h)).trans (PerHatch.get_set_self ..)
  · exact (congrArg (PerHatch.get · k) (s.failVerification_queues h)).trans (PerHatch.get_set_ne _ other.symm _)

end Sys2Proof.Machine
end

section
/-! PROOFS. The ends of a delivery: the drop pulse, the deadline and a stray pulse (R101, R102, R126, R127, R129). -/

namespace Sys2Proof.Machine

open Sys2Proof

variable {s u : State} {g : Grant} {b : BinNo} {release : BitVec 8} {deadline : Nat}

namespace State

theorem exec_dropPulse (s : State) : exec .dropPulse s = .next (s.event dropEvent) := rfl

theorem pump_latched (s : State) (f : Flag) : s.pump.latched f = s.latched f := by
  unfold pump
  split <;> rfl

theorem exec_deliveryTimeout (s : State) : exec .deliveryTimeout s = .next (s.event deliveryExpiry) := rfl

/-! ## The drop pulse -/

theorem dropEvent_delivering (delivers : s.store.carousel = .delivering g b release deadline) :
    s.dropEvent = s.fileBag g b := by
  unfold dropEvent
  rw [delivers]

theorem dropEvent_stray (stray : s.store.carousel.code ≠ 5) : s.dropEvent = s.unexpectedDrop := by
  unfold dropEvent
  split
  · next delivers => exact absurd (congrArg Carousel.code delivers) stray
  all_goals rfl

/-- A filed bag: its entry, its bin's record, its queue and the carousel change in one whole (R126). -/
theorem fileBag_eq {c : ClockTime} (clock : s.intake.clock = some c) (g : Grant) (b : BinNo) :
    s.fileBag g b
      = arbiter
          { s with
            journal :=
              { s.journal with
                entries :=
                  s.journal.entries.map fun e =>
                    if e.number = g.entry then { e with state := .binned, binned := some c } else e }
            store :=
              { s.store with
                bins :=
                  s.store.bins.put b
                    { s.bin b with arrived := (s.bin b).arrived ++ [g.entry], pending := (s.bin b).pending - 1 }
                queues := s.store.queues.set g.hatch (s.queue g.hatch).tail
                carousel := .idle
                position := some b } } := by
  have stamp : s.stampTime (Config.freeFiling g.entry) = c := by simp [stampTime, clock]
  subst stamp
  rfl

/-! ## The deadline -/

theorem deliveryExpiry_delivering (delivers : s.store.carousel = .delivering g b release deadline) :
    s.deliveryExpiry = (s.reach deadline).failDelivery g release .fault := by
  unfold deliveryExpiry
  rw [delivers]

theorem deliveryExpiry_other (other : s.store.carousel.code ≠ 5) : s.deliveryExpiry = s := by
  unfold deliveryExpiry
  split
  · next delivers => exact absurd (congrArg Carousel.code delivers) other
  · rfl

/-- A failed delivery before the tray is judged: the bag is stranded out of its queue, and the carousel has failed. -/
def deliveryLost (s : State) (g : Grant) (next : Carousel) : State :=
  (((((s.strandEntry g.entry).releasePending g.entry).popQueue g.hatch).setCarousel next).raise
    .carouselFault).evalIntake

theorem failDelivery_eq (s : State) (g : Grant) (target : BitVec 8) (next : Carousel) :
    s.failDelivery g target next = (s.deliveryLost g next).blameTray g.hatch target := rfl

section
variable (s : State) (g : Grant) (next : Carousel)

theorem deliveryLost_journal : (s.deliveryLost g next).journal = (s.strandEntry g.entry).journal := by
  simp [deliveryLost, popQueue]

theorem deliveryLost_cover : (s.deliveryLost g next).cover = s.cover := by
  simp [deliveryLost, popQueue, strandEntry, modEntry]

theorem deliveryLost_tables : (s.deliveryLost g next).tables = s.tables := by
  simp [deliveryLost, popQueue, strandEntry, modEntry]

theorem deliveryLost_now : (s.deliveryLost g next).now = s.now := by
  simp [deliveryLost, popQueue, strandEntry, modEntry]

theorem deliveryLost_queues :
    (s.deliveryLost g next).store.queues = s.store.queues.set g.hatch (s.queue g.hatch).tail := by
  have same : ((s.strandEntry g.entry).releasePending g.entry).store.queues = s.store.queues := by
    simp [strandEntry, modEntry]
  simp only [deliveryLost, evalIntake_store, raise_store, popQueue, queue, ← same]
  rfl

theorem deliveryLost_carousel : (s.deliveryLost g next).store.carousel = next := by
  simp [deliveryLost, setCarousel]

theorem deliveryLost_position : (s.deliveryLost g next).store.position = s.store.position := by
  simp [deliveryLost, setCarousel, popQueue, setQueue, strandEntry, modEntry]

theorem deliveryLost_alike : Alike (s.releasePlace g.entry) (s.deliveryLost g next) :=
  ((Alike.refl s).strandFromTray g.entry).same (by simp [deliveryLost, popQueue, strandFromTray])
    (by simp [deliveryLost, popQueue, strandFromTray, setCarousel, setQueue])

theorem deliveryLost_port_part {β : Type} (p : Port → β)
    (c : ∀ (q : Port) (d : Drop) (x : Option Nat), p { q with drop := d, showDue := x } = p q) (k : Hatch) :
    p ((s.deliveryLost g next).port k) = p (s.port k) :=
  (evalIntake_port_part p c _ k).trans (congrArg p (port_of_ports (by simp [popQueue, strandEntry, modEntry]) k))

theorem deliveryLost_drop_eq {k : Hatch} (settled : (s.drop k).code ≠ 2) : (s.deliveryLost g next).drop k = s.drop k := by
  have same (u : State) (ports : u.ports = s.ports) : u.evalIntake.drop k = s.drop k := by
    rw [evalIntake_drop_eq u k (by rwa [drop_of_ports ports]), drop_of_ports ports]
  exact same _ (by simp [popQueue, strandEntry, modEntry])

/-- Intake control may cancel a transaction in AWAIT_DECL, and puts none in TIPPING. -/
theorem deliveryLost_still {k : Hatch} (still : (s.drop k).code ≠ 5) : ((s.deliveryLost g next).drop k).code ≠ 5 := by
  have cases (u : State) (ports : u.ports = s.ports) : (u.evalIntake.drop k).code ≠ 5 := by
    rcases evalIntake_drop_cases u k with same | ⟨-, idle⟩
    · rwa [same, drop_of_ports ports]
    · rw [idle]
      decide
  exact cases _ (by simp [popQueue, strandEntry, modEntry])

end

/-! ## Whether the tray is blamed -/

/-- The release counter is held and has not come to the target (R127). -/
def Blamed (s : State) (h : Hatch) (target : BitVec 8) : Prop :=
  ∃ k, (s.port h).release = some k ∧ k.seen ≠ target

theorem blameTray_blamed {h : Hatch} {target : BitVec 8} (blamed : s.Blamed h target) :
    s.blameTray h target = (s.raise .trayFault).faultHatch h := by
  obtain ⟨k, held, short⟩ := blamed
  simp [blameTray, held, short]

theorem blameTray_spared {h : Hatch} {target : BitVec 8} (spared : ¬s.Blamed h target) : s.blameTray h target = s := by
  unfold blameTray
  split
  · rfl
  · next k held => exact if_pos (by_contra fun short => spared ⟨k, held, short⟩)

theorem deliveryLost_blamed (s : State) (g : Grant) (next : Carousel) (target : BitVec 8) :
    (s.deliveryLost g next).Blamed g.hatch target ↔ s.Blamed g.hatch target := by
  unfold Blamed
  rw [deliveryLost_port_part s g next Port.release (fun _ _ _ => rfl)]

/-- What neither an alarm nor a faulted hatch reaches, a judged tray leaves alone. -/
theorem blameTray_part {β : Type} (p : State → β) (flag : ∀ s f, p (raise s f) = p s)
    (fault : ∀ s h, p (faultHatch s h) = p s) (s : State) (h : Hatch) (target : BitVec 8) :
    p (s.blameTray h target) = p s := by
  by_cases blamed : s.Blamed h target
  · rw [blameTray_blamed blamed, fault, flag]
  · rw [blameTray_spared blamed]

section
variable (s : State) (g : Grant) (target : BitVec 8) (next : Carousel)

theorem failDelivery_queues :
    (s.failDelivery g target next).store.queues = s.store.queues.set g.hatch (s.queue g.hatch).tail :=
  (blameTray_part (fun x => x.store.queues) (by simp) (by simp) ..).trans (s.deliveryLost_queues g next)

theorem failDelivery_carousel : (s.failDelivery g target next).store.carousel = next :=
  (blameTray_part (fun x => x.store.carousel) (by simp) (by simp) ..).trans (s.deliveryLost_carousel g next)

theorem failDelivery_position : (s.failDelivery g target next).store.position = s.store.position :=
  (blameTray_part (fun x => x.store.position) (by simp) (by simp) ..).trans (s.deliveryLost_position g next)

theorem failDelivery_committed : (s.failDelivery g target next).cover.committed = s.cover.committed :=
  (blameTray_part (fun x => x.cover.committed) (by simp) (by simp) ..).trans
    (congrArg Cover.committed (s.deliveryLost_cover g next))

theorem failDelivery_tables : (s.failDelivery g target next).tables = s.tables :=
  (blameTray_part State.tables (by simp) (by simp) ..).trans (s.deliveryLost_tables g next)

theorem failDelivery_now : (s.failDelivery g target next).now = s.now :=
  (blameTray_part State.now (by simp) (by simp) ..).trans (s.deliveryLost_now g next)

/-- The bag's entry is STRANDED, and stays so as the hatch is faulted. -/
theorem failDelivery_mem {e : Entry} (present : e ∈ s.journal.entries) (own : e.number = g.entry) :
    { e with state := .stranded } ∈ (s.failDelivery g target next).journal.entries := by
  have lost : { e with state := .stranded } ∈ (s.deliveryLost g next).journal.entries := by
    rw [deliveryLost_journal]
    exact strandEntry_mem_self s _ e present own
  rw [failDelivery_eq]
  by_cases blamed : (s.deliveryLost g next).Blamed g.hatch target
  · rw [blameTray_blamed blamed]
    exact faultHatch_mem _ _ _ (by rwa [raise_journal]) rfl
  · rwa [blameTray_spared blamed]

end

variable {target : BitVec 8} {next : Carousel}

theorem failDelivery_spared (spared : ¬s.Blamed g.hatch target) : s.failDelivery g target next = s.deliveryLost g next :=
  blameTray_spared (mt (deliveryLost_blamed s g next target).1 spared)

theorem failDelivery_blamed (blamed : s.Blamed g.hatch target) :
    s.failDelivery g target next = ((s.deliveryLost g next).raise .trayFault).faultHatch g.hatch :=
  blameTray_blamed ((deliveryLost_blamed s g next target).2 blamed)

theorem failDelivery_faulted (blamed : s.Blamed g.hatch target) :
    ((s.failDelivery g target next).port g.hatch).faultFlag = true
      ∧ (s.failDelivery g target next).latched .trayFault = true := by
  rw [failDelivery_blamed blamed]
  exact ⟨congrArg Port.faultFlag (faultHatch_port_self ..), (faultHatch_grows ..).stays _ (raise_latched ..)⟩

theorem failDelivery_faultFlag (spared : ¬s.Blamed g.hatch target) :
    ((s.failDelivery g target next).port g.hatch).faultFlag = (s.port g.hatch).faultFlag := by
  rw [failDelivery_spared spared]
  exact deliveryLost_port_part s g next Port.faultFlag (fun _ _ _ => rfl) _

/-- The bag's place leaves its bin, and no other, unless a blamed hatch is tipping another bag. -/
theorem failDelivery_bins (still : (s.drop g.hatch).code ≠ 5 ∨ ¬s.Blamed g.hatch target) :
    (s.failDelivery g target next).store.bins = (s.releasePlace g.entry).store.bins := by
  by_cases blamed : s.Blamed g.hatch target
  · have kept := s.deliveryLost_still g next (still.resolve_right (not_not.2 blamed))
    rw [failDelivery_blamed blamed, faultHatch_bins _ _ (by rwa [drop_of_ports (raise_ports ..)]), raise_store]
    exact (s.deliveryLost_alike g next).bins
  · rw [failDelivery_spared blamed]
    exact (s.deliveryLost_alike g next).bins

theorem failDelivery_bins_tipping {x : Snapshot} {d : Declared} {n dl : Nat} {aim : BitVec 8}
    (tips : s.drop g.hatch = .tipping x d n aim dl) (blamed : s.Blamed g.hatch target) :
    (s.failDelivery g target next).store.bins = ((s.releasePlace g.entry).releasePlace n).store.bins := by
  have same : (s.deliveryLost g next).drop g.hatch = .tipping x d n aim dl :=
    (s.deliveryLost_drop_eq g next (by simp [tips, Drop.code])).trans tips
  rw [failDelivery_blamed blamed]
  exact faultHatch_bins_tipping ((drop_of_ports (raise_ports ..) _).trans same)
    ((s.deliveryLost_alike g next).same (raise_journal ..) (by rw [raise_store]))

/-- The moment tells nothing in journal and bins. -/
theorem reach_alike (s : State) (t : Nat) : Alike s (s.reach t) := (Alike.refl s).same rfl rfl

end State

open State in
/-- Settles O40: the pulse by the carousel's state, and the deadline by the lost delivery and the judged tray. -/
theorem deliveriesEnd : Obligations.DeliveriesEnd := by
  unfold Obligations.DeliveriesEnd
  refine ⟨⟨fun s g b release deadline c settled delivers clock => ?filed, fun s run stray => ?stray⟩,
    ⟨fun s g b target deadline run delivers => ?deadline, fun s settled other => ?notDelivering⟩,
    fun s _ _ _ => releasePlace_found⟩
  case filed =>
    have files := dropEvent_delivering delivers
    have filed : s.event dropEvent = s.dropEvent :=
      event_settled settled (files ▸ fileBag_kept s g b) (by rw [files, fileBag_office])
    rw [exec_dropPulse, filed, files, fileBag_eq clock]
  case stray =>
    rw [exec_dropPulse, event_run _ run, dropEvent_stray stray]
    rfl
  case deadline =>
    have failed : exec .deliveryTimeout s = .next ((s.reach deadline).failDelivery g target .fault).pump := by
      rw [exec_deliveryTimeout, event_run _ run, deliveryExpiry_delivering delivers]
    obtain ⟨stranded, faulted⟩ := (s.reach deadline).failDelivery_latched g target .fault
    refine ⟨_, failed, ?_⟩
    simp only [queue, pump_latched, pump_journal, pump_store, pump_cover, pump_tables, pump_now, pump_port,
      failDelivery_queues, failDelivery_carousel, failDelivery_position, failDelivery_committed, failDelivery_tables,
      failDelivery_now]
    refine ⟨fun e present own => failDelivery_mem _ g target .fault present own, PerHatch.get_set_self ..,
      fun h other => PerHatch.get_set_ne _ other.symm _, trivial, rfl, stranded, faulted, rfl, rfl, rfl,
      fun k held short => failDelivery_faulted ⟨k, held, short⟩, fun free => ?spared, fun still => ?still,
      fun x d n aim dl tips blamed => ?tipping⟩
    case spared =>
      refine failDelivery_faultFlag (s := s.reach deadline) fun ⟨k, held, short⟩ => ?_
      rcases free with none | ⟨l, counts, seen⟩
      · cases none.symm.trans held
      · cases counts.symm.trans held
        exact short seen
    case still => exact (failDelivery_bins (s := s.reach deadline) still).trans ((s.reach_alike _).releasePlace _).bins
    case tipping =>
      exact (failDelivery_bins_tipping (s := s.reach deadline) tips blamed).trans
        (((s.reach_alike _).releasePlace _).releasePlace n).bins
  case notDelivering =>
    have same := deliveryExpiry_other other
    have still : s.event deliveryExpiry = s.deliveryExpiry := event_eq settled.1 (same.symm ▸ settled.2)
    rw [exec_deliveryTimeout, still, same]

end Sys2Proof.Machine
end

section
/-! SUPPORT. The event of a settled controller from what its handler makes of the state: a change that leaves the office
port alone is the whole of the event, and any other change is followed by the transmitter. -/

namespace Sys2Proof.Machine

open Sys2Proof

variable {i : Instr} {s t : State} {f : State → State}

namespace State

/-- A settled event that makes no frame ends in what its handler makes of the state. -/
theorem exec_event_quiet_office (command : exec i s = .next (s.event f)) (settled : s.Settled) (change : f s = t)
    (office : t.office = s.office) : exec i s = .next t := by
  have quiet : (f s).NothingWaits :=
    change ▸ settled.2.of_office (congrArg Office.transmitter office) (congrArg Office.replies office)
      (congrArg Office.notice office)
  rw [command, event_eq settled.1 quiet, change]

/-- A settled event that changes nothing. -/
theorem exec_event_same (command : exec i s = .next (s.event f)) (settled : s.Settled) (same : f s = s) :
    exec i s = .next s := command.trans (congrArg _ (event_unchanged settled same))

/-- An event that may make a frame, which a free transmitter begins. -/
theorem exec_event_pumped (command : exec i s = .next (s.event f)) (run : s.running = true) (change : f s = t) :
    exec i s = .next t.pump := by
  rw [command, event_run _ run, change]

end State

end Sys2Proof.Machine
end

section
/-! SUPPORT. The first member of a list that passes a test, where the list is in order. -/

namespace Sys2Proof

/-- In a list in order of `f`, what is found comes no later than any other member that passes. -/
theorem find?_le {α : Type} {f : α → Nat} {p : α → Bool} {a k : α} : ∀ {l : List α}, l.Pairwise (f · < f ·) →
    l.find? p = some a → k ∈ l → p k = true → f a ≤ f k
  | x :: l, order, found, mem, passes => by
    obtain ⟨below, order⟩ := List.pairwise_cons.1 order
    cases first : p x with
    | true =>
      obtain rfl : x = a := by simpa [List.find?_cons, first] using found
      rcases List.mem_cons.1 mem with rfl | later
      · exact Nat.le_refl _
      · exact Nat.le_of_lt (below k later)
    | false =>
      have rest : l.find? p = some a := by simpa [List.find?_cons, first] using found
      have later : k ∈ l := (List.mem_cons.1 mem).resolve_left fun e => by simp [← e, passes] at first
      exact find?_le order rest later passes

end Sys2Proof
end

section
/-! PROOFS. The arbiter's choice and what it starts (R120, R124, R125). -/

namespace Sys2Proof.Machine

open Sys2Proof

variable {s : State} {h k : Hatch}

/-- How many hatches stand before `h` in the order from the one after `last`, wrapping from 4 to 1 (R120). -/
def turnsAfter (last h : Hatch) : Nat := (h.num + 3 - last.num) % 4

theorem hatchesAfter_ordered (last : Hatch) : (hatchesAfter last).Pairwise (turnsAfter last · < turnsAfter last ·) := by
  cases last <;> decide

theorem mem_hatchesAfter (last h : Hatch) : h ∈ hatchesAfter last := by
  cases last <;> cases h <;> decide

namespace State

theorem candidate_iff (s : State) (h : Hatch) :
    s.candidate h = true ↔ s.queue h ≠ [] ∧ (s.port h).link = .up ∧ (s.port h).release.isSome = true := by
  simp [candidate, and_assoc]

theorem pressed_iff (s : State) (h : Hatch) : s.pressed h = true ↔ (s.queue h).length = (s.port h).depth := by
  simp [pressed]

/-! ## The choice -/

/-- Some candidate is pressed. -/
def anyPressed (s : State) : Bool := (hatchesAfter s.store.lastGranted).any fun h => s.candidate h && s.pressed h

/-- A candidate that competes: a pressed one, or any where none is pressed (R120). -/
def competes (s : State) (h : Hatch) : Bool := s.candidate h && (s.pressed h || !s.anyPressed)

theorem anyPressed_iff (s : State) : s.anyPressed = true ↔ ∃ h, s.candidate h = true ∧ s.pressed h = true := by
  simp [anyPressed, mem_hatchesAfter]

theorem competes_iff (s : State) (h : Hatch) :
    s.competes h = true
      ↔ s.candidate h = true ∧ (s.pressed h = true ∨ ¬∃ k, s.candidate k = true ∧ s.pressed k = true) := by
  rw [← anyPressed_iff]
  simp [competes]

/-- The arbiter's choice is the first hatch in turn that competes. -/
theorem arbiterChoice_eq (s : State) :
    s.arbiterChoice = (hatchesAfter s.store.lastGranted).find? s.competes := by
  have asked : ((hatchesAfter s.store.lastGranted).filter s.candidate).any s.pressed = s.anyPressed := List.any_filter
  have competing : s.competes = fun h => s.candidate h && (s.pressed h || !s.anyPressed) := rfl
  rw [competing]
  unfold arbiterChoice
  simp only [asked]
  cases s.anyPressed with
  | true => simp [List.find?_filter]
  | false => simp [List.head?_filter]

theorem arbiterChoice_competes (chosen : s.arbiterChoice = some h) : s.competes h = true :=
  List.find?_some (s.arbiterChoice_eq ▸ chosen)

theorem arbiterChoice_first (chosen : s.arbiterChoice = some h) (competes : s.competes k = true) :
    turnsAfter s.store.lastGranted h ≤ turnsAfter s.store.lastGranted k :=
  find?_le (hatchesAfter_ordered _) (s.arbiterChoice_eq ▸ chosen) (mem_hatchesAfter _ k) competes

/-- Some candidate competes, if there is any, so that one is chosen. -/
theorem arbiterChoice_eq_none (s : State) : s.arbiterChoice = none ↔ ∀ h, ¬s.candidate h = true := by
  rw [arbiterChoice_eq, List.find?_eq_none]
  constructor
  · intro absent h candidate
    by_cases pressed : ∃ k, s.candidate k = true ∧ s.pressed k = true
    · obtain ⟨k, candidate, presses⟩ := pressed
      exact absent k (mem_hatchesAfter _ k) ((s.competes_iff k).2 ⟨candidate, .inl presses⟩)
    · exact absent h (mem_hatchesAfter _ h) ((s.competes_iff h).2 ⟨candidate, .inr pressed⟩)
  · exact fun absent h _ competes => absent h ((s.competes_iff h).1 competes).1

/-! ## What is started -/

theorem arbiter_still (still : s.store.carousel ≠ .idle ∨ s.store.doorOpen = true ∨ s.arbiterChoice = none) :
    s.arbiter = s := by
  unfold arbiter
  split
  · next free =>
    obtain ⟨idle, closed⟩ := free
    have unchosen : s.arbiterChoice = none := by simpa [idle, closed] using still
    rw [unchosen]
  · rfl

theorem arbiter_grants (idle : s.store.carousel = .idle) (closed : s.store.doorOpen = false)
    (chosen : s.arbiterChoice = some h) : s.arbiter = s.grantTo h := by
  simp [arbiter, idle, closed, chosen]

variable {n : Nat} {rest : List Nat}

theorem grantTo_moves (head : s.queue h = n :: rest) (away : s.store.position ≠ some (s.binOfEntry n)) :
    s.grantTo h
      = s.setStore
          { s.store with
            lastGranted := h, carousel := .moving (s.binOfEntry n) (some ⟨h, n⟩) (s.now + 25000) } := by
  simp only [grantTo, head, if_neg away]
  rfl

theorem grantTo_delivers (head : s.queue h = n :: rest) (there : s.store.position = some (s.binOfEntry n)) :
    s.grantTo h = (s.setStore { s.store with lastGranted := h }).deliver ⟨h, n⟩ (s.binOfEntry n) := by
  simp only [grantTo, head, if_pos there]

/-- A delivery allows one release more than was allowed (R125). -/
theorem deliver_eq {g : Grant} {counts : ReleaseCounts} (held : (s.port g.hatch).release = some counts) (b : BinNo) :
    s.deliver g b
      = (s.modPort g.hatch fun p => { p with release := some ⟨counts.seen, counts.allowed + 1⟩ }).setCarousel
          (.delivering g b (counts.allowed + 1) (s.now + 8000)) := by
  have target : s.releaseTarget g = counts.allowed + 1 := by simp [releaseTarget, held]
  simp only [deliver, target, modPort, held, Option.map_some]
  rfl

end State

open State in
/-- Settles O37: the choice is the first in turn of those that compete; what it starts goes by the bin's position. -/
theorem arbiterServesInTurnThePressedFirst : Obligations.ArbiterServesInTurnThePressedFirst := by
  unfold Obligations.ArbiterServesInTurnThePressedFirst
  refine ⟨fun s => ?choice, fun s => arbiter_still, fun s h n rest idle closed chosen head => ⟨?moves, ?delivers⟩⟩
  case choice =>
    simp only [← candidate_iff, ← pressed_iff]
    refine ⟨s.arbiterChoice_eq_none, fun h chosen => ?_⟩
    obtain ⟨candidate, among⟩ := (s.competes_iff h).1 (arbiterChoice_competes chosen)
    exact ⟨candidate, fun pressed => among.resolve_right (not_not.2 pressed),
      fun k other competing => arbiterChoice_first chosen ((s.competes_iff k).2 ⟨other, competing⟩)⟩
  case moves =>
    intro away
    rw [arbiter_grants idle closed chosen, grantTo_moves head away]
    rfl
  case delivers =>
    intro counts there held
    rw [arbiter_grants idle closed chosen, grantTo_delivers head there,
      deliver_eq (g := ⟨h, n⟩) (s := s.setStore { s.store with lastGranted := h }) held]
    rfl

end Sys2Proof.Machine
end

section
/-! PROOFS. The order of candidates for a bag's bin (R111, R115). -/

namespace Sys2Proof.Machine

open Sys2Proof

variable {s : State} {b : BinNo} {home : Nat}

namespace State

theorem takesBags_iff (s : State) (b : BinNo) :
    s.takesBags b = true
      ↔ (s.bin b).state = .opened
        ∧ (s.bin b).arrived.length + (s.bin b).pending < (if b = 0 then 24 else 12) := by
  have room : 0 < (if b = 0 then 24 else 12) - (s.bin b).arrived.length - (s.bin b).pending
      ↔ (s.bin b).arrived.length + (s.bin b).pending < if b = 0 then 24 else 12 := by omega
  simp +contextual [takesBags, Bin.room, Config.binCapacity_eq, room]

theorem isLight_iff (s : State) (b : BinNo) : s.isLight b = true ↔ (s.bin b).mass < 15000 := decide_eq_true_iff

/-! ## The candidate of each step -/

theorem firstRegular_least {p : BinNo → Bool} (regular : b ≠ 0) (takes : s.takesBags b = true) (passes : p b = true)
    (least : ∀ c < b, ¬(c ≠ 0 ∧ s.takesBags c = true ∧ p c = true)) : s.firstRegular p = some b := by
  have fits : (decide (b ≠ 0) && s.takesBags b && p b) = true := by simp [regular, takes, passes]
  have some : (s.firstRegular p).isSome := List.find?_isSome.2 ⟨b, List.mem_finRange b, fits⟩
  obtain ⟨c, found⟩ := Option.isSome_iff_exists.1 some
  have order : allBins.Pairwise (·.val < ·.val) := List.pairwise_lt_finRange 30
  have before : c.val ≤ b.val := find?_le order found (List.mem_finRange b) fits
  have candidate : c ≠ 0 ∧ s.takesBags c = true ∧ p c = true := by simpa [and_assoc] using List.find?_some found
  have after : ¬c.val < b.val := fun less => least c less candidate
  rw [found, Fin.ext (by omega : c.val = b.val)]

theorem firstRegular_none {p : BinNo → Bool} (absent : ¬∃ b : BinNo, b ≠ 0 ∧ s.takesBags b = true ∧ p b = true) :
    s.firstRegular p = none :=
  List.find?_eq_none.2 fun b _ found => absent ⟨b, by simpa [and_assoc] using found⟩

theorem firstRegular_any_least (regular : b ≠ 0) (takes : s.takesBags b = true)
    (least : ∀ c < b, ¬(c ≠ 0 ∧ s.takesBags c = true)) : (s.firstRegular fun _ => true) = some b :=
  firstRegular_least regular takes rfl fun c below ⟨regular, takes, _⟩ => least c below ⟨regular, takes⟩

/-- Where no regular bin takes bags, none passes any test. -/
theorem firstRegular_none_of_full (full : ¬∃ b : BinNo, b ≠ 0 ∧ s.takesBags b = true) (p : BinNo → Bool) :
    s.firstRegular p = none :=
  firstRegular_none fun ⟨b, regular, takes, _⟩ => full ⟨b, regular, takes⟩

theorem homeCandidate_fits (regular : b ≠ 0) (takes : s.takesBags b = true) (light : s.isLight b = true) :
    s.homeCandidate b.val = some b := by
  simp [homeCandidate, regular, takes, light]

theorem homeCandidate_none
    (absent : ¬∃ b : BinNo, b.val = home ∧ b ≠ 0 ∧ s.takesBags b = true ∧ s.isLight b = true) :
    s.homeCandidate home = none := by
  unfold homeCandidate
  split
  · next b named =>
    refine if_neg fun fits => absent ⟨b, ?_, fits⟩
    unfold binOf? at named
    split at named <;> cases named
    rfl
  · rfl

theorem quarantineCandidate_fits (takes : s.takesBags 0 = true) : s.quarantineCandidate = some 0 := if_pos takes

theorem quarantineCandidate_none (full : ¬s.takesBags 0 = true) : s.quarantineCandidate = none := if_neg full

/-! ## The steps -/

theorem chooseBin_accepted (n : Nat) {x : BinNo × Route} (found : s.chooseAccepted home = some x) :
    s.chooseBin .accepted home n = x := by
  simp [chooseBin, found]

theorem chooseBin_quarantined (n : Nat) {x : BinNo × Route} (found : s.chooseQuarantined = some x) :
    s.chooseBin .quarantined home n = x := by
  simp [chooseBin, found]

end State

open State in
/-- Settles O36: each clause by the candidates of its steps; those of the earlier steps are none. -/
theorem bagIsAssignedByTheOrderOfCandidates : Obligations.BagIsAssignedByTheOrderOfCandidates := by
  unfold Obligations.BagIsAssignedByTheOrderOfCandidates
  intro s home n fits light homeFits anyLight anyRegular leastLight leastRegular
  have fits_eq : fits = fun b => s.takesBags b = true := funext fun b => propext (s.takesBags_iff b).symm
  have light_eq : light = fun b => s.isLight b = true := funext fun b => propext (s.isLight_iff b).symm
  simp only [homeFits, anyLight, anyRegular, leastLight, leastRegular, fits_eq, light_eq]
  refine ⟨?home, fun away b ⟨regular, takes, light, first⟩ => ?light, fun away heavy b ⟨regular, takes, first⟩ => ?heavy,
    fun away full takes => ?diverted, fun takes => ?bin0, fun full b ⟨regular, takes, light, first⟩ => ?divertedLight,
    fun full heavy b ⟨regular, takes, first⟩ => ?divertedHeavy⟩
  case home =>
    rintro b rfl regular takes light
    exact chooseBin_accepted n (by simp only [chooseAccepted, homeCandidate_fits regular takes light])
  case light =>
    have step2 := firstRegular_least regular takes light first
    exact chooseBin_accepted n (by simp only [chooseAccepted, homeCandidate_none away, step2])
  case heavy =>
    have step3 := firstRegular_any_least regular takes first
    exact chooseBin_accepted n (by simp only [chooseAccepted, homeCandidate_none away, firstRegular_none heavy, step3])
  case diverted =>
    have steps2And3 := firstRegular_none_of_full full
    exact chooseBin_accepted n
      (by simp only [chooseAccepted, homeCandidate_none away, steps2And3, quarantineCandidate_fits takes])
  case bin0 => exact chooseBin_quarantined n (by simp only [chooseQuarantined, quarantineCandidate_fits takes])
  case divertedLight =>
    have step2 := firstRegular_least regular takes light first
    exact chooseBin_quarantined n (by simp only [chooseQuarantined, quarantineCandidate_none full, step2])
  case divertedHeavy =>
    have step3 := firstRegular_any_least regular takes first
    exact chooseBin_quarantined n
      (by simp only [chooseQuarantined, quarantineCandidate_none full, firstRegular_none heavy, step3])

end Sys2Proof.Machine
end

section
/-! PROOFS. AT_POSITION (R117, R121 to R124, R127, R128). -/

namespace Sys2Proof.Machine

open Sys2Proof

variable {s : State} {b : BinNo}

namespace State

theorem exec_atPosition (s : State) (b : BinNo) :
    exec (.atPosition b) s = .next (s.event fun s => s.positionEvent b) := rfl

/-! ## What the index means in each carousel state -/

theorem positionEvent_unhomed (stands : s.store.carousel = .unhomed) : s.positionEvent b = s := by
  simp only [positionEvent, stands]

theorem positionEvent_records (turns : s.store.carousel.code = 1 ∨ s.store.carousel.code = 4) :
    s.positionEvent b = s.setPosition (some b) := by
  unfold positionEvent
  cases c : s.store.carousel <;> simp [c, Carousel.code] at turns <;> rfl

theorem positionEvent_idle (stands : s.store.carousel = .idle) :
    s.positionEvent b = if s.store.position = some b then s else s.turned := by
  simp only [positionEvent, stands]

theorem positionEvent_fault (stands : s.store.carousel = .fault) :
    s.positionEvent b = if s.store.position = some b ∨ s.store.position = none then s else s.turned := by
  simp only [positionEvent, stands]

theorem positionEvent_passes {target : BinNo} {grant : Option Grant} {deadline : Nat}
    (moves : s.store.carousel = .moving target grant deadline) (apart : b ≠ target) :
    s.positionEvent b = s.setPosition (some b) := by
  simp only [positionEvent, moves, if_neg apart]

theorem positionEvent_arrives {grant : Option Grant} {deadline : Nat}
    (moves : s.store.carousel = .moving b grant deadline) :
    s.positionEvent b = (s.setPosition (some b)).endMove b grant := by
  simp only [positionEvent, moves, if_true]

theorem positionEvent_delivers {g : Grant} {release : BitVec 8} {deadline : Nat}
    (delivers : s.store.carousel = .delivering g b release deadline) : s.positionEvent b = s := by
  simp only [positionEvent, delivers, if_true]

theorem positionEvent_loses {g : Grant} {bin : BinNo} {release : BitVec 8} {deadline : Nat}
    (delivers : s.store.carousel = .delivering g bin release deadline) (apart : b ≠ bin) :
    s.positionEvent b = (s.setPosition none).failDelivery g release .unhomed := by
  simp only [positionEvent, delivers, if_neg apart]

/-! ## The command -/

theorem exec_atPosition_same (settled : s.Settled) (same : s.positionEvent b = s) :
    exec (.atPosition b) s = .next s := exec_event_same (s.exec_atPosition b) settled same

theorem exec_atPosition_records (settled : s.Settled) (records : s.positionEvent b = s.setPosition (some b)) :
    exec (.atPosition b) s = .next (s.setPosition (some b)) :=
  exec_event_quiet_office (s.exec_atPosition b) settled records rfl

/-- A carousel that stands takes its own index, where `expected`, for no event, and any other for a turn (R123). -/
theorem exec_atPosition_stands (settled : s.Settled) {expected : Prop} [Decidable expected]
    (stands : s.positionEvent b = if expected then s else s.turned) :
    exec (.atPosition b) s = .next (if expected then s else s.turned.pump) := by
  split
  · next own => exact exec_atPosition_same settled (stands.trans (if_pos own))
  · next other => exact exec_event_pumped (s.exec_atPosition b) settled.1 (stands.trans (if_neg other))

/-- The position tells nothing in journal and bins. -/
theorem setPosition_alike (s : State) (p : Option BinNo) : Alike s (s.setPosition p) := (Alike.refl s).same rfl rfl

end State

open State in
/-- Settles O39: the index by the carousel's state; in DELIVERING another index is a delivery lost as by the deadline,
at a position that is no longer known. -/
theorem positionReports : Obligations.PositionReports := by
  unfold Obligations.PositionReports
  refine fun s b settled => ⟨fun _ _ _ => releasePlace_found, ?_⟩
  cases c : s.store.carousel with
  | unhomed => exact exec_atPosition_same settled (positionEvent_unhomed c)
  | homing => exact exec_atPosition_records settled (positionEvent_records (.inl (by rw [c]; rfl)))
  | haltedHoming | haltedMove => exact exec_atPosition_records settled (positionEvent_records (.inr (by rw [c]; rfl)))
  | idle => exact exec_atPosition_stands settled (positionEvent_idle c)
  | fault => exact exec_atPosition_stands settled (positionEvent_fault c)
  | moving target grant deadline =>
    by_cases apart : b = target
    · subst apart
      have ends : exec (.atPosition b) s = .next ((s.setPosition (some b)).endMove b grant) :=
        exec_event_quiet_office (s.exec_atPosition b) settled (positionEvent_arrives c) (endMove_office _ _ _)
      simp only [ends, ne_eq, not_true_eq_false, if_false]
      cases grant with
      | none | some => rfl
    · simp only [ne_eq, apart, not_false_eq_true, if_true]
      exact exec_atPosition_records settled (positionEvent_passes c apart)
  | delivering g bin release deadline =>
    refine ⟨fun here => exec_atPosition_same settled (positionEvent_delivers (here ▸ c)), fun apart => ?_⟩
    have lost := exec_event_pumped (s.exec_atPosition b) settled.1 (positionEvent_loses c apart)
    obtain ⟨stranded, faulted⟩ := (s.setPosition none).failDelivery_latched g release .unhomed
    have alike := s.setPosition_alike none
    refine ⟨_, lost, ?_⟩
    simp only [queue, pump_latched, pump_journal, pump_store, pump_cover, pump_tables, pump_port,
      failDelivery_queues, failDelivery_carousel, failDelivery_position, failDelivery_committed, failDelivery_tables]
    exact ⟨fun e present own => failDelivery_mem _ g release .unhomed present own, PerHatch.get_set_self ..,
      fun h other => PerHatch.get_set_ne _ other.symm _, trivial, rfl, stranded, faulted, rfl, rfl,
      failDelivery_faulted (s := s.setPosition none), failDelivery_faultFlag (s := s.setPosition none),
      fun still => (failDelivery_bins (s := s.setPosition none) still).trans (alike.releasePlace _).bins,
      fun x d n aim dl tips blamed => (failDelivery_bins_tipping (s := s.setPosition none) tips blamed).trans
        ((alike.releasePlace _).releasePlace n).bins⟩

end Sys2Proof.Machine
end

section
/-! PROOFS. The inner door (R124, R128). -/

namespace Sys2Proof.Machine

open Sys2Proof

variable {s : State}

/-- What a carousel becomes as the inner door opens: a homing and a move halt. -/
def Carousel.halted : Carousel → Carousel
  | .homing _ => .haltedHoming
  | .moving b g _ => .haltedMove b g
  | other => other

namespace State

theorem exec_doorOpens (run : s.running = true) : exec .doorOpens s = .next (s.event doorOpensEvent) := if_pos run

theorem exec_doorCloses (run : s.running = true) : exec .doorCloses s = .next (s.event doorClosesEvent) := if_pos run

/-! ## The door opens -/

theorem haltCarousel_eq (s : State) : s.haltCarousel = s.setCarousel s.store.carousel.halted := by
  unfold haltCarousel
  split
  · next homes => rw [homes]; rfl
  · next moves => rw [moves]; rfl
  · next still moves =>
    have stays : s.store.carousel.halted = s.store.carousel := by
      cases c : s.store.carousel with
      | homing => exact absurd c (still _)
      | moving => exact absurd c (moves _ _ _)
      | _ => rfl
    rw [stays]
    rfl

theorem doorOpensEvent_opens (closed : s.store.doorOpen = false) :
    s.doorOpensEvent = ((s.setDoor true).setCarousel s.store.carousel.halted).doorAlarm := by
  simp only [doorOpensEvent, closed, haltCarousel_eq]
  rfl

theorem doorOpensEvent_same (opened : s.store.doorOpen = true) : s.doorOpensEvent = s := if_pos opened

/-! ## The door closes -/

theorem doorClosesEvent_closes (opened : s.store.doorOpen = true) :
    s.doorClosesEvent = (s.setDoor false).resumeCarousel := if_pos opened

theorem doorClosesEvent_same (closed : s.store.doorOpen = false) : s.doorClosesEvent = s := by
  simp [doorClosesEvent, closed]

@[simp] theorem resumeCarousel_office (s : State) : s.resumeCarousel.office = s.office := by
  unfold resumeCarousel
  split
  · rfl
  · split
    · exact endMove_office ..
    · rfl
  · exact arbiter_office s
  · rfl

theorem resumeCarousel_haltedHoming (halted : s.store.carousel = .haltedHoming) :
    s.resumeCarousel = s.setCarousel (.homing (s.now + 40000)) := by
  simp only [resumeCarousel, halted]
  rfl

theorem resumeCarousel_haltedMove {b : BinNo} {grant : Option Grant} (halted : s.store.carousel = .haltedMove b grant) :
    s.resumeCarousel
      = if s.store.position = some b then s.endMove b grant
        else s.setCarousel (.moving b grant (s.now + 25000)) := by
  simp only [resumeCarousel, halted]
  rfl

theorem resumeCarousel_idle (idle : s.store.carousel = .idle) : s.resumeCarousel = s.arbiter := by
  simp only [resumeCarousel, idle]

theorem resumeCarousel_other (halted : s.store.carousel.code ≠ 4) (idle : s.store.carousel.code ≠ 2) :
    s.resumeCarousel = s := by
  unfold resumeCarousel
  split
  · next homing => exact absurd (congrArg Carousel.code homing) halted
  · next move => exact absurd (congrArg Carousel.code move) halted
  · next stands => exact absurd (congrArg Carousel.code stands) idle
  · rfl

theorem exec_doorCloses_resumes {t : State} (settled : s.Settled) (opened : s.store.doorOpen = true)
    (resumes : (s.setDoor false).resumeCarousel = t) : exec .doorCloses s = .next t :=
  exec_event_quiet_office (exec_doorCloses settled.1) settled ((doorClosesEvent_closes opened).trans resumes)
    (resumes ▸ resumeCarousel_office _)

end State

open State in
/-- Settles O41: the opening by the alarm's condition, the closing by the carousel's state. -/
theorem innerDoor : Obligations.InnerDoor := by
  unfold Obligations.InnerDoor
  refine ⟨fun s settled closed => ?opens, fun s settled opened => ?closes,
    fun s settled opened => exec_event_same (exec_doorOpens settled.1) settled (doorOpensEvent_same opened),
    fun s settled closed => exec_event_same (exec_doorCloses settled.1) settled (doorClosesEvent_same closed)⟩
  case opens =>
    have opens := doorOpensEvent_opens closed
    by_cases intake : s.intake.state = .running ∨ s.intake.state = .suspended ∨ s.intake.state = .stopping
    · simp only [if_pos intake]
      exact exec_event_pumped (exec_doorOpens settled.1) settled.1 (opens.trans (if_pos intake))
    · simp only [if_neg intake]
      exact exec_event_quiet_office (exec_doorOpens settled.1) settled (opens.trans (if_neg intake)) rfl
  case closes =>
    have resumes {t : State} := exec_doorCloses_resumes (t := t) settled opened
    cases c : s.store.carousel with
    | haltedHoming => exact resumes (resumeCarousel_haltedHoming c)
    | haltedMove => exact resumes (resumeCarousel_haltedMove c)
    | idle => exact resumes (resumeCarousel_idle c)
    | unhomed | homing | moving | delivering | fault =>
      have stays : s.store.carousel.code ≠ 4 ∧ s.store.carousel.code ≠ 2 := by simp [c, Carousel.code]
      exact resumes (resumeCarousel_other stays.1 stays.2)

end Sys2Proof.Machine
end

section
/-! PROOFS. BIN_WITHDRAW and BIN_RESTORE (R111, R133, R134). -/

namespace Sys2Proof.Machine

open Sys2Proof

variable {s : State} {b : BinNo}

namespace State

theorem withdrawRefused_iff (s : State) (b : BinNo) :
    s.withdrawRefused b = true
      ↔ (s.bin b).state = .unknown ∨ 0 < (s.bin b).pending
        ∨ (s.bin b).state = .opened
          ∧ s.freePlaces
              < s.store.holds + ((if b = 0 then 24 else 12) - (s.bin b).arrived.length - (s.bin b).pending) := by
  have room (opened : (s.bin b).state = .opened) :
      (s.bin b).room b = (if b = 0 then 24 else 12) - (s.bin b).arrived.length - (s.bin b).pending := by
    rw [Bin.room, if_pos opened, Config.binCapacity_eq]
  simp only [withdrawRefused, Bool.or_eq_true, Bool.and_eq_true, decide_eq_true_iff, or_assoc]
  exact or_congr_right (or_congr_right (and_congr_right fun opened => by rw [room opened]))

theorem binWithdraw_range (s : State) {n : Nat} (beyond : 30 ≤ n) : s.binWithdraw n = s.answer 0x51 .range [] := by
  simp [binWithdraw, binOf?_none beyond]

theorem binRestore_range (s : State) {n : Nat} (beyond : 30 ≤ n) : s.binRestore n = s.answer 0x52 .range [] := by
  simp [binRestore, binOf?_none beyond]

theorem binWithdraw_val (s : State) (b : BinNo) :
    s.binWithdraw b.val
      = if s.withdrawRefused b then s.answer 0x51 .state []
        else (if (s.bin b).state = .withdrawn then s else s.changeBinState b .withdrawn).answer 0x51 .ok [] := by
  simp [binWithdraw]

theorem binRestore_val (s : State) (b : BinNo) :
    s.binRestore b.val
      = if (s.bin b).state = .withdrawn then
          (s.changeBinState b (s.restoredState b)).answer 0x52 .ok (bytesOf 1 (s.restoredState b).code)
        else s.answer 0x52 .state [] := by
  simp [binRestore, Out.u8]

theorem restoredState_eq (s : State) (b : BinNo) :
    s.restoredState b = if (s.bin b).arrived.length = (if b = 0 then 24 else 12) then .full else .opened := by
  rw [restoredState, Config.binCapacity_eq]

/-! ## The commands -/

theorem exec_binWithdraw (ready : s.Ready) (b : BinNo) :
    exec (.binWithdraw (.fits b.val)) s = .next
      (if s.withdrawRefused b then s.answered 0x51 .state []
        else if (s.bin b).state = .withdrawn then s.answered 0x51 .ok []
        else (s.changeBinState b .withdrawn).answered 0x51 .ok []) := by
  have answers := s.binWithdraw_val b
  split
  · next refused => exact exec_request_same rfl ready (answers.trans (if_pos refused))
  · next accepted =>
    rw [if_neg accepted] at answers
    split
    · next already => exact exec_request_same rfl ready (by rw [answers, if_pos already])
    · next other =>
      exact exec_request_answered rfl ready (by rw [answers, if_neg other]) (changeBinState_kept s b .withdrawn)

theorem exec_binRestore (ready : s.Ready) (b : BinNo) :
    exec (.binRestore (.fits b.val)) s = .next
      (if (s.bin b).state = .withdrawn then
        (s.changeBinState b (s.restoredState b)).answered 0x52 .ok (bytesOf 1 (s.restoredState b).code)
      else s.answered 0x52 .state []) := by
  have answers := s.binRestore_val b
  split
  · next withdrawn =>
    exact exec_request_answered rfl ready (answers.trans (if_pos withdrawn)) (changeBinState_kept s b _)
  · next other => exact exec_request_same rfl ready (answers.trans (if_neg other))

end State

open State in
/-- Settles O35: the withdrawal by `withdrawRefused`, the return by `restoredState`. -/
theorem binWithdrawAndRestore : Obligations.BinWithdrawAndRestore := by
  unfold Obligations.BinWithdrawAndRestore
  refine fun s ready => ⟨fun n beyond => ⟨exec_request_same rfl ready (s.binWithdraw_range beyond),
    exec_request_same rfl ready (s.binRestore_range beyond)⟩, fun b => ⟨?withdraw, ?restore⟩⟩
  case withdraw =>
    simp only [exec_binWithdraw ready, withdrawRefused_iff]
    rfl
  case restore =>
    simp only [exec_binRestore ready, restoredState_eq]
    by_cases full : (s.bin b).arrived.length = if b = 0 then 24 else 12
    · simp only [if_pos full]
      rfl
    · simp only [if_neg full]
      rfl

end Sys2Proof.Machine
end
section
/-! PROOFS. CAROUSEL_HOME, HOME, and the deadlines of a homing and a move (R122, R123, R135). -/

namespace Sys2Proof.Machine

open Sys2Proof

variable {s : State}

namespace State

theorem exec_home (s : State) : exec .home s = .next (s.event homeEvent) := rfl

theorem exec_homingTimeout (s : State) : exec .homingTimeout s = .next (s.event homingExpiry) := rfl

theorem exec_moveTimeout (s : State) : exec .moveTimeout s = .next (s.event moveExpiry) := rfl

/-! ## CAROUSEL_HOME -/

theorem exec_carouselHome_starts (ready : s.Ready) (stands : s.carouselHome () = s.startHoming.answer 0x54 .ok []) :
    exec (.carouselHome (.fits ())) s = .next (s.startHoming.answered 0x54 .ok []) :=
  exec_request_answered rfl ready stands s.startHoming_kept

theorem exec_carouselHome_refused (ready : s.Ready) (turns : s.carouselHome () = s.answer 0x54 .state []) :
    exec (.carouselHome (.fits ())) s = .next (s.answered 0x54 .state []) :=
  exec_request_same rfl ready turns

/-! ## HOME -/

theorem homeEvent_homing {deadline : Nat} (homes : s.store.carousel = .homing deadline) :
    s.homeEvent = (s.setPosition (some 0)).enterIdle := by
  simp only [homeEvent, homes]

theorem homeEvent_halted (halted : s.store.carousel.code = 4) : s.homeEvent = s.setPosition (some 0) := by
  unfold homeEvent
  cases c : s.store.carousel <;> simp [c, Carousel.code] at halted <;> rfl

theorem homeEvent_other (homes : s.store.carousel.code ≠ 1) (halted : s.store.carousel.code ≠ 4) :
    s.homeEvent = s := by
  unfold homeEvent
  cases c : s.store.carousel <;> simp [c, Carousel.code] at homes halted <;> rfl

/-! ## The deadlines -/

theorem homingExpiry_homing {deadline : Nat} (homes : s.store.carousel = .homing deadline) :
    s.homingExpiry = (s.reach deadline).stopCarousel := by
  simp only [homingExpiry, homes]

theorem homingExpiry_other (other : s.store.carousel.code ≠ 1) : s.homingExpiry = s := by
  unfold homingExpiry
  split
  · next homes => exact absurd (congrArg Carousel.code homes) other
  · rfl

theorem moveExpiry_moving {b : BinNo} {grant : Option Grant} {deadline : Nat}
    (moves : s.store.carousel = .moving b grant deadline) : s.moveExpiry = (s.reach deadline).stopCarousel := by
  simp only [moveExpiry, moves]

theorem moveExpiry_other (other : s.store.carousel.code ≠ 3) : s.moveExpiry = s := by
  unfold moveExpiry
  split
  · next moves => exact absurd (congrArg Carousel.code moves) other
  · rfl

end State

open State in
/-- Settles O38: the request, HOME and the two deadlines, each by the carousel's state. -/
theorem homingAndItsEnd : Obligations.HomingAndItsEnd := by
  unfold Obligations.HomingAndItsEnd
  refine ⟨fun s ready => ?request, fun s settled => ?home, fun s settled => ⟨?homingTimeout, ?moveTimeout⟩⟩
  case request =>
    cases c : s.store.carousel with
    | unhomed | idle | fault => exact exec_carouselHome_starts ready (by simp only [carouselHome, c])
    | homing => exact exec_request_same rfl ready (by simp only [carouselHome, c])
    | moving | haltedHoming | haltedMove | delivering =>
      exact exec_carouselHome_refused ready (by simp only [carouselHome, c])
  case home =>
    cases c : s.store.carousel with
    | homing =>
      exact exec_event_quiet_office s.exec_home settled (homeEvent_homing c) (enterIdle_office (s.setPosition (some 0)))
    | haltedHoming | haltedMove =>
      exact exec_event_quiet_office s.exec_home settled (homeEvent_halted (by rw [c]; rfl)) rfl
    | unhomed | idle | moving | delivering | fault =>
      have stays : s.store.carousel.code ≠ 1 ∧ s.store.carousel.code ≠ 4 := by simp [c, Carousel.code]
      exact exec_event_same s.exec_home settled (homeEvent_other stays.1 stays.2)
  case homingTimeout =>
    cases c : s.store.carousel with
    | homing => exact exec_event_pumped s.exec_homingTimeout settled.1 (homingExpiry_homing c)
    | _ => exact exec_event_same s.exec_homingTimeout settled (homingExpiry_other (by simp [c, Carousel.code]))
  case moveTimeout =>
    cases c : s.store.carousel with
    | moving => exact exec_event_pumped s.exec_moveTimeout settled.1 (moveExpiry_moving c)
    | _ => exact exec_event_same s.exec_moveTimeout settled (moveExpiry_other (by simp [c, Carousel.code]))

end Sys2Proof.Machine
end

section
/-! PROOFS. SET_CLOCK and CLOCK_ADVANCE (R137, R138). -/

namespace Sys2Proof.Machine

open Sys2Proof

namespace State

/-! ## SET_CLOCK -/

/-- The state with the clock SET at `t` and its next second one second ahead. -/
def setTime (s : State) (t : ClockTime) : State :=
  s.setIntake { s.intake with clock := some t, nextSecond := s.now + Config.second }

theorem setTime_kept (s : State) (t : ClockTime) : Kept s (s.setTime t) := setIntake_kept ..

theorem setClock_ok (s : State) {a : ClockArgs} (fits : a.weekday < 7 ∧ a.seconds < 86400) :
    s.setClock a = (s.setTime ⟨⟨a.weekday, fits.1⟩, ⟨a.seconds, fits.2⟩⟩).evalTime.answer 0x10 .ok [] := by
  have inRange : clockOf? a = some ⟨⟨a.weekday, fits.1⟩, ⟨a.seconds, fits.2⟩⟩ := dif_pos fits
  simp only [setClock, inRange, setTime]

theorem setClock_range (s : State) {a : ClockArgs} (bad : ¬(a.weekday < 7 ∧ a.seconds < 86400)) :
    s.setClock a = s.answer 0x10 .range [] := by
  have outOfRange : clockOf? a = none := dif_neg bad
  simp only [setClock, outOfRange]

/-! ## CLOCK_ADVANCE -/

theorem exec_clockAdvance_unset {s : State} (unset : s.intake.clock = none) : exec .clockAdvance s = .next s := by
  change execClockAdvance s = .next s
  simp only [execClockAdvance, unset]

/-- The battery clock's advance is an event where the controller runs (R137, R187). -/
theorem exec_clockAdvance_running {s : State} (run : s.running = true) {t : ClockTime}
    (set : s.intake.clock = some t) :
    exec .clockAdvance s = .next (s.event fun s => (s.advanceClock t).evalTime) := by
  change execClockAdvance s = _
  simp only [execClockAdvance, set, if_pos run]

end State

open State in
/-- Settles O20: each case of the operand is one answer, and an advance is one event; the seconds of the week go on by
one whether or not the day ends (`nextTime_seconds`). -/
theorem clockRequestsAndAdvances : Obligations.ClockRequestsAndAdvances := by
  unfold Obligations.ClockRequestsAndAdvances
  refine ⟨fun s a ready => ?request, fun s t run set => ?advance, fun _ => exec_clockAdvance_unset, nextTime_seconds⟩
  case request =>
    split
    · next fits =>
      exact exec_request_answered rfl ready (setClock_ok s fits) ((setTime_kept ..).trans (evalTime_kept _))
    · next bad => exact exec_request_same rfl ready (setClock_range s bad)
  case advance => exact exec_event_pumped (exec_clockAdvance_running run set) run rfl

end Sys2Proof.Machine
end

section
/-! PROOFS. The instants a schedule window contains (R140). -/

namespace Sys2Proof.Machine

open Sys2Proof

/-- The weekday before: six days on, round the week. -/
theorem day_pred_val (d : Fin 7) : (d - 1).val = (d.val + 6) % 7 := by
  rw [Fin.val_sub, Nat.add_comm]
  rfl

namespace Window

variable {w : Window}

theorem contains_within_day (ordered : w.start < w.stop) (t : ClockTime) :
    w.contains t = true
      ↔ w.mask.getLsbD t.day.val = true ∧ w.start * 60 ≤ t.sec.val ∧ t.sec.val < w.stop * 60 := by
  simp only [contains, if_pos ordered, Bool.and_eq_true, decide_eq_true_eq]

theorem contains_past_midnight (crosses : w.stop ≤ w.start) (t : ClockTime) :
    w.contains t = true
      ↔ w.mask.getLsbD t.day.val = true ∧ w.start * 60 ≤ t.sec.val
        ∨ w.mask.getLsbD (t.day - 1).val = true ∧ t.sec.val < w.stop * 60 := by
  simp only [contains, if_neg (Nat.not_lt.2 crosses), Bool.or_eq_true, Bool.and_eq_true, decide_eq_true_eq,
    day_pred_val]

theorem contains_of_mask_empty (empty : w.mask = 0) (t : ClockTime) : w.contains t = false := by
  have noDay (d : Nat) : w.mask.getLsbD d = false := by rw [empty]; exact BitVec.getLsbD_zero
  simp only [contains, noDay, Bool.false_and, Bool.or_false, ite_self]

end Window

namespace State

variable {s : State}

theorem inWindow_set {t : ClockTime} (set : s.intake.clock = some t) (w : Fin 8) :
    s.inWindow w = (s.tables.windows.get w).contains t := by
  simp only [inWindow, set]

theorem inWindow_unset (unset : s.intake.clock = none) (w : Fin 8) : s.inWindow w = false := by
  simp only [inWindow, unset]

end State

/-- Settles O22: the two rows of R140's table, the empty mask in both of them, and the clock SET or UNSET. -/
theorem windowContainsAnInstant : Obligations.WindowContainsAnInstant := by
  unfold Obligations.WindowContainsAnInstant
  exact ⟨fun _ t ordered => Window.contains_within_day ordered t,
    fun _ t crosses => Window.contains_past_midnight crosses t,
    fun _ t empty => Window.contains_of_mask_empty empty t,
    fun _ w _ set => State.inWindow_set set w,
    fun _ w unset => State.inWindow_unset unset w⟩

end Sys2Proof.Machine
end

section
/-! PROOFS. INTAKE_START and INTAKE_STOP (R143, R144). -/

namespace Sys2Proof.Machine

open Sys2Proof

namespace State

variable {s : State}

/-- The intake enable takes a value and the intake state is evaluated (R141). -/
def enableIntake (s : State) (on : Bool) : State := (s.setIntake { s.intake with enable := on }).evalIntake

theorem enableIntake_kept (s : State) (on : Bool) : Kept s (s.enableIntake on) :=
  (setIntake_kept ..).trans (evalIntake_kept _)

theorem intakeStart_set (set : s.intake.enable = true) : s.intakeStart () = s.answerIntake 0x13 := by
  simp only [intakeStart, if_pos set]

theorem intakeStart_clear (clear : s.intake.enable = false) :
    s.intakeStart () = (s.enableIntake true).answerIntake 0x13 := by
  simp only [intakeStart, clear, Bool.false_eq_true, if_false, enableIntake]

theorem intakeStop_clear (clear : s.intake.enable = false) : s.intakeStop () = s.answerIntake 0x14 := by
  simp only [intakeStop, clear, Bool.false_eq_true, if_false]

theorem intakeStop_set (set : s.intake.enable = true) :
    s.intakeStop () = (s.enableIntake false).answerIntake 0x14 := by
  simp only [intakeStop, if_pos set, enableIntake]

end State

open State in
/-- Settles O24: each request by the enable as it stands, the reply on the state it leaves. -/
theorem intakeStartAndStop : Obligations.IntakeStartAndStop := by
  unfold Obligations.IntakeStartAndStop
  exact fun s ready =>
    ⟨fun set => exec_request_same rfl ready (intakeStart_set set),
      fun clear => exec_request_answered rfl ready (intakeStart_clear clear) (enableIntake_kept s true),
      fun clear => exec_request_same rfl ready (intakeStop_clear clear),
      fun set => exec_request_answered rfl ready (intakeStop_set set) (enableIntake_kept s false)⟩

end Sys2Proof.Machine
end

section
/-! SUPPORT. Numbers as bytes, most significant byte first (12.2): what is written reads back. -/

namespace Sys2Proof

/-- Bytes read after `a` stand below it. -/
theorem natOf_foldl (bs : List Byte) (a : Nat) :
    bs.foldl (fun a b => a * 256 + b.toNat) a = a * 256 ^ bs.length + natOf bs := by
  induction bs generalizing a with
  | nil => simp [natOf]
  | cons b bs ih =>
    rw [natOf, List.foldl_cons, List.foldl_cons, ih, ih (0 * 256 + b.toNat), List.length_cons, Nat.pow_succ]
    ring

theorem natOf_cons (b : Byte) (bs : List Byte) : natOf (b :: bs) = b.toNat * 256 ^ bs.length + natOf bs := by
  rw [natOf, List.foldl_cons, natOf_foldl, Nat.zero_mul, Nat.zero_add]

@[simp] theorem bytesOf_length (n v : Nat) : (bytesOf n v).length = n := by
  induction n with
  | zero => rfl
  | succ n ih => rw [bytesOf, List.length_cons, ih]

/-- The bytes of a number spell what of it fits them. -/
theorem natOf_bytesOf_mod (n v : Nat) : natOf (bytesOf n v) = v % 256 ^ n := by
  induction n with
  | zero => rw [Nat.pow_zero, Nat.mod_one]; rfl
  | succ n ih =>
    rw [bytesOf, natOf_cons, ih, bytesOf_length, BitVec.toNat_ofNat, Nat.pow_succ 256, Nat.mod_mul]
    ring

theorem natOf_bytesOf {n v : Nat} (fits : v < 256 ^ n) : natOf (bytesOf n v) = v :=
  (natOf_bytesOf_mod n v).trans (Nat.mod_eq_of_lt fits)

theorem fitsIn_iff (n v : Nat) : fitsIn n v = true ↔ v < 256 ^ n := by simp [fitsIn]

/-- A number of one byte. -/
theorem toNat_ofNat_byte {v : Nat} (fits : v < 256) : (BitVec.ofNat 8 v).toNat = v := by
  rw [BitVec.toNat_ofNat]
  exact Nat.mod_eq_of_lt fits

/-- A raw count written in 24 bits reads back with its sign. -/
theorem signed24_unsigned24 {z : Int} (low : -8388608 ≤ z) (high : z ≤ 8388607) : signed24 (unsigned24 z) = z := by
  have same : BitVec.ofNat 24 (BitVec.ofInt 24 z).toNat = BitVec.ofInt 24 z :=
    (BitVec.ofNat_toNat 24 _).trans (BitVec.setWidth_eq _)
  rw [signed24, unsigned24, same, BitVec.toInt_ofInt]
  exact Int.bmod_eq_of_le (by omega) (by omega)

theorem unsigned24_lt (z : Int) : unsigned24 z < 256 ^ 3 := (BitVec.ofInt 24 z).isLt

end Sys2Proof
end

section
/-! PROOFS. The bodies that heads send read back (R149, R197). -/

namespace Sys2Proof.Machine

open Sys2Proof

/-! ## Bytes of flags (Table 12-7) -/

/-- The first byte of a REPORT shows the flap and four marks. -/
theorem reportMarks_read (f : Flap) (bag stable token declaration : Bool) :
    let b := BitVec.ofNat 8
      (flapCode f * 64 + bitValue bag 32 + bitValue stable 16 + bitValue token 8 + bitValue declaration 4)
    flapOf? (b.toNat / 64) = some f ∧ b.getLsbD 5 = bag ∧ b.getLsbD 4 = stable ∧ b.getLsbD 3 = token
      ∧ b.getLsbD 2 = declaration := by
  revert bag stable token declaration
  cases f <;> decide

theorem reportAlarms_read : ∀ tamper blocked printer : Bool,
    let b := BitVec.ofNat 8 (bitValue tamper 1 + bitValue blocked 2 + bitValue printer 4)
    b.getLsbD 0 = tamper ∧ b.getLsbD 1 = blocked ∧ b.getLsbD 2 = printer := by
  decide

theorem caps_read : ∀ weigh scan print flap : Bool,
    let b := BitVec.ofNat 8 (bitValue weigh 1 + bitValue scan 2 + bitValue print 4 + bitValue flap 8)
    b.getLsbD 0 = weigh ∧ b.getLsbD 1 = scan ∧ b.getLsbD 2 = print ∧ b.getLsbD 3 = flap := by
  decide

/-! ## Fields and the bytes that spell them -/

theorem Out.u8_eq (v : Nat) : Out.u8 v = [BitVec.ofNat 8 v] := by simp [Out.u8, bytesOf]

theorem Out.u16_bytes {v : Nat} (fits : fitsIn 2 v = true) : ∃ a b, Out.u16 v = [a, b] ∧ natOf [a, b] = v :=
  ⟨_, _, rfl, natOf_bytesOf ((fitsIn_iff _ _).1 fits)⟩

theorem Out.u24_bytes {v : Nat} (fits : fitsIn 3 v = true) : ∃ a b c, Out.u24 v = [a, b, c] ∧ natOf [a, b, c] = v :=
  ⟨_, _, _, rfl, natOf_bytesOf ((fitsIn_iff _ _).1 fits)⟩

theorem Out.u32_bytes {v : Nat} (fits : fitsIn 4 v = true) :
    ∃ a b c d, Out.u32 v = [a, b, c, d] ∧ natOf [a, b, c, d] = v :=
  ⟨_, _, _, _, rfl, natOf_bytesOf ((fitsIn_iff _ _).1 fits)⟩

theorem Out.u40_bytes {v : Nat} (fits : fitsIn 5 v = true) :
    ∃ a b c d e, Out.u40 v = [a, b, c, d, e] ∧ natOf [a, b, c, d, e] = v :=
  ⟨_, _, _, _, _, rfl, natOf_bytesOf ((fitsIn_iff _ _).1 fits)⟩

/-! ## Declarations -/

/-- The fields of a declaration that a body can carry. -/
theorem wellFormed_declaration {d : Declaration} (wf : d.wellFormed = true) :
    fitsIn 5 d.serial = true ∧ fitsIn 1 d.bagClass = true ∧ fitsIn 4 d.total = true ∧ d.lines.length ≤ 13
      ∧ ∀ l ∈ d.lines, fitsIn 1 l.denom = true ∧ fitsIn 2 l.count = true := by
  simpa [Declaration.wellFormed, and_assoc] using wf

/-- Lines that fit their fields read back, and the bytes after them stay. -/
theorem readLines_flatMap (ls : List Line) (rest : List Byte)
    (fits : ∀ l ∈ ls, fitsIn 1 l.denom = true ∧ fitsIn 2 l.count = true) :
    readLines ls.length (ls.flatMap Out.line ++ rest) = some (ls, rest) := by
  induction ls with
  | nil => rfl
  | cons l ls ih =>
    obtain ⟨denom, count⟩ := fits l List.mem_cons_self
    have tail := ih fun k mem => fits k (List.mem_cons_of_mem _ mem)
    have first : (BitVec.ofNat 8 l.denom).toNat = l.denom := toNat_ofNat_byte ((fitsIn_iff 1 _).1 denom)
    obtain ⟨a, b, bytes, second⟩ := Out.u16_bytes count
    rw [List.length_cons, List.flatMap_cons, Out.line, Out.u8_eq, bytes]
    simp only [List.cons_append, List.nil_append, readLines, tail, first, second]

/-- A declaration at the end of a REPORT body (R197). -/
def declarationBytes (d : Declaration) : List Byte :=
  Out.u40 d.serial ++ (Out.u8 d.bagClass ++ (Out.u8 d.lines.length ++ (d.lines.flatMap Out.line ++ Out.u32 d.total)))

theorem readDeclaration_bytes {d : Declaration} (wf : d.wellFormed = true) :
    readDeclaration (declarationBytes d) = some d := by
  obtain ⟨serial, bagClass, total, few, lines⟩ := wellFormed_declaration wf
  obtain ⟨a, b, c, e, f, serialBytes, serialRead⟩ := Out.u40_bytes serial
  obtain ⟨g, i, j, k, totalBytes, totalRead⟩ := Out.u32_bytes total
  have classRead : (BitVec.ofNat 8 d.bagClass).toNat = d.bagClass := toNat_ofNat_byte ((fitsIn_iff 1 _).1 bagClass)
  have countRead : (BitVec.ofNat 8 d.lines.length).toNat = d.lines.length := toNat_ofNat_byte (by omega)
  have linesRead := readLines_flatMap d.lines [g, i, j, k] lines
  simp only [declarationBytes, serialBytes, totalBytes, Out.u8_eq, List.cons_append, List.nil_append, readDeclaration,
    countRead, linesRead, serialRead, classRead, totalRead]

theorem flatMap_line_length (ls : List Line) : (ls.flatMap Out.line).length = 3 * ls.length := by
  induction ls with
  | nil => rfl
  | cons l ls ih =>
    have one : (Out.line l).length = 3 := rfl
    rw [List.flatMap_cons, List.length_append, ih, one, List.length_cons]
    omega

theorem declarationBytes_length (d : Declaration) : (declarationBytes d).length = 11 + 3 * d.lines.length := by
  simp only [declarationBytes, List.length_append, flatMap_line_length, Out.u8, Out.u32, Out.u40, bytesOf_length]
  omega

/-! ## REPORT -/

/-- The latched token and declaration at the end of a REPORT body. -/
def latchedBytes (token : Option Nat) (declaration : Option Declaration) : List Byte :=
  token.elim [] Out.u32 ++ declaration.elim [] declarationBytes

theorem readLatched_bytes {token : Option Nat} {declaration : Option Declaration}
    (tokenFits : ∀ t, token = some t → fitsIn 4 t = true)
    (declarationFits : ∀ d, declaration = some d → d.wellFormed = true) :
    readLatched token.isSome declaration.isSome (latchedBytes token declaration) = some (token, declaration) := by
  cases token with
  | none =>
    cases declaration with
    | none => rfl
    | some d =>
      have read := readDeclaration_bytes (declarationFits d rfl)
      simp [latchedBytes, readLatched, read]
  | some t =>
    obtain ⟨a, b, c, e, bytes, tokenRead⟩ := Out.u32_bytes (tokenFits t rfl)
    cases declaration with
    | none => simp [latchedBytes, bytes, readLatched, tokenRead]
    | some d =>
      have read := readDeclaration_bytes (declarationFits d rfl)
      simp [latchedBytes, bytes, readLatched, read, tokenRead]

/-- A REPORT body: eight bytes, and what the head has latched. -/
theorem report_eq (r : HeadReport) :
    Out.report r
      = Out.u8 (flapCode r.flap * 64 + bitValue r.bag 32 + bitValue r.stable 16 + bitValue r.token.isSome 8
          + bitValue r.declaration.isSome 4)
        ++ (Out.u24 (unsigned24 r.raw) ++ (Out.u8 r.arrival.toNat ++ (Out.u8 r.release.toNat ++ (Out.u8 r.trayCount
        ++ (Out.u8 (bitValue r.tamper 1 + bitValue r.chuteBlocked 2 + bitValue r.printerFault 4)
        ++ latchedBytes r.token r.declaration))))) := by
  obtain ⟨_, _, _, _, _, _, _, _, _, _, token, declaration⟩ := r
  cases token <;> cases declaration <;> rfl

/-- The fields of a report that a valid frame can carry. -/
theorem wellFormed_report {r : HeadReport} (wf : r.wellFormed = true) :
    (-8388608 ≤ r.raw ∧ r.raw ≤ 8388607) ∧ r.trayCount ≤ 3 ∧ (∀ t, r.token = some t → fitsIn 4 t = true)
      ∧ (∀ d, r.declaration = some d → d.wellFormed = true) ∧ r.bodyLength ≤ 60 := by
  obtain ⟨_, _, _, _, _, _, _, _, _, _, token, declaration⟩ := r
  cases token <;> cases declaration <;> simpa [HeadReport.wellFormed, and_assoc] using wf

theorem readReport_report {r : HeadReport} (wf : r.wellFormed = true) : readReport (Out.report r) = some r := by
  obtain ⟨⟨low, high⟩, tray, tokenFits, declarationFits, -⟩ := wellFormed_report wf
  obtain ⟨flap, bag, stable, token, declaration⟩ :=
    reportMarks_read r.flap r.bag r.stable r.token.isSome r.declaration.isSome
  obtain ⟨tamper, blocked, printer⟩ := reportAlarms_read r.tamper r.chuteBlocked r.printerFault
  obtain ⟨a, b, c, rawBytes, rawRead⟩ := Out.u24_bytes ((fitsIn_iff 3 _).2 (unsigned24_lt r.raw))
  have trayRead : (BitVec.ofNat 8 r.trayCount).toNat = r.trayCount := toNat_ofNat_byte (by omega)
  have latched := readLatched_bytes tokenFits declarationFits
  rw [report_eq, rawBytes]
  simp only [Out.u8_eq, List.cons_append, List.nil_append, readReport, flap, bag, stable, token, declaration, latched,
    trayRead, tray, rawRead, signed24_unsigned24 low high, tamper, blocked, printer, if_true, BitVec.ofNat_toNat,
    BitVec.setWidth_eq]

/-- The length that R197 gives a REPORT body counts its eight bytes and what is latched. -/
theorem bodyLength_eq (r : HeadReport) : r.bodyLength = 8 + (latchedBytes r.token r.declaration).length := by
  have token : (r.token.elim [] Out.u32).length = if r.token.isSome then 4 else 0 := by cases r.token <;> rfl
  rw [HeadReport.bodyLength, latchedBytes, List.length_append, token, ← Nat.add_assoc]
  cases r.declaration with
  | none => rfl
  | some d => exact congrArg _ (declarationBytes_length d).symm

theorem report_length (r : HeadReport) : (Out.report r).length = r.bodyLength := by
  rw [report_eq, bodyLength_eq]
  simp only [List.length_append, Out.u8, Out.u24, bytesOf_length]
  omega

/-! ## ANSWER -/

theorem readAnswer_answer {a : HeadAnswer} (wf : a.wellFormed = true) : readAnswer (Out.answer a) = some a := by
  have ranges : (1 ≤ a.depth ∧ a.depth ≤ 3) ∧ a.trayCount ≤ 3 := by simpa [HeadAnswer.wellFormed] using wf
  obtain ⟨depth, tray⟩ := ranges
  obtain ⟨weigh, scan, print, flap⟩ := caps_read a.caps.weigh a.caps.scan a.caps.print a.caps.flapDrive
  have depthRead : (BitVec.ofNat 8 a.depth).toNat = a.depth := toNat_ofNat_byte (by omega)
  have trayRead : (BitVec.ofNat 8 a.trayCount).toNat = a.trayCount := toNat_ofNat_byte (by omega)
  simp only [Out.answer, Out.caps, Out.u8_eq, List.cons_append, List.nil_append, readAnswer, depthRead, trayRead,
    weigh, scan, print, flap]
  simp [within, depth, tray]

theorem answer_length (a : HeadAnswer) : (Out.answer a).length = 3 := rfl

end Sys2Proof.Machine
end

section
/-! PROOFS. Whole frames on either line (R149 to R151, R168, R192). -/

namespace Sys2Proof.Machine

open Sys2Proof

/-- A length byte of a frame whose body fits it. -/
theorem length_byte {body : List Byte} (short : body.length ≤ 249) :
    (BitVec.ofNat 8 (body.length + 1)).toNat = body.length + 1 := toNat_ofNat_byte (by omega)

/-! ## The office link -/

theorem officeReceive_nil (fuel : Nat) : officeReceive fuel [] = ([], []) := by cases fuel <;> rfl

/-- A frame of a length that the link allows is one command. -/
theorem officeReceive_frame (kind c1 c0 : Byte) {body : List Byte} (short : body.length ≤ 249) (fuel : Nat) :
    officeReceive (fuel + 1) (officeStart :: (covered kind body ++ [c1, c0]))
      = ([readOfficeFrame (covered kind body) [c1, c0]], []) := by
  have len := length_byte short
  have allowed : ¬(BitVec.ofNat 8 (body.length + 1) = 0 ∨ 250 < body.length + 1) := by
    rintro (zero | long)
    · rw [zero] at len
      exact absurd len (by simp)
    · omega
  have whole : ¬(kind :: (body ++ [c1, c0])).length < body.length + 1 + 2 := by simp
  have front : (kind :: (body ++ [c1, c0])).take (body.length + 1) = kind :: body := by simp
  have back : (kind :: (body ++ [c1, c0])).drop (body.length + 1) = [c1, c0] := by simp
  have rest : (kind :: (body ++ [c1, c0])).drop (body.length + 1 + 2) = [] := by rw [← List.drop_drop, back]; rfl
  simp only [covered, List.cons_append, officeReceive, ne_eq, not_true_eq_false, if_false, len, allowed, whole, front,
    back, rest, officeReceive_nil]
  rfl

/-- A frame whose check disagrees is bad, whatever it covers (R168). -/
theorem readOfficeFrame_badCheck {cov check : List Byte} (bad : check ≠ bytesOf 2 (crc16 cov).toNat) :
    readOfficeFrame cov check = .officeBadFrame .badCheck := if_pos bad

theorem readOfficeFrame_good {kind : Byte} {body check : List Byte}
    (agrees : check = bytesOf 2 (crc16 (covered kind body)).toNat) :
    readOfficeFrame (covered kind body) check
      = if kind = requestKind then decodeRequest body else .officeBadFrame .notRequest :=
  if_neg (not_not_intro agrees)

/-- A REQUEST frame becomes the command that its body spells. -/
theorem officeReceive_request {body : List Byte} (short : body.length ≤ 249) (fuel : Nat) :
    officeReceive (fuel + 1) (officeFrame requestKind body) = ([decodeRequest body], []) := by
  have read := readOfficeFrame_good (kind := requestKind) (body := body) rfl
  rw [if_pos rfl] at read
  exact (officeReceive_frame requestKind _ _ short fuel).trans (congrArg (fun i => ([i], [])) read)

/-! ## A hatch port -/

theorem inSense_inSense (c : Bool) (bs : List Byte) : inSense c (inSense c bs) = bs := by
  cases c <;> simp [inSense, Function.comp_def]

theorem inSense_cons (c : Bool) (b : Byte) (bs : List Byte) :
    inSense c (b :: bs) = (if c then ~~~b else b) :: inSense c bs := by
  cases c <;> rfl

@[simp] theorem inSense_length (c : Bool) (bs : List Byte) : (inSense c bs).length = bs.length := by
  cases c <;> simp [inSense]

theorem hatchReceive_nil (h : Hatch) (fuel : Nat) : hatchReceive h fuel [] = ([], []) := by cases fuel <;> rfl

/-- A start byte tells the sense in which a frame comes. -/
theorem start_sense (c : Bool) :
    let b := if c then ~~~hatchStart else hatchStart
    decide (b = ~~~hatchStart) = c ∧ ¬(b ≠ hatchStart ∧ c = false) := by
  cases c <;> decide

/-- A frame of a length that a port allows is one command, in either sense. -/
theorem hatchReceive_frame (h : Hatch) (c : Bool) (kind check : Byte) {body : List Byte} (short : body.length ≤ 60)
    (fuel : Nat) :
    hatchReceive h (fuel + 1) (inSense c (hatchStart :: (covered kind body ++ [check])))
      = ([hatchCommand h c (readHatchFrame (covered kind body) check)], []) := by
  have len := length_byte (body := body) (by omega)
  obtain ⟨sense, started⟩ := start_sense c
  have allowed : ¬61 < body.length + 1 := by omega
  have whole : ¬(kind :: (body ++ [check])).length < body.length + 1 + 1 := by simp
  have front : (kind :: (body ++ [check])).take (body.length + 1) = kind :: body := by simp
  have back : (kind :: (body ++ [check])).drop (body.length + 1) = [check] := by simp
  have rest :
      (inSense c (BitVec.ofNat 8 (body.length + 1) :: kind :: (body ++ [check]))).drop (body.length + 1 + 2) = [] :=
    List.drop_eq_nil_of_le (by simp)
  rw [inSense_cons]
  simp only [covered, List.cons_append, hatchReceive, sense, started, if_false, inSense_inSense, len, allowed, whole,
    front, back, rest, hatchReceive_nil]
  rfl

/-- The 65th byte of a frame that announces more than a port allows is jabber (R150). -/
theorem hatchReceive_jabber (h : Hatch) {len : Byte} {bs : List Byte} (long : 61 < len.toNat) (full : bs.length = 63)
    (fuel : Nat) : hatchReceive h (fuel + 1) (hatchStart :: len :: bs) = ([.jabber h], []) := by
  obtain ⟨sense, started⟩ := start_sense false
  have whole : ¬bs.length < 63 := by omega
  have rest : (len :: bs).drop 64 = [] := List.drop_eq_nil_of_le (by simp [full])
  have same : inSense false (len :: bs) = len :: bs := rfl
  simp only [Bool.false_eq_true, if_false] at sense started
  simp only [hatchReceive, sense, started, if_false, same, long, if_true, whole, rest, hatchReceive_nil]

/-! ## What a whole frame holds -/

theorem readHatchFrame_report (body : List Byte) :
    readHatchFrame (covered reportKind body) (crc8 (covered reportKind body)) = (readReport body).map .report :=
  (if_neg (not_not_intro rfl)).trans (if_pos rfl)

theorem readHatchFrame_answer (body : List Byte) :
    readHatchFrame (covered answerKind body) (crc8 (covered answerKind body)) = (readAnswer body).map .answer :=
  (if_neg (not_not_intro rfl)).trans ((if_neg (by decide)).trans (if_pos rfl))

/-- A frame whose check disagrees, whose kind is no head's or whose body does not fit holds nothing (R149). -/
theorem readHatchFrame_bad {kind check : Byte} {body : List Byte}
    (bad : check ≠ crc8 (covered kind body) ∨ kind ≠ reportKind ∧ kind ≠ answerKind
      ∨ kind = reportKind ∧ readReport body = none ∨ kind = answerKind ∧ readAnswer body = none) :
    readHatchFrame (covered kind body) check = none := by
  by_cases agrees : check = crc8 (covered kind body)
  · subst agrees
    rcases bad with disagrees | ⟨noReport, noAnswer⟩ | ⟨rfl, misfit⟩ | ⟨rfl, misfit⟩
    · exact absurd rfl disagrees
    · exact (if_neg (not_not_intro rfl)).trans ((if_neg noReport).trans (if_neg noAnswer))
    · rw [readHatchFrame_report, misfit]; rfl
    · rw [readHatchFrame_answer, misfit]; rfl
  · exact if_pos agrees

/-- A REPORT frame in either sense becomes the command of its report. -/
theorem hatchReceive_report (h : Hatch) (c : Bool) {r : HeadReport} (wf : r.wellFormed = true) (fuel : Nat) :
    hatchReceive h (fuel + 1) (inSense c (hatchFrame reportKind (Out.report r)))
      = ([hatchCommand h c (some (.report r))], []) := by
  obtain ⟨-, -, -, -, short⟩ := wellFormed_report wf
  have received := hatchReceive_frame h c reportKind (crc8 (covered reportKind (Out.report r)))
    ((report_length r).trans_le short) fuel
  rwa [readHatchFrame_report, readReport_report wf] at received

/-- An ANSWER frame in either sense becomes the command of its answer. -/
theorem hatchReceive_answer (h : Hatch) (c : Bool) {a : HeadAnswer} (wf : a.wellFormed = true) (fuel : Nat) :
    hatchReceive h (fuel + 1) (inSense c (hatchFrame answerKind (Out.answer a)))
      = ([hatchCommand h c (some (.answer a))], []) := by
  have received := hatchReceive_frame h c answerKind (crc8 (covered answerKind (Out.answer a)))
    ((answer_length a).trans_le (by decide)) fuel
  rwa [readHatchFrame_answer, readAnswer_answer wf] at received

/-- A frame that holds nothing is a bad frame in either sense. -/
theorem hatchReceive_bad (h : Hatch) (c : Bool) {kind check : Byte} {body : List Byte} (short : body.length ≤ 60)
    (empty : readHatchFrame (covered kind body) check = none) (fuel : Nat) :
    hatchReceive h (fuel + 1) (inSense c (hatchStart :: (covered kind body ++ [check])))
      = ([.hatchBadFrame h], []) := by
  rw [hatchReceive_frame h c kind check short, empty]
  rfl

/-- A port brings its line to its own sense, and reads there a REPORT frame in the present sense or complemented
(R151). -/
theorem receive_report (p : Port) (h : Hatch) (c : Bool) {r : HeadReport} (wf : r.wellFormed = true) :
    p.receive h (inSense p.inverted (inSense c (hatchFrame reportKind (Out.report r))))
      = ([hatchCommand h c (some (.report r))], []) := by
  unfold Port.receive
  rw [inSense_inSense, inSense_length, inSense_length]
  exact hatchReceive_report h c wf _

/-- Settles O10: each body reads back field by field, and each frame is one command by what it holds. -/
theorem headBodiesAndFramesReadBack : Obligations.HeadBodiesAndFramesReadBack := by
  unfold Obligations.HeadBodiesAndFramesReadBack
  refine ⟨⟨fun r wf => readReport_report wf, fun a wf => readAnswer_answer wf⟩,
    ⟨fun body short => officeReceive_request short _, fun h r wf => hatchReceive_report h false wf _,
      fun h r wf => hatchReceive_report h true wf _, fun h len bs long full => hatchReceive_jabber h long full _⟩,
    fun h a wf => ⟨hatchReceive_answer h false wf _, hatchReceive_answer h true wf _⟩,
    fun h kind check body short bad => ⟨hatchReceive_bad h false short (readHatchFrame_bad bad) _,
      hatchReceive_bad h true short (readHatchFrame_bad bad) _⟩,
    fun kind c1 c0 body short => ⟨fun disagrees => ?_, fun agrees foreign => ?_⟩, fun p h r wf => ?_⟩
  · exact (officeReceive_frame kind c1 c0 short _).trans
      (congrArg (fun i => ([i], [])) (readOfficeFrame_badCheck disagrees))
  · exact (officeReceive_frame kind c1 c0 short _).trans
      (congrArg (fun i => ([i], [])) ((readOfficeFrame_good agrees).trans (if_neg foreign)))
  · have present := receive_report p h false wf
    have complemented := receive_report p h true wf
    cases sense : p.inverted with
    | false =>
      rw [sense] at present complemented
      exact ⟨present, complemented⟩
    | true =>
      rw [sense] at present complemented
      have back := inSense_inSense true (hatchFrame reportKind (Out.report r))
      rw [back] at complemented
      exact ⟨present, complemented⟩

end Sys2Proof.Machine
end

section
/-! PROOFS. POLLs, their windows and OFFERs (R149, R152, R154, R156, R157, R162). -/

namespace Sys2Proof.Machine

open Sys2Proof

namespace State

variable (s : State) (h : Hatch)

/-! ## Frames abandoned as the port begins to send (R149) -/

/-- Whether a frame was in reception or not, the port differs in its bad-frame counter alone. -/
theorem abandonFrame_eq (b : Bool) :
    s.abandonFrame h b
      = s.modPort h fun p => { p with badFrames := if b then bump p.badFrames else p.badFrames } := by
  cases b
  · show s = s.setPorts (s.ports.set h (s.port h))
    rw [port, PerHatch.set_get]
    rfl
  · rfl

/-- The commands of a POLL do not rest on the bad-frame counter. -/
theorem pollCommands_badFrames (f : Port → Nat) :
    (s.modPort h fun p => { p with badFrames := f p }).pollCommands h = s.pollCommands h := by
  simp [pollCommands, flapCommand, tipCommand, releaseCommand, consumeCommand, drop]

/-- A POLL sent at `t` (R156, R162). -/
theorem sendPoll_abandonFrame (t : Nat) (b : Bool) :
    ((s.reach t).abandonFrame h b).sendPoll h
      = (s.reach t).modPort h fun p =>
          { p with
            badFrames := if b then bump p.badFrames else p.badFrames
            lineOut := some (.poll (s.pollCommands h))
            window := some (max s.now t + Config.windowTime)
            pollStart := max s.now t
            showDue := none
            receiptDue := none } := by
  have commands : ((s.reach t).abandonFrame h b).pollCommands h = s.pollCommands h := by
    rw [abandonFrame_eq, pollCommands_badFrames]
    rfl
  unfold sendPoll
  rw [commands, abandonFrame_eq, modPort_modPort]
  rfl

/-- An OFFER sent at `t` (R152, R154). -/
theorem sendOffer_abandonFrame (t : Nat) (b : Bool) :
    ((s.reach t).abandonFrame h b).sendOffer h
      = (s.reach t).modPort h fun p =>
          { p with
            badFrames := if b then bump p.badFrames else p.badFrames
            link := .exchange (max s.now t + Config.offerTime)
            lineOut := some (.offer ⟨true, true, (s.config h).printOffered, true⟩ (s.config h).depth) } := by
  unfold sendOffer
  rw [abandonFrame_eq, modPort_modPort]
  rfl

/-! ## Windows that close (R156, R157) -/

/-- The window closes at `close` without a REPORT: both miss counts rise. -/
def missed (close : Nat) : State :=
  (s.reach close).modPort h fun p =>
    { p with window := none, missCount := bump p.missCount, misses := p.misses + 1 }

variable {s h}

theorem missEvent_open {close : Nat} (up : (s.port h).link = .up) (opened : (s.port h).window = some close) :
    s.missEvent h
      = if (s.port h).misses + 1 < 3 then s.missed h close
        else ((s.missed h close).raise .linkLost).enterHoldOff h := by
  have judged : s.missEvent h = (s.missed h close).judgeMisses h := by
    unfold missEvent
    rw [up, opened]
    rfl
  have misses : ((s.missed h close).port h).misses = (s.port h).misses + 1 := by
    rw [missed, modPort_port_self]
    rfl
  rw [judged, judgeMisses, misses]
  by_cases third : (s.port h).misses + 1 < 3
  · rw [if_pos third, if_neg (Nat.not_le.2 third)]
  · rw [if_neg third, if_pos (Nat.not_lt.1 third)]

theorem missEvent_idle (idle : (s.port h).link ≠ .up ∨ (s.port h).window = none) : s.missEvent h = s := by
  unfold missEvent
  split
  · next up opened =>
    rcases idle with down | closed
    · exact absurd up down
    · rw [closed] at opened
      cases opened
  · rfl

/-! ## HOLD_OFF and EXCHANGE (R152) -/

theorem holdOffEvent_holdOff {t : Nat} (link : (s.port h).link = .holdOff t) (b : Bool) :
    s.holdOffEvent h b = ((s.reach t).abandonFrame h b).sendOffer h := by
  simp only [holdOffEvent, link]

theorem holdOffEvent_other (other : ∀ t, (s.port h).link ≠ .holdOff t) (b : Bool) : s.holdOffEvent h b = s := by
  unfold holdOffEvent
  cases link : (s.port h).link with
  | holdOff t => exact absurd link (other t)
  | _ => rfl

theorem offerEvent_exchange {t : Nat} (link : (s.port h).link = .exchange t) (b : Bool) :
    s.offerEvent h b = ((s.reach t).abandonFrame h b).sendOffer h := by
  simp only [offerEvent, link]

theorem offerEvent_other (other : ∀ t, (s.port h).link ≠ .exchange t) (b : Bool) : s.offerEvent h b = s := by
  unfold offerEvent
  cases link : (s.port h).link with
  | exchange t => exact absurd link (other t)
  | _ => rfl

end State

open State in
/-- Settles O45: a POLL where the link is UP without a window, a miss by the number in a row, an OFFER where HOLD_OFF
or EXCHANGE stands. -/
theorem pollsMissesAndOffers : Obligations.PollsMissesAndOffers := by
  unfold Obligations.PollsMissesAndOffers
  refine fun s h settled => ⟨fun b => ?_, fun close up opened => ?_,
    fun idle => exec_event_same rfl settled (missEvent_idle idle), fun b => ⟨?_, ?_⟩⟩
  · split
    · next due =>
      exact exec_event_quiet_office rfl settled ((if_pos due).trans (s.sendPoll_abandonFrame h _ b)) rfl
    · next wait => exact exec_event_same rfl settled (if_neg wait)
  · have event := missEvent_open up opened
    split
    · next few => exact exec_event_quiet_office rfl settled (event.trans (if_pos few)) rfl
    · next third => exact exec_event_pumped rfl settled.1 (event.trans (if_neg third))
  · split
    · next e link =>
      exact exec_event_quiet_office rfl settled
        ((holdOffEvent_holdOff link b).trans (s.sendOffer_abandonFrame h e b)) rfl
    · next other => exact exec_event_same rfl settled (holdOffEvent_other other b)
  · split
    · next e link =>
      exact exec_event_quiet_office rfl settled
        ((offerEvent_exchange link b).trans (s.sendOffer_abandonFrame h e b)) rfl
    · next other => exact exec_event_same rfl settled (offerEvent_other other b)

end Sys2Proof.Machine
end

section
/-! PROOFS. Bad, unasked and complemented frames, jabber and the aux contact (R149 to R152, R156, R163). -/

namespace Sys2Proof.Machine

open Sys2Proof

/-! ## Link states by their codes -/

theorem LinkState.code_unread {l : LinkState} (e : l.code = 0 ∨ l.code = 1) :
    l = .disabled ∨ ∃ t, l = .holdOff t := by
  cases l <;> simp_all [code]

theorem LinkState.code_read {l : LinkState} (e : l.code = 2 ∨ l.code = 3) : (∃ t, l = .exchange t) ∨ l = .up := by
  cases l <;> simp_all [code]

namespace State

variable {s : State} {h : Hatch}

/-! ## HOLD_OFF and DISABLED read nothing (R149, R152) -/

section

variable (unread : (s.port h).link.code = 0 ∨ (s.port h).link.code = 1)

include unread

theorem badFrameEvent_unread : s.badFrameEvent h = s := by
  unfold badFrameEvent
  rcases LinkState.code_unread unread with link | ⟨t, link⟩ <;> rw [link]

theorem jabberEvent_unread : s.jabberEvent h = s := by
  unfold jabberEvent
  rcases LinkState.code_unread unread with link | ⟨t, link⟩ <;> rw [link]

theorem takeComplemented_unread (f : HeadFrame) : s.takeComplemented h f = s := by
  unfold takeComplemented
  rcases LinkState.code_unread unread with link | ⟨t, link⟩ <;> rw [link]

theorem takeValidReport_unread (r : HeadReport) : s.takeValidReport h r = s := by
  unfold takeValidReport
  rcases LinkState.code_unread unread with link | ⟨t, link⟩ <;> rw [link]

end

/-! ## EXCHANGE and UP read every frame -/

section

variable (read : (s.port h).link.code = 2 ∨ (s.port h).link.code = 3)

include read

theorem badFrameEvent_read : s.badFrameEvent h = s.countBad h := by
  unfold badFrameEvent
  rcases LinkState.code_read read with ⟨t, link⟩ | link <;> rw [link]

theorem jabberEvent_read : s.jabberEvent h = ((s.countBad h).raise .jabber).enterHoldOff h := by
  unfold jabberEvent jab
  rcases LinkState.code_read read with ⟨t, link⟩ | link <;> rw [link]

theorem takeComplemented_read (f : HeadFrame) : s.takeComplemented h f = s.judgeComplemented h f := by
  unfold takeComplemented
  rcases LinkState.code_read read with ⟨t, link⟩ | link <;> rw [link]

/-- A report in EXCHANGE, or outside any window, answers no poll (R149, R156). -/
theorem takeValidReport_unasked (unasked : (s.port h).link.code = 2 ∨ (s.port h).window = none) (r : HeadReport) :
    s.takeValidReport h r = s.countBad h := by
  unfold takeValidReport
  rcases LinkState.code_read read with ⟨t, link⟩ | link
  · rw [link]
  · have closed : (s.port h).window = none := unasked.resolve_left (by simp [link, LinkState.code])
    rw [link, closed]
    rfl

end

/-! ## Complemented frames by the configuration and the streak (R151) -/

theorem judgeComplemented_fixed (fixed : (s.config h).autoPolarity = false) (f : HeadFrame) :
    s.judgeComplemented h f = s.countBad h := by
  simp [judgeComplemented, fixed]

theorem judgeComplemented_early (auto : (s.config h).autoPolarity ≠ false) (early : (s.port h).streak < 2)
    (f : HeadFrame) : s.judgeComplemented h f = s.modPort h fun p => { p with streak := p.streak + 1 } := by
  simp [judgeComplemented, auto, early]

theorem judgeComplemented_third (auto : (s.config h).autoPolarity ≠ false) (third : ¬(s.port h).streak < 2)
    (f : HeadFrame) :
    s.judgeComplemented h f
      = ((s.modPort h fun p => { p with inverted := !p.inverted, streak := 0 }).raise .polarity).takeFrame h f := by
  simp [judgeComplemented, auto, third]

/-! ## The aux contact (R163) -/

/-- The contact keeps its new level, and an opening is latched under SURROUND. -/
theorem surroundEvent_eq (b : Bool) :
    s.surroundEvent h b
      = s.modPort h fun p =>
          { p with
            contactOpen := b
            surroundLatch := p.surroundLatch || (b && !p.contactOpen && decide ((s.config h).aux = .surround)) } := by
  have latch : (s.setContact h true).latchSurround h
      = if (s.config h).aux = .surround then
          s.modPort h fun p => { p with contactOpen := true, surroundLatch := true }
        else s.modPort h fun p => { p with contactOpen := true } := by
    unfold latchSurround setContact
    rw [modPort_modPort]
    rfl
  unfold surroundEvent
  cases b with
  | false =>
    rw [if_neg (by simp), setContact]
    exact modPort_congr (by simp)
  | true =>
    cases was : (s.port h).contactOpen with
    | true =>
      rw [if_neg (by simp), setContact]
      exact modPort_congr (by simp [was])
    | false =>
      rw [if_pos (by simp), latch]
      split
      · next surround => exact modPort_congr (by simp [was, surround])
      · next other => exact modPort_congr (by simp [was, other])

/-- The running controller takes a change of the contact as an event. -/
theorem exec_surroundOpening (run : s.running = true) (b : Bool) :
    exec (.surroundOpening h b) s = .next (s.event fun s => s.surroundEvent h b) := if_pos run

end State

open State in
/-- Settles O49: each event by the link state, a complemented frame by the configuration and the streak as well. -/
theorem otherEventsAtAPort : Obligations.OtherEventsAtAPort := by
  unfold Obligations.OtherEventsAtAPort
  refine ⟨fun s h settled => ⟨fun unread => ?_, fun read => ?_, fun b => ?_⟩,
    fun s h => ⟨fun _ => rfl, fun _ => rfl⟩⟩
  · exact ⟨exec_event_same rfl settled (badFrameEvent_unread unread),
      exec_event_same rfl settled (jabberEvent_unread unread),
      fun f => exec_event_same rfl settled (takeComplemented_unread unread f),
      fun r => exec_event_same rfl settled (takeValidReport_unread unread r)⟩
  · refine ⟨exec_event_quiet_office rfl settled (badFrameEvent_read read) rfl,
      exec_event_pumped rfl settled.1 (jabberEvent_read read),
      fun unasked r => exec_event_quiet_office rfl settled (takeValidReport_unasked read unasked r) rfl, fun f => ?_⟩
    have judged := takeComplemented_read read f
    split
    · next fixed => exact exec_event_quiet_office rfl settled (judged.trans (judgeComplemented_fixed fixed f)) rfl
    · next auto =>
      split
      · next early =>
        exact exec_event_quiet_office rfl settled (judged.trans (judgeComplemented_early auto early f)) rfl
      · next third => exact exec_event_pumped rfl settled.1 (judged.trans (judgeComplemented_third auto third f))
  · exact exec_event_quiet_office (exec_surroundOpening settled.1 b) settled (surroundEvent_eq b) rfl

end Sys2Proof.Machine
end

section
/-! PROOFS. HATCH_CONFIG (R153, R163, R165). -/

namespace Sys2Proof.Machine

open Sys2Proof

/-! ## Operands in range (R165, R193) -/

theorem yesNo?_toNat (b : Bool) : yesNo? b.toNat = some b := by cases b <;> rfl

theorem yesNo?_none {n : Nat} (beyond : 1 < n) : yesNo? n = none := by
  match n with
  | n + 2 => rfl

theorem auxFunction?_code (x : AuxFunction) : auxFunction? x.code = some x := by cases x <;> rfl

theorem auxFunction?_none {n : Nat} (beyond : 2 < n) : auxFunction? n = none := by
  match n with
  | n + 3 => rfl

theorem configOf?_some {a : HatchConfigArgs} {enable print auto : Bool} {x : AuxFunction}
    (enabled : a.enable = enable.toNat) (prints : a.printOffered = print.toNat) (autos : a.autoPolarity = auto.toNat)
    (aux : a.aux = x.code) (least : 1 ≤ a.depth) (most : a.depth ≤ 3) (divides : a.divider ≤ 31) :
    configOf? a = some ⟨enable, print, a.depth, a.divider, x, auto⟩ := by
  simp [configOf?, enabled, prints, autos, aux, yesNo?_toNat, auxFunction?_code, least, most, divides]

/-- A configuration in range has each of its fields in range. -/
theorem configOf?_fields {a : HatchConfigArgs} {c : HatchConfig} (fits : configOf? a = some c) :
    a.enable ≤ 1 ∧ a.printOffered ≤ 1 ∧ (1 ≤ a.depth ∧ a.depth ≤ 3) ∧ a.divider ≤ 31 ∧ a.aux ≤ 2
      ∧ a.autoPolarity ≤ 1 := by
  unfold configOf? at fits
  split at fits
  · next enable print aux auto =>
    split at fits
    · next inRange =>
      simp only [Bool.and_eq_true, within_eq_true] at inRange
      have below (n : Nat) {b : Bool} (read : yesNo? n = some b) : n ≤ 1 :=
        Nat.not_lt.1 fun beyond => by simp [yesNo?_none beyond] at read
      have known : a.aux ≤ 2 := Nat.not_lt.1 fun beyond => by simp [auxFunction?_none beyond] at aux
      exact ⟨below _ enable, below _ print, inRange.1, inRange.2.2, known, below _ auto⟩
    · cases fits
  · cases fits

theorem Drop.inTransaction_iff (d : Drop) :
    d.inTransaction = true ↔ d.code = 2 ∨ d.code = 3 ∨ d.code = 4 ∨ d.code = 5 := by
  cases d <;> simp [inTransaction, code]

/-- A machine without a transaction is OFFLINE, IDLE or in FAULT. -/
theorem Drop.inTransaction_eq_false {d : Drop} (e : d.code = 0 ∨ d.code = 1 ∨ d.code = 6) :
    d.inTransaction = false := by
  cases d <;> simp_all [inTransaction, code]

namespace State

/-! ## A link that leaves UP without a transaction -/

/-- A machine that owns no transaction only goes OFFLINE with its link. -/
theorem dropLink_withoutTransaction (s : State) (h : Hatch) (e : (s.drop h).inTransaction = false) :
    s.dropLink h = s.setDrop h .offline := by
  rcases Drop.code_cases (s.drop h) with offline | plain | uncommitted | committed
  · rw [dropLink_offline s h offline]
    have same : { s.port h with drop := .offline } = s.port h := by rw [← offline]; rfl
    show s = s.setPorts (s.ports.set h { s.port h with drop := .offline })
    rw [same, port, PerHatch.set_get]
    rfl
  · rw [dropLink_plain s h plain, endTransaction_plain]
    rcases plain with idle | fault
    · rw [Drop.code_eq_one.1 idle]; rfl
    · rw [Drop.code_eq_six.1 fault]; rfl
  all_goals
    have busy : (s.drop h).inTransaction = true := (Drop.inTransaction_iff _).2 (by omega)
    simp [e] at busy

/-- A link that leaves UP without a transaction changes its own port alone. -/
theorem unlink_withoutTransaction (s : State) (h : Hatch) (e : (s.drop h).inTransaction = false) :
    s.unlink h = s.modPort h fun p => if p.link = .up then { p.discard with drop := .offline } else p := by
  unfold unlink
  split
  · next up =>
    unfold leaveUp
    rw [dropLink_withoutTransaction s h e, setDrop, modPort_modPort]
    exact modPort_congr (if_pos up).symm
  · next down =>
    show s = s.setPorts (s.ports.set h (if (s.port h).link = .up then _ else s.port h))
    rw [if_neg down, port, PerHatch.set_get]
    rfl

end State

/-! ## The configuration in force -/

/-- A port as a configuration acts on it at once: no streak without automatic polarity, no latch without SURROUND. -/
def Port.configured (c : HatchConfig) (p : Port) : Port :=
  { p with
    streak := if c.autoPolarity then p.streak else 0
    surroundLatch := if c.aux = .surround then p.surroundLatch else false }

/-- A fitted port restarted or disabled at `now`, which leaves UP if its link was there. -/
def Port.relinked (now : Nat) (enable : Bool) (p : Port) : Port :=
  let left := if p.link = .up then { p.discard with drop := .offline } else p
  if enable then { left with link := .holdOff (now + Config.holdOffTime), streak := 0 }
  else { left with link := .disabled }

namespace State

variable (s : State) (h : Hatch) (c : HatchConfig)

/-- At a machine without a transaction a configuration changes its table entry and its port. -/
theorem applyConfig_withoutTransaction (e : (s.drop h).inTransaction = false) :
    s.applyConfig h c
      = (s.setTables { s.tables with configs := s.tables.configs.set h c }).modPort h fun p =>
          if s.fitted h then (p.configured c).relinked s.now c.enable else p.configured c := by
  have free : ((s.takeConfig h c).drop h).inTransaction = false := by
    rw [takeConfig, drop, modPort_port_self]
    exact e
  rw [applyConfig_eq]
  cases fits : s.fitted h
  · rfl
  cases enabled : c.enable
  · show (s.takeConfig h c).disablePort h = _
    unfold disablePort
    rw [unlink_withoutTransaction _ h free, modPort_modPort, takeConfig, modPort_modPort]
    rfl
  · show (s.takeConfig h c).enterHoldOff h = _
    unfold enterHoldOff
    rw [unlink_withoutTransaction _ h free, modPort_modPort, takeConfig, modPort_modPort]
    rfl

theorem hatchConfig_range {a : HatchConfigArgs} (bad : (a.hatch = 0 ∨ 4 < a.hatch) ∨ configOf? a = none) :
    s.hatchConfig a = s.answer 0x60 .range [] := by
  unfold hatchConfig
  split
  · next hatch fits =>
    rcases bad with unknown | outside
    · simp [hatchOf?_none unknown] at hatch
    · simp [outside] at fits
  · rfl

variable {h c}

theorem hatchConfig_state {a : HatchConfigArgs} (hatch : a.hatch = h.num) (fits : configOf? a = some c)
    (busy : (s.drop h).inTransaction = true) : s.hatchConfig a = s.answer 0x60 .state [] := by
  simp [hatchConfig, hatch, fits, busy]

theorem hatchConfig_ok {a : HatchConfigArgs} (hatch : a.hatch = h.num) (fits : configOf? a = some c)
    (free : (s.drop h).inTransaction = false) :
    s.hatchConfig a = (s.applyConfig h c).answer 0x60 .ok [] := by
  simp [hatchConfig, hatch, fits, free]

end State

open State in
/-- Settles O56: the operands in range or not, the machine in a transaction or not, and without one the port fitted
or not. -/
theorem hatchConfigReplacesAndRestarts : Obligations.HatchConfigReplacesAndRestarts := by
  unfold Obligations.HatchConfigReplacesAndRestarts
  refine fun s a ready => ⟨fun bad => ?_,
    fun h enable print auto x hatch enabled prints autos aux least most divides => ?_⟩
  · refine exec_request_same rfl ready (s.hatchConfig_range ?_)
    cases fits : configOf? a with
    | none => exact .inr rfl
    | some c => have fields := configOf?_fields fits; exact .inl (by omega)
  · have fits := configOf?_some enabled prints autos aux least most divides
    refine ⟨fun busy => ?_, fun free => ?_⟩
    · exact exec_request_same rfl ready (s.hatchConfig_state hatch fits ((Drop.inTransaction_iff _).2 busy))
    · have free := Drop.inTransaction_eq_false free
      rw [exec_request_answered rfl ready (s.hatchConfig_ok hatch fits free) (applyConfig_kept ..),
        applyConfig_withoutTransaction s h _ free]
      by_cases fitted : s.straps.hatches < h.num
      · have out : s.fitted h = false := by simp [State.fitted, fitted]
        simp only [out, fitted, if_true]
        rfl
      · have within : s.fitted h = true := by simp [State.fitted, Nat.not_lt.1 fitted]
        simp only [within, fitted, if_true, if_false]
        rfl

end Sys2Proof.Machine
end

section
/-! PROOFS. COUNTERS_CLEAR, ALERT_CLEAR and ALERT_MASK, and bad office frames (R168, R176, R177, R180, R196). -/

namespace Sys2Proof.Machine

open Sys2Proof

/-! ## Flag sets in range (R196) -/

theorem flagSetOf?_some {v : Nat} (fits : v < 2 ^ 21) : flagSetOf? v = some (BitVec.ofNat 21 v) := if_pos fits

theorem flagSetOf?_none {v : Nat} (beyond : ¬v < 2 ^ 21) : flagSetOf? v = none := if_neg beyond

namespace State

/-! ## Counters -/

theorem clearCounters_kept (s : State) : Kept s s.clearCounters := ⟨rfl, rfl, rfl, rfl, rfl, rfl, rfl, rfl⟩

theorem countersClear_eq (s : State) : s.countersClear () = s.clearCounters.answer 0x04 .ok s.counterData := rfl

/-- A count makes no frame, so that a settled event that counts a bad office frame is the count alone. -/
theorem exec_countOfficeBad {i : Instr} {s : State} (command : exec i s = .next (s.event countOfficeBad))
    (settled : s.Settled) : exec i s = .next s.countOfficeBad :=
  command.trans (congrArg _ (event_eq settled.1 (settled.2.of_office rfl rfl rfl)))

/-! ## Alerts -/

theorem alertClear_some (s : State) {v : Nat} (fits : v < 2 ^ 21) :
    s.alertClear v
      = (s.setOffice { s.office with flags := s.office.flags &&& ~~~BitVec.ofNat 21 v }).answer 0x05 .ok
          (Out.flags (s.office.flags &&& ~~~BitVec.ofNat 21 v)) := by
  simp only [alertClear, flagSetOf?_some fits]

theorem alertClear_range (s : State) {v : Nat} (beyond : ¬v < 2 ^ 21) :
    s.alertClear v = s.answer 0x05 .range [] := by
  simp only [alertClear, flagSetOf?_none beyond]

theorem alertMask_some (s : State) {v : Nat} (fits : v < 2 ^ 21) :
    s.alertMask v = (s.setTables { s.tables with alertMask := BitVec.ofNat 21 v }).answer 0x06 .ok [] := by
  simp only [alertMask, flagSetOf?_some fits]

theorem alertMask_range (s : State) {v : Nat} (beyond : ¬v < 2 ^ 21) : s.alertMask v = s.answer 0x06 .range [] := by
  simp only [alertMask, flagSetOf?_none beyond]

end State

open State in
/-- Settles O14: each request is one answer on the counters or the set as changed, and every bad frame is one count. -/
theorem countersAndAlerts : Obligations.CountersAndAlerts := by
  unfold Obligations.CountersAndAlerts
  refine ⟨⟨fun s ready => exec_request_answered rfl ready s.countersClear_eq s.clearCounters_kept,
    fun s settled => ⟨fun _ => exec_countOfficeBad rfl settled, exec_countOfficeBad rfl settled⟩⟩,
    fun s v ready => ⟨?_, ?_⟩⟩
  · split
    · next fits =>
      exact exec_request_answered rfl ready (s.alertClear_some fits) ⟨rfl, rfl, rfl, rfl, rfl, rfl, rfl, rfl⟩
    · next beyond => exact exec_request_same rfl ready (s.alertClear_range beyond)
  · split
    · next fits => exact exec_request_answered rfl ready (s.alertMask_some fits) (setTables_kept ..)
    · next beyond => exact exec_request_same rfl ready (s.alertMask_range beyond)

end Sys2Proof.Machine
end

section
/-! PROOFS. The bodies of office requests read back (R170, R193, R195, Table 12-1). -/

namespace Sys2Proof

/-! ## Fields of a layout -/

/-- The first field of a layout takes its bytes, and the rest of the layout what follows them. -/
theorem splitFields_cons {w v : Nat} {ws vs : List Nat} {bs : List Byte} (fits : fitsIn w v = true)
    (rest : splitFields ws bs = some vs) : splitFields (w :: ws) (bytesOf w v ++ bs) = some (v :: vs) := by
  have long : ¬(bytesOf w v ++ bs).length < w := by simp
  have front : (bytesOf w v ++ bs).take w = bytesOf w v := List.take_left' (bytesOf_length w v)
  have back : (bytesOf w v ++ bs).drop w = bs := List.drop_left' (bytesOf_length w v)
  simp only [splitFields, long, if_false, front, back, rest, natOf_bytesOf ((fitsIn_iff w v).1 fits)]

/-- The last field of a layout takes the bytes that are left. -/
theorem splitFields_last {w v : Nat} (fits : fitsIn w v = true) : splitFields [w] (bytesOf w v) = some [v] := by
  have split := splitFields_cons (bs := []) fits (ws := []) rfl
  rwa [List.append_nil] at split

/-! ## Parameters by their layout -/

/-- Parameters read back where the fields of every value in range spell that value: what fits no layout is kept as
it came. -/
theorem readParams_bytes {α : Type} {widths : List Nat} {make : List Nat → Option α} {write : α → List Byte}
    {ok : α → Bool} {p : Params α} (wf : p.wellFormed widths ok = true)
    (back : ∀ a, ok a = true → ∃ vs, splitFields widths (write a) = some vs ∧ make vs = some a) :
    readParams widths make (p.bytes write) = p := by
  cases p with
  | fits a =>
    obtain ⟨vs, split, made⟩ := back a wf
    simp only [Params.bytes, readParams, split, made]
  | misfit bs =>
    simp only [Params.wellFormed, Bool.and_eq_true, Option.isNone_iff_eq_none] at wf
    obtain ⟨unfit, -⟩ := wf
    simp only [Params.bytes, readParams, unfit]

theorem readNone_bytes {p : Params Unit} (wf : p.wellFormedNone = true) : readNone (p.bytes fun _ => []) = p :=
  readParams_bytes wf fun _ _ => ⟨[], rfl, rfl⟩

theorem readOne_bytes {w : Nat} {p : Params Nat} (wf : p.wellFormedOne w = true) :
    readOne w (p.bytes (bytesOf w)) = p :=
  readParams_bytes wf fun _ fits => ⟨_, splitFields_last fits, rfl⟩

/-- A layout of two fields. -/
theorem readParams_pair {α : Type} {w x : Nat} {make : List Nat → Option α} {first second : α → Nat} {p : Params α}
    (wf : p.wellFormed [w, x] (fun a => fitsIn w (first a) && fitsIn x (second a)) = true)
    (made : ∀ a, make [first a, second a] = some a) :
    readParams [w, x] make (p.bytes fun a => bytesOf w (first a) ++ bytesOf x (second a)) = p := by
  refine readParams_bytes wf fun a fits => ?_
  simp only [Bool.and_eq_true] at fits
  obtain ⟨fst, snd⟩ := fits
  exact ⟨_, splitFields_cons fst (splitFields_last snd), made a⟩

theorem readSchedule_bytes {p : Params ScheduleArgs}
    (wf : p.wellFormed [1, 2, 2, 1] (fun a =>
      fitsIn 1 a.window && fitsIn 2 a.start && fitsIn 2 a.stop && fitsIn 1 a.mask) = true) :
    readSchedule (p.bytes fun a =>
      bytesOf 1 a.window ++ (bytesOf 2 a.start ++ (bytesOf 2 a.stop ++ bytesOf 1 a.mask))) = p := by
  refine readParams_bytes wf fun a fits => ?_
  simp only [Bool.and_eq_true, and_assoc] at fits
  obtain ⟨window, start, stop, mask⟩ := fits
  exact ⟨_, splitFields_cons window (splitFields_cons start (splitFields_cons stop (splitFields_last mask))), rfl⟩

theorem readDepositor_bytes {p : Params DepositorArgs}
    (wf : p.wellFormed [4, 4, 1, 1, 1, 1, 4] (fun a =>
      fitsIn 4 a.token && fitsIn 4 a.reference && fitsIn 1 a.state && fitsIn 1 a.windowClass
      && fitsIn 1 a.homeBin && fitsIn 1 a.maxBags && fitsIn 4 a.maxValue) = true) :
    readDepositor (p.bytes fun a =>
      bytesOf 4 a.token ++ (bytesOf 4 a.reference ++ (bytesOf 1 a.state ++ (bytesOf 1 a.windowClass
        ++ (bytesOf 1 a.homeBin ++ (bytesOf 1 a.maxBags ++ bytesOf 4 a.maxValue)))))) = p := by
  refine readParams_bytes wf fun a fits => ?_
  simp only [Bool.and_eq_true, and_assoc] at fits
  obtain ⟨token, reference, state, windowClass, homeBin, maxBags, maxValue⟩ := fits
  exact ⟨_, splitFields_cons token (splitFields_cons reference (splitFields_cons state (splitFields_cons windowClass
    (splitFields_cons homeBin (splitFields_cons maxBags (splitFields_last maxValue)))))), rfl⟩

theorem readDenom_bytes {p : Params DenomArgs}
    (wf : p.wellFormed [1, 1, 2, 2] (fun a =>
      fitsIn 1 a.index && fitsIn 1 a.kind && fitsIn 2 a.face && fitsIn 2 a.mass) = true) :
    readDenom (p.bytes fun a =>
      bytesOf 1 a.index ++ (bytesOf 1 a.kind ++ (bytesOf 2 a.face ++ bytesOf 2 a.mass))) = p := by
  refine readParams_bytes wf fun a fits => ?_
  simp only [Bool.and_eq_true, and_assoc] at fits
  obtain ⟨index, kind, face, mass⟩ := fits
  exact ⟨_, splitFields_cons index (splitFields_cons kind (splitFields_cons face (splitFields_last mass))), rfl⟩

theorem readHatchConfig_bytes {p : Params HatchConfigArgs}
    (wf : p.wellFormed [1, 1, 1, 1, 1, 1, 1] (fun a =>
      fitsIn 1 a.hatch && fitsIn 1 a.enable && fitsIn 1 a.printOffered && fitsIn 1 a.depth
      && fitsIn 1 a.divider && fitsIn 1 a.aux && fitsIn 1 a.autoPolarity) = true) :
    readHatchConfig (p.bytes fun a =>
      bytesOf 1 a.hatch ++ (bytesOf 1 a.enable ++ (bytesOf 1 a.printOffered ++ (bytesOf 1 a.depth
        ++ (bytesOf 1 a.divider ++ (bytesOf 1 a.aux ++ bytesOf 1 a.autoPolarity)))))) = p := by
  refine readParams_bytes wf fun a fits => ?_
  simp only [Bool.and_eq_true, and_assoc] at fits
  obtain ⟨hatch, enable, printOffered, depth, divider, aux, autoPolarity⟩ := fits
  exact ⟨_, splitFields_cons hatch (splitFields_cons enable (splitFields_cons printOffered (splitFields_cons depth
    (splitFields_cons divider (splitFields_cons aux (splitFields_last autoPolarity)))))), rfl⟩

theorem readCalibrate_bytes {p : Params CalibrateArgs}
    (wf : p.wellFormed [1, 3, 2, 2] (fun a => fitsIn 1 a.hatch && decide (-8388608 ≤ a.zero ∧ a.zero ≤ 8388607)
      && fitsIn 2 a.span && fitsIn 2 a.band) = true) :
    readCalibrate (p.bytes fun a =>
      bytesOf 1 a.hatch ++ (bytesOf 3 (unsigned24 a.zero) ++ (bytesOf 2 a.span ++ bytesOf 2 a.band))) = p := by
  refine readParams_bytes wf fun a fits => ?_
  simp only [Bool.and_eq_true, decide_eq_true_eq, and_assoc] at fits
  obtain ⟨hatch, low, high, span, band⟩ := fits
  have zero : fitsIn 3 (unsigned24 a.zero) = true := (fitsIn_iff 3 _).2 (unsigned24_lt a.zero)
  exact ⟨_, splitFields_cons hatch (splitFields_cons zero (splitFields_cons span (splitFields_last band))),
    congrArg (fun z => some (CalibrateArgs.mk a.hatch z a.span a.band)) (signed24_unsigned24 low high)⟩

/-- MAP_WRITE's layout asks for the count alone (R170, R195). -/
theorem readMapWrite_bytes {p : Params MapWriteArgs} (wf : (Instr.mapWrite p).wellFormed = true) :
    readMapWrite (p.bytes fun a => bytesOf 2 a.count ++ a.bits) = p := by
  cases p with
  | fits a =>
    simp only [Instr.wellFormed, Bool.and_eq_true] at wf
    obtain ⟨count, -⟩ := wf
    have read : natOf (bytesOf 2 a.count) = a.count := natOf_bytesOf ((fitsIn_iff 2 _).1 count)
    exact congrArg (fun n => Params.fits (MapWriteArgs.mk n a.bits)) read
  | misfit bs =>
    match bs, wf with
    | [], _ | [_], _ => rfl

/-! ## Commands by their codes -/

/-- A body that carries a command's code and its parameters spells the command. -/
theorem decodeRequest_request {α : Type} {code : Nat} {p : Params α} {write : α → List Byte} {body : List Byte}
    {read : List Byte → Params α} {make : Params α → Instr} (encoded : requestBytes code p write = some body)
    (command : ∀ ps, decodeRequest (BitVec.ofNat 8 code :: ps) = make (read ps))
    (back : read (p.bytes write) = p) : decodeRequest body = make p := by
  cases encoded
  rw [command, back]

theorem decodeRequest_unknown {c : Byte} (unknown : c.toNat ∉ commandCodes) (ps : List Byte) :
    decodeRequest (c :: ps) = .unknownCommand (c :: ps) := by
  rw [decodeRequest]
  split
  case h_47 => rfl
  all_goals
    next code => exact absurd (by rw [code]; decide) unknown

theorem decodeRequest_encodeRequest {i : Instr} {body : List Byte} (wf : i.wellFormed = true)
    (encoded : encodeRequest i = some body) : decodeRequest body = i := by
  cases i with
  | statusRead | countersRead | countersClear | reset | scheduleRead | intakeStart | intakeStop | massTablesRead
  | screenRangeClear | mapClear | coverRead | journalRelease | carouselHome | storeTables | loadTables =>
    exact decodeRequest_request encoded (fun _ => rfl) (readNone_bytes wf)
  | hatchRead | alertClear | alertMask | depositorDrop | depositorRead | screenMode | screenRead | mapRead | coverSet
  | journalResolve | binClear | binWithdraw | binRestore | binRead | hatchRelink | hatchClear =>
    exact decodeRequest_request encoded (fun _ => rfl) (readOne_bytes wf)
  | noticeSet | setClock | depositorState | tarePut | toleranceSet | screenRangeAdd | mapWindow | journalRead
  | hatchShow => exact decodeRequest_request encoded (fun _ => rfl) (readParams_pair wf fun _ => rfl)
  | schedulePut => exact decodeRequest_request encoded (fun _ => rfl) (readSchedule_bytes wf)
  | depositorPut => exact decodeRequest_request encoded (fun _ => rfl) (readDepositor_bytes wf)
  | denomPut => exact decodeRequest_request encoded (fun _ => rfl) (readDenom_bytes wf)
  | mapWrite => exact decodeRequest_request encoded (fun _ => rfl) (readMapWrite_bytes wf)
  | hatchConfig => exact decodeRequest_request encoded (fun _ => rfl) (readHatchConfig_bytes wf)
  | hatchCalibrate => exact decodeRequest_request encoded (fun _ => rfl) (readCalibrate_bytes wf)
  | unknownCommand bs =>
    cases encoded
    match body, wf with
    | [], _ => rfl
    | c :: ps, wf =>
      simp only [Instr.wellFormed, Bool.and_eq_true, Bool.not_eq_true', List.contains_eq_mem, decide_eq_false_iff_not]
        at wf
      obtain ⟨unknown, -⟩ := wf
      exact decodeRequest_unknown unknown ps
  | _ => cases encoded

/-- Settles O9: the code picks the command, its layout splits the fields, and each field reads back its number. -/
theorem requestBodiesReadBack : Obligations.RequestBodiesReadBack := by
  unfold Obligations.RequestBodiesReadBack
  exact fun i body => decodeRequest_encodeRequest

end Sys2Proof
end

section
/-! SUPPORT. What a transmitter begins by what waits (R169, R171). -/

namespace Sys2Proof.Machine

open Sys2Proof

/-- The hand is emptied as its own reply begins, but a RESET stays in it (R169, R191). -/
theorem Hand.begun_eq (h : Option Hand) :
    Hand.begun h
      = match h with
        | some .replying => none
        | some .resetWaiting => some .resetSending
        | other => other := by
  rcases h with _ | _ | _ | _ | _ <;> rfl

namespace State

theorem pump_sending {s : State} {f : OfficeFrame} (sending : s.office.transmitter = some f) : s.pump = s :=
  pump_eq s fun free => absurd (sending.symm.trans free) (Option.some_ne_none f)

theorem pump_own {s : State} {r : Reply} {rest : List WaitingReply} (free : s.office.transmitter = none)
    (replies : s.office.replies = .own r :: rest) :
    s.pump = s.setOffice
      { s.office with transmitter := some (.reply r), replies := rest, hand := Hand.begun s.office.hand } := by
  unfold pump
  rw [free, replies]

theorem pump_busy {s : State} {r : Reply} {rest : List WaitingReply} (free : s.office.transmitter = none)
    (replies : s.office.replies = .busy r :: rest) :
    s.pump = s.setOffice { s.office with transmitter := some (.reply r), replies := rest } := by
  unfold pump
  rw [free, replies]

end State

end Sys2Proof.Machine
end

section
/-! SUPPORT. What every office request is: its code, its parameters and its handler, or a body that names no
command. -/

namespace Sys2Proof.Machine

open Sys2Proof

namespace State

/-- A command that a request body carries is a request with the body's code, or the request that names no command. -/
theorem exec_of_encodeRequest {i : Instr} {body : List Byte} (encoded : encodeRequest i = some body) :
    i = .unknownCommand body
      ∨ ∃ (α : Type) (p : Params α) (f : State → α → State), i.misfits = p.misfits
        ∧ ∀ s, exec i s = .next (s.request (codeOf body) p (f s)) := by
  cases i with
  | unknownCommand =>
    cases encoded
    exact .inl rfl
  | storeTablesDone | officeBadFrame | officeGapTimeout | transmitEnd | mitigationTimer | poll | miss | holdOffExpiry
  | offer | answer | report | hatchBadFrame | complementedFrame | jabber | surroundOpening | declTimeout | openTimeout
  | weighingTimeout | tippingTimeout | clockAdvance | atPosition | home | dropPulse | doorOpens | doorCloses
  | homingTimeout | moveTimeout | deliveryTimeout | powerFail | resetInput | startUp => cases encoded
  | _ =>
    cases encoded
    exact .inr ⟨_, _, _, rfl, fun _ => rfl⟩

theorem exec_unknownCommand (body : List Byte) (s : State) :
    exec (.unknownCommand body) s = .next (s.event fun s => s.answerUnknown body) := rfl

end State

end Sys2Proof.Machine
end

section
/-! PROOFS. A request that meets an occupied hand, or whose body fits no layout (R169, R170). -/

namespace Sys2Proof.Machine

open Sys2Proof

namespace State

/-! ## An occupied hand (R169) -/

theorem request_occupied {α : Type} {s : State} (run : s.running = true) (occupied : s.office.hand ≠ none) (c : Nat)
    (p : Params α) (f : α → State) : s.request c p f = (s.answerBusy c).pump := by
  unfold request
  rw [event_run _ run, if_pos (Option.isSome_iff_ne_none.2 occupied)]

theorem answerUnknown_occupied {s : State} (occupied : s.office.hand ≠ none) (body : List Byte) :
    s.answerUnknown body = s.answerBusy (codeOf body) := if_pos (Option.isSome_iff_ne_none.2 occupied)

/-- Every request alike is answered BUSY with its body's code. -/
theorem exec_occupied {i : Instr} {body : List Byte} {s : State} (encoded : encodeRequest i = some body)
    (run : s.running = true) (occupied : s.office.hand ≠ none) :
    exec i s = .next (s.answerBusy (codeOf body)).pump := by
  rcases exec_of_encodeRequest encoded with rfl | ⟨α, p, f, -, command⟩
  · rw [exec_unknownCommand, event_run _ run, answerUnknown_occupied occupied]
  · rw [command, request_occupied run occupied]

/-- A free transmitter begins a BUSY reply at once. -/
theorem pump_answerBusy_free {s : State} (c : Nat) (free : s.office.transmitter = none)
    (replies : s.office.replies = []) :
    (s.answerBusy c).pump = s.setOffice { s.office with transmitter := some (.reply ⟨c, .busy, []⟩) } := by
  simp [answerBusy, pump, setOffice, free, replies]

theorem pump_answerBusy_sending {s : State} (c : Nat) {f : OfficeFrame} (sending : s.office.transmitter = some f) :
    (s.answerBusy c).pump = s.answerBusy c :=
  pump_sending (f := f) sending

/-! ## An empty hand (R170) -/

/-- A reply formed with the hand empty and nothing changed. -/
theorem pump_answer_ready {s : State} (ready : s.Ready) (c : Nat) (x : Result) (d : List Byte) :
    (s.answer c x d).pump = s.answered c x d := by
  obtain ⟨-, hand, waits⟩ := ready
  exact pump_answer s c x d hand fun free => (waits free).1

theorem request_misfit {α : Type} {s : State} (ready : s.Ready) (c : Nat) {p : Params α} (misfits : p.misfits = true)
    (f : α → State) : s.request c p f = s.answered c .badLength [] := by
  cases p with
  | fits => cases misfits
  | misfit bs =>
    rw [← pump_answer_ready ready]
    obtain ⟨run, hand, -⟩ := ready
    simp [request, event_run _ run, hand]

theorem exec_unknownCommand_ready {s : State} (ready : s.Ready) (body : List Byte) {x : Result}
    (answers : s.answerUnknown body = s.answer (codeOf body) x []) :
    exec (.unknownCommand body) s = .next (s.answered (codeOf body) x []) := by
  rw [exec_unknownCommand, event_run _ ready.1, answers, pump_answer_ready ready]

theorem answerUnknown_nil {s : State} (ready : s.Ready) : s.answerUnknown [] = s.answer 0 .badLength [] := by
  obtain ⟨-, hand, -⟩ := ready
  simp [answerUnknown, hand]

theorem answerUnknown_cons {s : State} (ready : s.Ready) (c : Byte) (ps : List Byte) :
    s.answerUnknown (c :: ps) = s.answer c.toNat .unknownCommand [] := by
  obtain ⟨-, hand, -⟩ := ready
  simp [answerUnknown, hand]

end State

open State in
/-- Settles O11: every request is one BUSY reply, which a free transmitter begins and a busy one lets wait. -/
theorem requestWhileTheHandIsOccupiedIsBusy : Obligations.RequestWhileTheHandIsOccupiedIsBusy := by
  unfold Obligations.RequestWhileTheHandIsOccupiedIsBusy
  intro i body s encoded settled occupied
  obtain ⟨run, waits⟩ := settled
  rw [exec_occupied encoded run occupied]
  cases sent : s.office.transmitter with
  | none =>
    obtain ⟨replies, -⟩ := waits sent
    rw [pump_answerBusy_free _ sent replies]
    rfl
  | some f =>
    rw [pump_answerBusy_sending _ sent]
    rfl

open State in
/-- Settles O12: parameters that fit no layout are refused before the handler, a body that names no command has none. -/
theorem requestThatFitsNoLayoutIsRefused : Obligations.RequestThatFitsNoLayoutIsRefused := by
  unfold Obligations.RequestThatFitsNoLayoutIsRefused
  refine ⟨fun i body s encoded misfits ready => ?_,
    fun s ready => exec_unknownCommand_ready ready [] (answerUnknown_nil ready),
    fun c ps s ready => exec_unknownCommand_ready ready (c :: ps) (answerUnknown_cons ready c ps)⟩
  rcases exec_of_encodeRequest encoded with rfl | ⟨α, p, f, same, command⟩
  · cases misfits
  · rw [command, request_misfit ready _ (same.symm.trans misfits)]

end Sys2Proof.Machine
end

section
/-! PROOFS. A free transmitter leaves nothing waiting (R171): every event ends with it looking, a controller that does
not run takes none, and an outage leaves nothing to send. -/

namespace Sys2Proof.Machine

open Sys2Proof

variable {s : State}

theorem Kept.nothingWaits {t : State} (k : Kept s t) (waits : s.NothingWaits)
    (notice : t.office.notice = s.office.notice) : t.NothingWaits :=
  waits.of_office k.transmitter k.replies notice

namespace State

theorem event_nothingWaits (waits : s.NothingWaits) (f : State → State) : (s.event f).NothingWaits := by
  unfold event
  split
  · exact pump_nothingWaits _
  · exact waits

theorem exec_event_nothingWaits {c : Instr} {f : State → State} (command : exec c s = .next (s.event f))
    (waits : s.NothingWaits) : ∃ t, exec c s = .next t ∧ t.NothingWaits :=
  ⟨_, command, event_nothingWaits waits f⟩

/-- An input whose level is followed while the controller does not run (log entry 18). -/
theorem exec_level_nothingWaits {c : Instr} {f : State → State} {u : State}
    (command : exec c s = if s.running then .next (s.event f) else .next u) (waits : s.NothingWaits) (kept : Kept s u)
    (notice : u.office.notice = s.office.notice) : ∃ t, exec c s = .next t ∧ t.NothingWaits := by
  by_cases run : s.running = true
  · exact exec_event_nothingWaits (command.trans (if_pos run)) waits
  · exact ⟨u, command.trans (if_neg run), kept.nothingWaits waits notice⟩

/-! ## Power lines and start-up -/

theorem outage_nothingWaits (s : State) (b : Bool) : (s.outage b).NothingWaits := fun _ => ⟨rfl, rfl⟩

theorem stop_nothingWaits (waits : s.NothingWaits) (b : Bool) : (s.stop b).NothingWaits := by
  unfold stop
  split
  · exact outage_nothingWaits s b
  · exact waits

theorem abandon_nothingWaits (s : State) : s.abandon.NothingWaits := outage_nothingWaits s false

theorem cutPhase2_nothingWaits (a : StartUpArgs) (b : Bool) (s : State) : (cutPhase2 a b s).NothingWaits := by
  unfold cutPhase2
  split
  · exact abandon_nothingWaits _
  · split
    · exact abandon_nothingWaits _
    · exact abandon_nothingWaits _

theorem startUpEvent_nothingWaits (a : StartUpArgs) (s : State) : (startUpEvent a s).NothingWaits := by
  unfold startUpEvent
  split
  · exact pump_nothingWaits _
  · exact abandon_nothingWaits _
  · exact cutPhase2_nothingWaits a false s
  · exact cutPhase2_nothingWaits a true s

/-! ## Every command -/

theorem exec_nothingWaits (c : Instr) (waits : s.NothingWaits) : ∃ t, exec c s = .next t ∧ t.NothingWaits := by
  cases c with
  | surroundOpening h b => exact exec_level_nothingWaits rfl waits (s.setContact_kept h b) rfl
  | doorOpens => exact exec_level_nothingWaits rfl waits (s.setDoor_kept true) rfl
  | doorCloses => exact exec_level_nothingWaits rfl waits (s.setDoor_kept false) rfl
  | clockAdvance =>
    change ∃ t, execClockAdvance s = .next t ∧ t.NothingWaits
    unfold execClockAdvance
    split
    · exact ⟨s, rfl, waits⟩
    · next x _ =>
      split
      · exact ⟨_, rfl, event_nothingWaits waits _⟩
      · exact ⟨_, rfl, (s.advanceClock_kept x).nothingWaits waits rfl⟩
  | powerFail b => exact ⟨_, rfl, stop_nothingWaits waits b⟩
  | resetInput b => exact ⟨_, rfl, stop_nothingWaits waits b⟩
  | startUp a => exact ⟨_, exec_startUp a s, startUpEvent_nothingWaits a _⟩
  | _ => exact exec_event_nothingWaits rfl waits

end State

/-- Settles O7: each command is an event, an outage, a start-up, or a level that no frame shows. -/
theorem everyStepLeavesNothingWaitingForAFreeTransmitter :
    Obligations.EveryStepLeavesNothingWaitingForAFreeTransmitter := by
  unfold Obligations.EveryStepLeavesNothingWaitingForAFreeTransmitter
  intro s t waits next
  unfold step at next
  split at next
  · cases next
    exact waits
  · next c rest _ =>
    obtain ⟨u, answered, held⟩ := State.exec_nothingWaits (s := s.setPending rest) c waits
    cases answered.symm.trans next
    exact held

end Sys2Proof.Machine
end

section
/-! PROOFS. NOTICE_SET, and the commits and the timer that make notices (R171 to R174). -/

namespace Sys2Proof.Machine

open Sys2Proof

namespace State

/-! ## The settings N and T_n applied at once (R174) -/

/-- The deadline that T_n gives a running timer has passed; T_n = 0 gives none. -/
def deadlinePassed (s : State) : Bool :=
  match s.office.timer with
  | some t => decide (s.tables.noticeTime ≠ 0 ∧ t.started + s.tables.noticeTime * 1000 ≤ s.now)
  | none => false

/-- The timer once it has taken T_n. -/
def retimed (s : State) : Option Timer :=
  match s.office.timer with
  | some t =>
    if s.tables.noticeTime = 0 ∨ s.deadlinePassed = true then none
    else some ⟨t.started, t.started + s.tables.noticeTime * 1000⟩
  | none => none

/-- The pending notice once the timer has taken T_n. -/
def retimedNotice (s : State) : Option Causes :=
  if s.deadlinePassed then some (s.office.notice.getD 0 ||| Cause.timer.bit) else s.office.notice

/-- A running timer takes T_n, and a deadline already passed leaves cause TIMER (R174). -/
theorem retimeMitigation_eq (s : State) :
    s.retimeMitigation = s.setOffice { s.office with timer := s.retimed, notice := s.retimedNotice } := by
  unfold retimeMitigation retimed retimedNotice deadlinePassed
  cases timer : s.office.timer with
  | none => simp [setOffice, ← timer]
  | some t =>
    by_cases zero : s.tables.noticeTime = 0
    · simp [zero]
    · by_cases passed : t.started + s.tables.noticeTime * 1000 ≤ s.now
      · simp [zero, passed, Config.second, trigger, setOffice]
      · simp [zero, passed, Config.second]

theorem retimeMitigation_count (s : State) : s.retimeMitigation.office.count = s.office.count := by
  rw [retimeMitigation_eq]
  rfl

/-- The pending notice once the count that stands has met N. -/
def countedNotice (s : State) (pending : Option Causes) : Option Causes :=
  if s.tables.noticeCount ≠ 0 ∧ s.tables.noticeCount ≤ s.office.count then
    some (pending.getD 0 ||| Cause.commits.bit)
  else pending

theorem applyNoticeSettings_eq (s : State) :
    s.applyNoticeSettings
      = s.setOffice { s.office with timer := s.retimed, notice := s.countedNotice s.retimedNotice } := by
  unfold applyNoticeSettings countedNotice
  simp only [Bool.and_eq_true, decide_eq_true_eq, retimeMitigation_tables, retimeMitigation_count]
  rw [retimeMitigation_eq]
  split
  · rfl
  · rfl

theorem noticeSet_ok (s : State) {a : NoticeArgs} (count : a.count ≤ 15) (time : a.time ≤ 255) :
    s.noticeSet a
      = ((s.setTables { s.tables with noticeCount := a.count, noticeTime := a.time }).applyNoticeSettings).answer
          0x07 .ok [] :=
  if_pos (by simp [within, count, time])

theorem noticeSet_range (s : State) {a : NoticeArgs} (beyond : ¬(a.count ≤ 15 ∧ a.time ≤ 255)) :
    s.noticeSet a = s.answer 0x07 .range [] :=
  if_neg (by simpa [within] using beyond)

end State

open State in
/-- Settles O15: the settings are written, then the timer takes T_n and the count that stands meets N. -/
theorem noticeSetAppliesItsSettings : Obligations.NoticeSetAppliesItsSettings := by
  unfold Obligations.NoticeSetAppliesItsSettings
  intro s a ready
  split
  · next fits =>
    obtain ⟨count, time⟩ := fits
    rw [exec_request_answered rfl ready (s.noticeSet_ok count time)
      ((setTables_kept ..).trans (applyNoticeSettings_kept _)), applyNoticeSettings_eq]
    rfl
  · next beyond => exact exec_request_same rfl ready (s.noticeSet_range beyond)

namespace State

/-! ## A commit counted (R173) -/

/-- The notice that a commit leaves pending: COMMITS at N, EVERY while N and T_n are both 0. -/
def commitNotice (s : State) : Option Causes :=
  if s.tables.noticeCount ≠ 0 ∧ s.tables.noticeCount ≤ s.office.count then
    some (s.office.notice.getD 0 ||| Cause.commits.bit)
  else if s.tables.noticeCount = 0 ∧ s.tables.noticeTime = 0 then
    some (s.office.notice.getD 0 ||| Cause.every.bit)
  else s.office.notice

theorem startTimer_eq (s : State) :
    s.startTimer = s.setOffice { s.office with
      timer :=
        if s.office.timer = none ∧ s.tables.noticeTime ≠ 0 then some ⟨s.now, s.now + s.tables.noticeTime * 1000⟩
        else s.office.timer } := by
  unfold startTimer
  simp only [Bool.and_eq_true, Option.isNone_iff_eq_none, decide_eq_true_eq]
  split
  · rfl
  · rfl

theorem countTriggers_eq (s : State) :
    s.countTriggers = s.setOffice { s.office with notice := s.commitNotice } := by
  unfold countTriggers commitNotice
  by_cases zero : s.tables.noticeCount = 0
  · by_cases every : s.tables.noticeTime = 0
    · simp [zero, every, trigger]
    · simp [zero, every, setOffice]
  · by_cases reached : s.tables.noticeCount ≤ s.office.count
    · simp [zero, reached, trigger]
    · simp [zero, reached, setOffice]

/-! ## The timer's deadline (R173) -/

theorem exec_mitigationTimer (s : State) : exec .mitigationTimer s = .next (s.event mitigationExpiry) := rfl

/-- The state once the timer's deadline has passed. -/
def mitigated (s : State) (t : Timer) : State :=
  (s.reach t.deadline).setOffice
    { s.office with timer := none, notice := some (s.office.notice.getD 0 ||| Cause.timer.bit) }

theorem mitigationExpiry_running {s : State} {t : Timer} (timer : s.office.timer = some t) :
    s.mitigationExpiry = s.mitigated t := by
  unfold mitigationExpiry
  rw [timer]
  rfl

theorem mitigationExpiry_stopped {s : State} (timer : s.office.timer = none) : s.mitigationExpiry = s := by
  unfold mitigationExpiry
  rw [timer]

end State

open State in
/-- Settles O17: a commit is its count, its timer and its triggers; a passed deadline is one trigger, whose notice a
free transmitter begins. -/
theorem commitsAndTheirTimerMakeNotices : Obligations.CommitsAndTheirTimerMakeNotices := by
  unfold Obligations.CommitsAndTheirTimerMakeNotices
  refine ⟨fun s => ?commit, fun s t f run timer sending => ?waits, fun s t settled timer free => ?begins,
    fun s settled timer => ?stopped⟩
  case commit =>
    rw [noteCommit, startTimer_eq, countTriggers_eq]
    rfl
  case waits =>
    have busy : (s.mitigated t).office.transmitter = some f := sending
    rw [exec_mitigationTimer, event_run _ run, mitigationExpiry_running timer, pump_sending busy]
    rfl
  case begins =>
    obtain ⟨run, waits⟩ := settled
    obtain ⟨replies, notice⟩ := waits free
    have idle : (s.mitigated t).office.transmitter = none := free
    have pending : (s.mitigated t).office.notice = some Cause.timer.bit := by simp [mitigated, notice]
    rw [exec_mitigationTimer, event_run _ run, mitigationExpiry_running timer, pump_notice idle replies pending]
    simp only [mitigated, notice]
    rfl
  case stopped =>
    have left := mitigationExpiry_stopped timer
    obtain ⟨run, waits⟩ := settled
    rw [exec_mitigationTimer, event_run _ run, left, pump_eq s waits]

end Sys2Proof.Machine
end

section
/-! PROOFS. The end of a transmission (R171 to R173). -/

namespace Sys2Proof.Machine

open Sys2Proof

namespace State

/-- The state once the transmitter's frame has ended. -/
def freed (s : State) : State := s.setOffice { s.office with transmitter := none }

theorem transmitEnd_idle {s : State} (free : s.office.transmitter = none) : s.transmitEnd = s := by
  unfold transmitEnd
  rw [free]

/-- Without a RESET in hand the end of a frame frees the transmitter alone. -/
theorem transmitEnd_frees {s : State} {f : OfficeFrame} (sending : s.office.transmitter = some f)
    (hand : s.office.hand ≠ some .resetSending) : s.transmitEnd = s.freed := by
  unfold transmitEnd finishFrame
  rw [sending]
  exact if_neg hand

end State

open State in
/-- Settles O16: the frame's end frees the transmitter, which then begins what waits first. -/
theorem transmitEndBeginsTheNextFrame : Obligations.TransmitEndBeginsTheNextFrame := by
  unfold Obligations.TransmitEndBeginsTheNextFrame
  refine ⟨fun s f run sending hand => ?_, fun s settled free => ?_⟩
  · rw [exec_transmitEnd, event_run _ run, transmitEnd_frees sending hand]
    have free : s.freed.office.transmitter = none := rfl
    rcases replies : s.office.replies with _ | ⟨r | r, rest⟩
    · cases notice : s.office.notice with
      | none =>
        rw [pump_eq s.freed fun _ => ⟨replies, notice⟩]
        rfl
      | some c =>
        rw [pump_notice (u := s.freed) free replies notice]
        rfl
    · rw [pump_own (s := s.freed) free replies, Hand.begun_eq]
      rfl
    · rw [pump_busy (s := s.freed) free replies]
      rfl
  · obtain ⟨run, waits⟩ := settled
    rw [exec_transmitEnd, event_run _ run, transmitEnd_idle free, pump_eq s waits]

end Sys2Proof.Machine
end

section
/-! PROOFS. Power fail and the reset input (R171, R182 to R184, R187). -/

namespace Sys2Proof.Machine

open Sys2Proof

variable {s : State}

namespace State

theorem exec_powerFail (s : State) (cut : Bool) :
    exec (.powerFail cut) s = .next ((s.stop cut).setMainsGood false) := rfl

theorem exec_resetInput (s : State) (cut : Bool) :
    exec (.resetInput cut) s = .next ((s.stop cut).setResetReleased false) := rfl

theorem stop_running (run : s.running = true) (cut : Bool) : s.stop cut = s.outage cut := if_pos run

theorem stop_off (off : s.running = false) (cut : Bool) : s.stop cut = s := if_neg (Bool.eq_false_iff.1 off)

theorem setMainsGood_of_released {u : State} (released : u.resetReleased = true) (m : Bool) :
    u.setMainsGood m = { u with mainsGood := m, resetReleased := true } := by
  rw [← released]
  rfl

theorem setResetReleased_of_mainsGood {u : State} (good : u.mainsGood = true) (r : Bool) :
    u.setResetReleased r = { u with mainsGood := true, resetReleased := r } := by
  rw [← good]
  rfl

/-! ## What an outage leaves of each part -/

variable (s) (cut : Bool)

theorem outage_mainsGood : (s.outage cut).mainsGood = s.mainsGood := by simp [outage, dropHolds, cutWrites]

theorem outage_resetReleased : (s.outage cut).resetReleased = s.resetReleased := by
  simp [outage, dropHolds, cutWrites]

theorem outage_cutStore :
    (s.outage cut).tableStore
      = { s.tableStore with
          good := s.tableStore.good && !s.storing && !(cut && s.tableStore.writing), writing := false } := by
  simp [outage, dropHolds, cutWrites]

theorem outage_journal : (s.outage cut).journal = { s.journal with slotHolds := 0 } := by
  simp [outage, dropHolds, cutWrites]

theorem outage_cover : (s.outage cut).cover = { s.cover with held := 0 } := by
  simp [outage, dropHolds, cutWrites]

theorem outage_store :
    (s.outage cut).store = { s.store with holds := 0, carousel := .unhomed, position := none } := by
  simp [outage, dropHolds, cutWrites]

theorem outage_office :
    (s.outage cut).office
      = { s.office with hand := none, replies := [], transmitter := none, notice := none } := by
  simp [outage, dropHolds, cutWrites]

theorem outage_counts : (s.outage cut).counts = s.counts := by simp [outage, dropHolds, cutWrites]

theorem outage_intake : (s.outage cut).intake = s.intake := by simp [outage, dropHolds, cutWrites]

end State

open State in
/-- Settles O59: both stop the running controller by the same outage and differ in their pin. -/
theorem powerFailSilencesTheController : Obligations.PowerFailSilencesTheController := by
  unfold Obligations.PowerFailSilencesTheController
  intro s cut
  rw [exec_powerFail, exec_resetInput]
  refine ⟨fun run => ?running, fun off => ?off⟩
  case off =>
    rw [stop_off off]
    exact ⟨rfl, rfl⟩
  case running =>
    have pins : s.mainsGood = true ∧ s.resetReleased = true := by simpa [running] using run
    obtain ⟨mains, released⟩ := pins
    rw [stop_running run]
    refine ⟨s.outage cut, ?powerFail, ?resetInput, fun h => ?port, ?parts⟩
    case powerFail => rw [setMainsGood_of_released ((s.outage_resetReleased cut).trans released)]
    case resetInput => rw [setResetReleased_of_mainsGood ((s.outage_mainsGood cut).trans mains)]
    case port =>
      rw [drop, outage_port]
      exact ⟨rfl, rfl, rfl, rfl, rfl, rfl, rfl, rfl, rfl⟩
    case parts =>
      simp only [outage_office, outage_store, outage_cover, outage_journal, outage_cutStore, outage_counts,
        outage_intake, and_self]

end Sys2Proof.Machine
end

section
/-! PROOFS. The controller that does not run takes no event: the battery runs the clock, and the levels of the aux
contacts and the inner door are followed (R187; log entry 18). -/

namespace Sys2Proof.Machine

open Sys2Proof

variable {s : State}

namespace State

/-- An event, or a request, that comes while the controller does not run. -/
theorem exec_event_off {c : Instr} {f : State → State} (command : exec c s = .next (s.event f))
    (off : s.running = false) : exec c s = .next s := by
  rw [command, event_off f off]

/-- An input whose level is followed while the controller does not run. -/
theorem exec_level_off {c : Instr} {f : State → State} {u : State}
    (command : exec c s = if s.running then .next (s.event f) else .next u) (off : s.running = false) :
    exec c s = .next u := by
  rw [command, if_neg (Bool.eq_false_iff.1 off)]

/-- Without power the clock advances and nothing is evaluated. -/
theorem exec_clockAdvance_off (off : s.running = false) {t : ClockTime} (set : s.intake.clock = some t) :
    exec .clockAdvance s = .next (s.advanceClock t) := by
  change execClockAdvance s = _
  simp only [execClockAdvance, set, if_neg (Bool.eq_false_iff.1 off)]

end State

open State in
/-- Settles O3: each command but the seven named is an event of the running controller. -/
theorem nothingIsTakenWithoutPower : Obligations.NothingIsTakenWithoutPower := by
  unfold Obligations.NothingIsTakenWithoutPower
  intro c s off
  cases c with
  | powerFail | resetInput | startUp => trivial
  | clockAdvance =>
    dsimp only
    split
    · next unset => exact exec_clockAdvance_unset unset
    · next t set => exact exec_clockAdvance_off off set
  | surroundOpening h b => exact exec_level_off (u := s.setContact h b) rfl off
  | doorOpens => exact exec_level_off (u := s.setDoor true) rfl off
  | doorCloses => exact exec_level_off (u := s.setDoor false) rfl off
  | _ => exact exec_event_off rfl off

end Sys2Proof.Machine
end

section
/-! PROOFS. The machine after reset (R89, R188 to R190). -/

namespace Sys2Proof.Machine

open Sys2Proof

namespace State

theorem reset_drop (h : Hatch) : reset.drop h = .offline := congrArg Port.drop (PerHatch.get_all _ h)

theorem reset_bin (b : BinNo) : reset.bin b = Bin.lost := Tab.get_fill 30 Bin.lost b

/-- Every machine is OFFLINE, and S, H and C are 0. -/
theorem reset_sound : reset.Sound := .ofNone reset_drop rfl rfl rfl (Nat.le_refl 0)

/-- The start-up notice is in transmission. -/
theorem reset_nothingWaits : reset.NothingWaits := fun free => absurd free (Option.some_ne_none _)

end State

open State in
/-- Settles O5: the invariants follow from every machine being OFFLINE with nothing held; the rest is read off. -/
theorem resetStateHolds : Obligations.ResetStateHolds := by
  unfold Obligations.ResetStateHolds
  exact ⟨reset_sound, Nat.zero_le _, MapAccess.whole_inside, reset_nothingWaits, rfl, rfl, rfl, rfl, rfl, reset_bin,
    rfl, rfl, rfl, rfl, rfl, reset_drop, rfl, rfl, rfl, rfl, rfl⟩

end Sys2Proof.Machine
end

section
/-! SUPPORT. The queue of commands, the power pins and the latched straps through the commands that move the map's
access window or pointer (R57 to R60), and through the end of a transmission with the steps of RESET (R191). -/

namespace Sys2Proof.Machine

open Sys2Proof

/-- `t` has the queue, the power pins and the straps of `s`. -/
structure PinsKept (s t : State) : Prop where
  pending : t.pending = s.pending
  mainsGood : t.mainsGood = s.mainsGood
  resetReleased : t.resetReleased = s.resetReleased
  straps : t.straps = s.straps

variable {s t u : State}

theorem Framed.pinsKept (framed : Framed s t) : PinsKept s t :=
  ⟨framed.pending, framed.mainsGood, framed.resetReleased, framed.straps⟩

theorem Kept.pinsKept (kept : Kept s t) : PinsKept s t := kept.framed.pinsKept

namespace PinsKept

theorem refl (s : State) : PinsKept s s := (Framed.refl s).pinsKept

theorem trans (a : PinsKept s t) (b : PinsKept t u) : PinsKept s u :=
  ⟨b.pending.trans a.pending, b.mainsGood.trans a.mainsGood, b.resetReleased.trans a.resetReleased,
    b.straps.trans a.straps⟩

theorem setOffice (a : PinsKept s t) (o : Office) : PinsKept s (t.setOffice o) :=
  ⟨a.pending, a.mainsGood, a.resetReleased, a.straps⟩

theorem setMapAccess (a : PinsKept s t) (m : MapAccess) : PinsKept s (t.setMapAccess m) :=
  ⟨a.pending, a.mainsGood, a.resetReleased, a.straps⟩

theorem answer (a : PinsKept s t) (c : Nat) (x : Result) (d : List Byte) : PinsKept s (t.answer c x d) := a.setOffice _

end PinsKept

namespace State

/-! ## The map requests -/

theorem mapWindow_pinsKept (s : State) (a : RangeArgs) : PinsKept s (s.mapWindow a) := by
  unfold mapWindow
  split
  · exact ((PinsKept.refl s).setMapAccess _).answer ..
  · exact (PinsKept.refl s).answer ..

theorem mapWrite_pinsKept (s : State) (a : MapWriteArgs) : PinsKept s (s.mapWrite a) := by
  unfold mapWrite
  split
  · exact (PinsKept.refl s).answer ..
  · split
    · exact (PinsKept.refl s).answer ..
    · exact ((setTables_kept ..).pinsKept.setMapAccess _).answer ..

theorem mapRead_pinsKept (s : State) (n : Nat) : PinsKept s (s.mapRead n) := by
  unfold mapRead
  split
  · exact ((PinsKept.refl s).setMapAccess _).answer ..
  · exact (PinsKept.refl s).answer ..

/-! ## The end of a transmission -/

theorem clearOffice_pinsKept (s : State) : PinsKept s s.clearOffice :=
  (((PinsKept.refl s).setOffice _).setOffice _).trans (setPorts_kept ..).pinsKept

theorem resetDrop_kept (s : State) (h : Hatch) : Kept s (s.resetDrop h) := .ite (dropLink_kept ..) (.refl s)

theorem resetStore_kept (s : State) : Kept s s.resetStore :=
  ((startHoming_kept s).trans (setStore_kept ..)).trans (.foldl (fun _ _ => modPort_kept ..) _ _)

theorem resetPort_kept (s : State) (h : Hatch) : Kept s (s.resetPort h) :=
  .ite (modPort_kept ..) ((enterHoldOff_kept ..).trans (modPort_kept ..))

/-- Steps 2 to 5 of RESET, which follow the clearing of the office port. -/
theorem resetPorts_kept (s : State) : Kept s.clearOffice s.resetPorts := by
  have transactions : Kept s.clearOffice s.resetTransactions := .foldl resetDrop_kept _ _
  have intake : Kept s.resetTransactions s.resetIntake := (setIntake_kept ..).trans (evalIntake_kept _)
  exact ((transactions.trans intake).trans (resetStore_kept _)).trans (.foldl resetPort_kept _ _)

theorem resetSteps_pinsKept (s : State) : PinsKept s s.resetSteps := by
  have disarmed := (clearOffice_pinsKept s).trans ((resetPorts_kept s).trans (disarmAll_kept _)).pinsKept
  rw [resetSteps_eq]
  exact ((disarmed.setMapAccess _).trans (freshMarks_kept _).pinsKept).setOffice _

theorem transmitEnd_pinsKept (s : State) : PinsKept s s.transmitEnd := by
  have free := (PinsKept.refl s).setOffice { s.office with transmitter := none }
  unfold transmitEnd
  split
  · exact .refl s
  · unfold finishFrame
    split
    · exact free.trans (resetSteps_pinsKept _)
    · exact free

end State

end Sys2Proof.Machine
end

section
/-! SUPPORT. The queue of commands through an outage and every phase of start-up (R187 to R190). -/

namespace Sys2Proof.Machine

open Sys2Proof

variable {s : State}

namespace State

theorem outage_pending (s : State) (b : Bool) : (s.outage b).pending = s.pending := by
  simp [outage, cutWrites, dropHolds]

theorem stop_pending (s : State) (b : Bool) : (s.stop b).pending = s.pending := by
  unfold stop
  split
  · exact outage_pending s b
  · rfl

theorem abandon_pending (s : State) : s.abandon.pending = s.pending := outage_pending s false

theorem phase1_pending (s : State) (a : StartUpArgs) : (s.phase1 a).pending = s.pending :=
  (clearOffice_pinsKept s).pending

theorem loadStored_kept (s : State) : Kept s s.loadStored :=
  .ite (setTables_kept ..) ((latch_kept ..).trans (setTables_kept ..))

theorem phase3_pending (s : State) (a : StartUpArgs) : (s.phase3 a).pending = s.pending := by
  have loaded := (loadStored_kept s).trans (setJournal_kept _ { s.loadStored.journal with epoch := s.loadedEpoch a })
  have matched := (loaded.trans (clampLimit_kept _)).trans (matchCounts_kept _)
  exact ((matched.pinsKept.setMapAccess _).trans (disarmAll_kept _).pinsKept).pending

/-- Each phase of start-up, with the events that fall after it, leaves the queue. -/
theorem phases_pending (a : StartUpArgs) {f : State → State} (phase : f ∈ phases a) (s : State) :
    (f s).pending = s.pending := by
  have events (x : State) (n : Nat) : (x.between a n).pending = x.pending := (between_framed x a n).pending
  simp only [phases, List.mem_cons, List.not_mem_nil, or_false] at phase
  rcases phase with rfl | rfl | rfl | rfl | rfl | rfl | rfl
  · exact (events _ 1).trans (phase1_pending s a)
  · exact (events _ 2).trans (phase2_kept s a).pending
  · exact (events _ 3).trans (phase3_pending s a)
  · exact (events _ 4).trans (phase4_kept s).pending
  · exact (events _ 5).trans (phase5_kept s).pending
  · exact (events _ 6).trans (phase6_kept s).pending
  · exact (phase7_kept s).pending

theorem runPhases_pending (a : StartUpArgs) (n : Nat) (s : State) : (runPhases a n s).pending = s.pending :=
  List.foldlRecOn (motive := fun x : State => x.pending = s.pending) _ _ rfl fun x before _ taken =>
    (phases_pending a (List.mem_of_mem_take taken) x).trans before

theorem cutPhase2_pending (a : StartUpArgs) (b : Bool) (s : State) : (cutPhase2 a b s).pending = s.pending := by
  have started : ((s.phase1 a).between a 1).pending = s.pending := runPhases_pending a 1 s
  have lost := (loseRetained_kept ((s.phase1 a).between a 1)).pending.trans started
  unfold cutPhase2
  split
  · exact (abandon_pending _).trans started
  · split
    · exact (abandon_pending _).trans lost
    · exact (abandon_pending _).trans lost

theorem startUpEvent_pending (a : StartUpArgs) (s : State) : (startUpEvent a s).pending = s.pending := by
  unfold startUpEvent
  split
  · exact (pump_part State.pending (fun _ _ => rfl) _).trans (runPhases_pending a 7 s)
  · exact (abandon_pending _).trans (runPhases_pending a _ s)
  · exact cutPhase2_pending a false s
  · exact cutPhase2_pending a true s

theorem offState_pending (s : State) : (offState s).pending = s.pending := outage_pending s false

end State

end Sys2Proof.Machine
end

section
/-! PROOFS. What every command leaves: the queue, and but for the power commands the pins and the straps (R186,
R187). -/

namespace Sys2Proof.Machine

open Sys2Proof

/-- POWER_FAIL, RESET_INPUT and START_UP. -/
def powerCommand : Instr → Bool
  | .powerFail _ | .resetInput _ | .startUp _ => true
  | _ => false

variable {s : State}

namespace State

theorem exec_event_pinsKept {i : Instr} {f : State → State} (command : exec i s = .next (s.event f))
    (kept : PinsKept s (f s)) : ∃ t, exec i s = .next t ∧ PinsKept s t :=
  ⟨_, command, event_satisfies (fun _ o a => a.setOffice o) (.refl s) kept⟩

theorem exec_request_pinsKept {i : Instr} {α : Type} {c : Nat} {p : Params α} {f : α → State}
    (command : exec i s = .next (s.request c p f)) (kept : ∀ a, PinsKept s (f a)) :
    ∃ t, exec i s = .next t ∧ PinsKept s t :=
  ⟨_, command, request_satisfies (fun _ o a => a.setOffice o) (.refl s) kept⟩

theorem exec_pinsKept {c : Instr} (other : powerCommand c = false) (s : State) :
    ∃ t, exec c s = .next t ∧ PinsKept s t := by
  cases leaves : leavesFrame c with
  | true =>
    obtain ⟨t, next, framed⟩ := exec_framed leaves s
    exact ⟨t, next, framed.pinsKept⟩
  | false =>
    unfold leavesFrame at leaves
    split at leaves
    · exact exec_request_pinsKept rfl s.mapWindow_pinsKept
    · exact exec_request_pinsKept rfl s.mapWrite_pinsKept
    · exact exec_request_pinsKept rfl s.mapRead_pinsKept
    · exact exec_event_pinsKept rfl s.transmitEnd_pinsKept
    · cases other
    · cases other
    · cases other
    · cases leaves

end State

open State in
/-- Settles O2: the power commands leave the queue through the outage and each phase, every other command leaves the
pins and the straps as well. -/
theorem everyCommandAnswersAndLeavesTheQueue : Obligations.EveryCommandAnswersAndLeavesTheQueue := by
  unfold Obligations.EveryCommandAnswersAndLeavesTheQueue
  intro c s
  cases power : powerCommand c with
  | false =>
    obtain ⟨t, next, pending, mainsGood, resetReleased, straps⟩ := exec_pinsKept power s
    refine ⟨t, next, pending, ?pins⟩
    case pins =>
      split
      · trivial
      · trivial
      · trivial
      · exact ⟨mainsGood, resetReleased, straps⟩
  | true =>
    unfold powerCommand at power
    split at power
    · next b => exact ⟨_, exec_powerFail s b, stop_pending s b, trivial⟩
    · next b => exact ⟨_, exec_resetInput s b, stop_pending s b, trivial⟩
    · next a => exact ⟨_, exec_startUp a s, (startUpEvent_pending a _).trans (offState_pending s), trivial⟩
    · cases power

end Sys2Proof.Machine
end

section
/-! PROOFS. The step by the queue: its front command, or the idle tick (log entries 1 and 3). -/

namespace Sys2Proof.Machine

open Sys2Proof

theorem step_of_pending_cons {s : State} {c : Instr} {rest : List Instr} (front : s.pending = c :: rest) :
    step s = exec c (s.setPending rest) := by
  simp only [step, front]

theorem step_of_pending_nil {s : State} (idle : s.pending = []) : step s = .next s.tick := by
  simp only [step, idle]

/-- Settles O1: the step by the queue; the rest then takes the place of the whole queue, and an idle tick moves the time
base alone. -/
theorem stepRunsTheFrontCommand : Obligations.StepRunsTheFrontCommand := by
  unfold Obligations.StepRunsTheFrontCommand
  constructor
  case left =>
    intro c rest s
    exact step_of_pending_cons (s := s.setPending (c :: rest)) rfl
  case right =>
    intro s
    exact step_of_pending_nil (s := s.setPending []) rfl

end Sys2Proof.Machine
end
